-- ==== Sys2Proof/Word.lean ====
section
/-! DEFINITION. The widths of the block: bytes, link numbers and the words that cross a link (Table 11-2). -/

namespace Sys2Proof

/-- One byte of a frame. -/
abbrev Byte := BitVec 8

/-- A head port, 0 to 3 (Table 0-2). -/
abbrev Port := Fin 4

/-- A request tag, 0 to 15 (R179). -/
abbrev Tag := Fin 16

/-- A span number, 0 to 15 (R28). -/
abbrev SpanId := Fin 16

/-- A pool number, 0 to 7 (R34). -/
abbrev PoolId := Fin 8

/-- A set of the sub-blocks 0 to 31: bit k is 1 when sub-block k is a member (Table 11-3). -/
abbrev Mask := BitVec 32

/-- The generation G, an acknowledged generation or a batch tag (R108). -/
abbrev Gen := BitVec 64

/-- The four ports in ascending order. -/
def allPorts : List Port := [0, 1, 2, 3]

/-- The sixteen tags in ascending order. -/
def allTags : List Tag := [0, 1, 2, 3, 4, 5, 6, 7, 8, 9, 10, 11, 12, 13, 14, 15]

/-- The sixteen spans in ascending order. -/
def allSpans : List SpanId := [0, 1, 2, 3, 4, 5, 6, 7, 8, 9, 10, 11, 12, 13, 14, 15]

/-- The eight pools in ascending order. -/
def allPools : List PoolId := [0, 1, 2, 3, 4, 5, 6, 7]

end Sys2Proof
end

