-- ==== Sys2Proof/Syntax.lean ====
section
/-! DEFINITION. The commands of the block, one constructor per row of spec/opcode_table.json.
A request carries its port, its tag and the body fields of Table 11-4 at their field widths (Table 11-2);
an event carries what the outside decides about it. -/

namespace Sys2Proof

/-- The port and tag that a request's answer goes to (Table 8-2). -/
structure Origin where
  port : Port
  tag : Tag
  deriving DecidableEq, Repr

/-- The area of a map store location and what it names (R158). -/
inductive StoreArea where
  | entry (volume index : Nat)
  | volume (id : Nat)
  | tenant (id : Nat)
  | span (id : Nat)
  | pool (id : Nat)
  | config
  | bootCount
  | logSlot (slot : Nat)
  | retiredMark
  deriving DecidableEq, Repr

/-- What the map store reports for a read that is not good (R160). -/
inductive ReadFault where
  | corrected
  | uncorrectable
  deriving DecidableEq, Repr

/-- The reads that the map store does not report good, by the area read. An area that is not listed reads good. -/
abbrev Reads := List (StoreArea × ReadFault)

/-- A change queue: a volume's, or the shelf's (R141). -/
inductive QueueId where
  | volume (id : Nat)
  | shelf
  deriving DecidableEq, Repr

/-- Which write the map store reports failed (R160, R157). -/
inductive WriteTarget where
  /-- the image of the WRITING intent that holds this log slot (R147) -/
  | logImage (slot : Nat)
  /-- the next effect of the intent in APPLYING, and whether the read of its cell was corrected (R148, R160) -/
  | effect (corrected : Bool)
  /-- the retirement of the intent in APPLYING (R149) -/
  | retirement
  /-- the boot count, during recovery (R153, R157) -/
  | bootCount
  /-- the write-back of a corrected read (R160) -/
  | writeBack (area : StoreArea)
  /-- effect number k, from 0, of the intent that recovery replays next, with what the reads before it met (R157) -/
  | replayEffect (k : Nat) (reads : Reads)
  /-- the retirement of the intent that recovery replays next, with what the reads before it met (R157) -/
  | replayRetirement (reads : Reads)
  deriving DecidableEq, Repr

/-- One item of a Watch: a volume id, an expected holder (a port byte) and an expected latch (R184). -/
structure WatchItem where
  volume : BitVec 16
  holder : Byte
  latch : Byte
  deriving DecidableEq, Repr

/-- The commands. -/
inductive Instr where
  | join (p : Port) (t : Tag) (incarnation : BitVec 32)
  | renew (p : Port) (t : Tag) (incarnation : BitVec 32) (ack : Gen)
  | leave (p : Port) (t : Tag)
  | configure (p : Port) (t : Tag) (period : Byte) (liveTicks grantTicks recallTicks graceTicks : BitVec 32)
  | queryPart (p : Port) (t : Tag)
  | queryFaults (p : Port) (t : Tag)
  | clearFault (p : Port) (t : Tag) (source : Byte)
  | claim (p : Port) (t : Tag) (volume : BitVec 16) (wait recallFlag : Byte)
  | release (p : Port) (t : Tag) (volume : BitVec 16)
  | createVolume (p : Port) (t : Tag) (volume tenant : BitVec 16) (pool : Byte) (size : BitVec 32) (mode : Byte)
  | deleteVolume (p : Port) (t : Tag) (volume : BitVec 16)
  | resizeVolume (p : Port) (t : Tag) (volume : BitVec 16) (size : BitVec 32)
  | setVolumeMode (p : Port) (t : Tag) (volume : BitVec 16) (mode : Byte)
  | queryVolume (p : Port) (t : Tag) (volume : BitVec 16) (clear : Byte)
  | setTenant (p : Port) (t : Tag) (tenant : BitVec 16) (quota : BitVec 32)
  | queryTenant (p : Port) (t : Tag) (tenant : BitVec 16)
  | resolve (p : Port) (t : Tag) (volume : BitVec 16) (first : BitVec 32) (count : Byte) (reads : Reads)
  | noteWritten (p : Port) (t : Tag) (volume : BitVec 16) (index : BitVec 32) (written : Mask) (reads : Reads)
  | unmap (p : Port) (t : Tag) (volume : BitVec 16) (first : BitVec 32) (count : BitVec 16)
  | reserve (p : Port) (t : Tag) (volume : BitVec 16) (first : BitVec 32) (count : Byte) (reads : Reads)
  | bind (p : Port) (t : Tag) (grant serial check : BitVec 16) (advance : Byte) (written : List Mask)
  | abandon (p : Port) (t : Tag) (grant serial : BitVec 16)
  | relocate (p : Port) (t : Tag) (volume : BitVec 16) (index : BitVec 32) (reads : Reads)
  | completeRelocate (p : Port) (t : Tag) (grant serial check : BitVec 16)
  | addSpan (p : Port) (t : Tag) (span pool : Byte) (length : BitVec 32)
  | drainSpan (p : Port) (t : Tag) (span setting : Byte)
  | removeSpan (p : Port) (t : Tag) (span : Byte)
  | setPool (p : Port) (t : Tag) (pool : Byte) (warn critical floor : BitVec 32)
  | queryPool (p : Port) (t : Tag) (pool : Byte)
  | watch (p : Port) (t : Tag) (timeout : BitVec 32) (items : List WatchItem)
  | unknownRequestKind (p : Port) (t : Tag) (code : Byte) (body : List Byte)
  | frameDamaged (p : Port) (frame : List Byte)
  | powerOn (boot : Option ReadFault)
  | lineReset (boot : Option ReadFault)
  | linkUp (p : Port)
  | linkDown (p : Port)
  | answerSent (p : Port)
  | noticeDelivered (p : Port)
  | tick
  | livenessExpiry
  | grantExpiry
  | recallExpiry
  | stallExpiryQuiet
  | stallExpiryWarned
  | watchTimeout
  | validate (queue : QueueId) (reads : Reads)
  | logSlotTaken
  | logWriteAck (slot : Nat)
  | applyStart
  | effectWriteAck (corrected : Bool)
  | retireAck (reads : Reads := [])
  | storeWriteFailed (target : WriteTarget)
  | recoveryReplayIntent (reads : Reads)
  | recoverySweep (reads : Reads)
  | recoveryEnd
  | deletionAdmitted (reads : Reads := [])
  | effectReadUncorrectable
  deriving DecidableEq, Repr

end Sys2Proof
end

