-- ==== Sys2Proof/Config.lean ====
section
/-! DEFINITION. What is fixed for the part (Table 0-2 and the limits of the rules) and the one free value. -/

namespace Sys2Proof.Config

/-- FREE VALUE. The map store address of a fault location (R158): the organisation of the map store device is outside
the spec, so the address of the area met by the n-th store fault is not known. Log 9. -/
opaque storeAddress : StoreArea → Nat → BitVec 32

/-- Volume ids run to 4095 (R3). -/
def lastVolume : Nat := 4095

/-- Tenant ids run to 255 (R6). -/
def lastTenant : Nat := 255

/-- The largest volume or span, in extents (R18, R38). -/
def maxExtents : Nat := 16777216

/-- The largest quota, pool setting and registered total, in extents (R6, R38, R42). -/
def maxTotal : Nat := 33554432

/-- Grant records (R46). -/
def grantRecords : Nat := 1024

/-- The admission limit of the grace list (R113). -/
def admissionLimit : Nat := 3072

/-- Slots of the intent log (R145). -/
def logSlots : Nat := 512

/-- Notices a notice set holds (R174). -/
def noticePlaces : Nat := 64

/-- The most entries one Unmap or removal batch removes (R24, R116). -/
def removalLimit : Nat := 4096

end Sys2Proof.Config
end

