-- ==== Sys2Proof/WellFormed.lean ====
section
/-! DEFINITION. Which commands a frame or an event can carry. A field's width is in its type; these are the checks that are left:
the count bytes of Bind and Watch (R184), the 2-byte body length (Table 11-1), the 512 log slots (R145), the ids of
store areas (R158), and the order and uniqueness of a report of reads. The meanings are total and do not rely on them. -/

namespace Sys2Proof

/-- The ids that a store area names exist (R158, Table 0-2). -/
def StoreArea.wf : StoreArea → Bool
  | .entry v i => decide (v ≤ Config.lastVolume) && decide (i < 2 ^ 32)
  | .volume v => decide (v ≤ Config.lastVolume)
  | .tenant t => decide (t ≤ Config.lastTenant)
  | .span s => decide (s < 16)
  | .pool p => decide (p < 8)
  | .config => true
  | .bootCount => true
  | .logSlot n => decide (n < Config.logSlots)
  | .retiredMark => true

/-- A report of reads names existing areas, each once. -/
def Reads.wf (r : Reads) : Bool :=
  r.all (fun e => e.1.wf) && decide ((r.map Prod.fst).Nodup)

/-- The write that failed names an existing slot or area. -/
def WriteTarget.wf : WriteTarget → Bool
  | .logImage n => decide (n < Config.logSlots)
  | .writeBack a => a.wf
  | .replayEffect k reads => decide (k < Config.removalLimit) && reads.wf
  | .replayRetirement reads => reads.wf
  | .effect _ => true
  | .retirement => true
  | .bootCount => true

/-- The volume queue exists (R141). -/
def QueueId.wf : QueueId → Bool
  | .volume v => decide (v ≤ Config.lastVolume)
  | .shelf => true

/-- A command that a frame or an event can carry. -/
def Instr.wf : Instr → Bool
  | .bind _ _ _ _ _ _ written => decide (written.length < 256)
  | .watch _ _ _ items => decide (items.length < 256)
  | .unknownRequestKind _ _ _ body => decide (body.length < 65536)
  | .resolve _ _ _ _ _ reads => reads.wf
  | .noteWritten _ _ _ _ _ reads => reads.wf
  | .reserve _ _ _ _ _ reads => reads.wf
  | .relocate _ _ _ _ reads => reads.wf
  | .validate q reads => q.wf && reads.wf
  | .logWriteAck n => decide (n < Config.logSlots)
  | .storeWriteFailed t => t.wf
  | .recoveryReplayIntent reads => reads.wf
  | .recoverySweep reads => reads.wf
  | .join _ _ _ => true
  | .renew _ _ _ _ => true
  | .leave _ _ => true
  | .configure _ _ _ _ _ _ _ => true
  | .queryPart _ _ => true
  | .queryFaults _ _ => true
  | .clearFault _ _ _ => true
  | .claim _ _ _ _ _ => true
  | .release _ _ _ => true
  | .createVolume _ _ _ _ _ _ _ => true
  | .deleteVolume _ _ _ => true
  | .resizeVolume _ _ _ _ => true
  | .setVolumeMode _ _ _ _ => true
  | .queryVolume _ _ _ _ => true
  | .setTenant _ _ _ _ => true
  | .queryTenant _ _ _ => true
  | .unmap _ _ _ _ _ => true
  | .abandon _ _ _ _ => true
  | .completeRelocate _ _ _ _ _ => true
  | .addSpan _ _ _ _ _ => true
  | .drainSpan _ _ _ _ => true
  | .removeSpan _ _ _ => true
  | .setPool _ _ _ _ _ _ => true
  | .queryPool _ _ _ => true
  | .frameDamaged _ _ => true
  | .powerOn _ => true
  | .lineReset _ => true
  | .linkUp _ => true
  | .linkDown _ => true
  | .answerSent _ => true
  | .noticeDelivered _ => true
  | .tick => true
  | .livenessExpiry => true
  | .grantExpiry => true
  | .recallExpiry => true
  | .stallExpiryQuiet => true
  | .stallExpiryWarned => true
  | .watchTimeout => true
  | .logSlotTaken => true
  | .applyStart => true
  | .effectWriteAck _ => true
  | .retireAck reads => reads.wf
  | .recoveryEnd => true
  | .deletionAdmitted reads => reads.wf
  | .effectReadUncorrectable => true

end Sys2Proof
end

