-- ==== Sys2Proof/Decode.lean ====
section
/-! DEFINITION. The opcode table of this block gives its rows no bits, so no word spells a command.
Request frames are another matter: their bytes are read in Machine/Frames.lean (R180, R182 to R184). -/

namespace Sys2Proof

/-- No row of spec/opcode_table.json gives bits: no word spells a command (log 1). -/
def decodeTableWord (_nbits _w : Nat) : Option Instr := none

end Sys2Proof
end

