-- ==== Sys2Proof/Machine/Table.lean ====
section
/-! DEFINITION. Sparse tables and free sets as plain data in one canonical form. -/

namespace Sys2Proof.Machine

/-- A sparse table: (key, value) pairs, keys strictly rising. -/
abbrev Table (α : Type) := List (Nat × α)

namespace Table

/-- The value listed at a key. -/
def get? {α : Type} : Table α → Nat → Option α
  | [], _ => none
  | (k, a) :: t, n => if k = n then some a else get? t n

/-- The value at a key, `d` where none is listed. -/
def getD {α : Type} (d : α) (t : Table α) (n : Nat) : α := (get? t n).getD d

/-- The table with a value at a key, in its place in the order of keys. -/
def insert {α : Type} (n : Nat) (a : α) : Table α → Table α
  | [] => [(n, a)]
  | (k, b) :: t =>
    if n < k then (n, a) :: (k, b) :: t
    else if n = k then (n, a) :: t
    else (k, b) :: insert n a t

/-- The table without a key. -/
def erase {α : Type} (n : Nat) (t : Table α) : Table α := t.filter (fun e => decide (e.1 ≠ n))

/-- The table with a value at a key, nothing listed where the value is the default `d`. -/
def setD {α : Type} [DecidableEq α] (d : α) (n : Nat) (a : α) (t : Table α) : Table α :=
  if a = d then erase n t else insert n a t

/-- The canonical form: keys strictly rising. -/
def wf {α : Type} (t : Table α) : Bool := decide ((t.map Prod.fst).Pairwise (· < ·))

/-- The canonical form of a table with a default: keys strictly rising, no default listed. -/
def wfD {α : Type} [DecidableEq α] (d : α) (t : Table α) : Bool := wf t && t.all (fun e => decide (e.2 ≠ d))

end Table

/-- A set of extent indices as runs (lowest, highest), strictly rising and never touching (R28 "free set"). -/
abbrev FreeSet := List (Nat × Nat)

namespace FreeSet

/-- Membership. -/
def mem (i : Nat) (f : FreeSet) : Bool := f.any (fun r => decide (r.1 ≤ i) && decide (i ≤ r.2))

/-- Every index below n. -/
def full (n : Nat) : FreeSet := if n = 0 then [] else [(0, n - 1)]

/-- The number of members. -/
def count : FreeSet → Nat
  | [] => 0
  | (lo, hi) :: t => (hi + 1 - lo) + count t

/-- The lowest member at or above c. -/
def next? (c : Nat) : FreeSet → Option Nat
  | [] => none
  | (lo, hi) :: t => if c ≤ hi ∧ lo ≤ hi then some (max c lo) else next? c t

/-- The set without a member. -/
def remove (i : Nat) : FreeSet → FreeSet
  | [] => []
  | (lo, hi) :: t =>
    if lo ≤ i ∧ i ≤ hi then
      (if lo < i then [(lo, i - 1)] else []) ++ (if i < hi then [(i + 1, hi)] else []) ++ remove i t
    else (lo, hi) :: remove i t

/-- The set with one more member, merged with the runs it touches. -/
def insert (i : Nat) : FreeSet → FreeSet
  | [] => [(i, i)]
  | (lo, hi) :: t =>
    if i + 1 < lo then (i, i) :: (lo, hi) :: t
    else if i + 1 = lo then (i, hi) :: t
    else if i ≤ hi then (lo, hi) :: t
    else if i = hi + 1 then
      match t with
      | [] => [(lo, i)]
      | (lo', hi') :: t' => if lo' = i + 1 then (lo, hi') :: t' else (lo, i) :: (lo', hi') :: t'
    else (lo, hi) :: insert i t

/-- The canonical form: each run holds an index, and a gap stands between two runs. -/
def wf : FreeSet → Bool
  | [] => true
  | [(lo, hi)] => decide (lo ≤ hi)
  | (lo, hi) :: (lo', hi') :: t => decide (lo ≤ hi) && decide (hi + 1 < lo') && wf ((lo', hi') :: t)

end FreeSet

end Sys2Proof.Machine
end

