-- ==== Sys2Proof/Machine/State.lean ====
section
/-! DEFINITION. Everything the spec gives the part, as plain data, and the state right after the first power-on. -/

namespace Sys2Proof.Machine

/-! ## Names of the records' values -/

/-- The part mode (R161). -/
inductive PartMode where
  | recovering | serving | frozen
  deriving DecidableEq, Repr

/-- The cause of the last recovery (R153). -/
inductive ResetCause where
  | power | line
  deriving DecidableEq, Repr

/-- The tick period: 250 µs, 1 ms or 4 ms (R106). -/
inductive TickPeriod where
  | us250 | ms1 | ms4
  deriving DecidableEq, Repr

/-- The life state of a volume (Table 1-2). -/
inductive VolState where
  | absent | active | readOnly | deleting
  deriving DecidableEq, Repr

/-- The registration state of a span (Table 2-2). -/
inductive SpanState where
  | absent | online | draining
  deriving DecidableEq, Repr

/-- The level of a pool (R37). -/
inductive Level where
  | normal | low | critical
  deriving DecidableEq, Repr

/-- The kind of a grant (Table 3-1). -/
inductive GrantKind where
  | allocate | relocate
  deriving DecidableEq, Repr

/-- The state of a live grant: STAGED with its expiry countdown, or BINDING (Table 3-2). A FREE record is not listed. -/
inductive GrantState where
  | staged (countdown : Nat)
  | binding
  deriving DecidableEq, Repr

/-- The level of a fence line (R94). -/
inductive Fence where
  | asserted | released
  deriving DecidableEq, Repr

/-- The stage of a deletion (section 1.7). -/
inductive Stage where
  | marking | removing | ending
  deriving DecidableEq, Repr

/-- Who holds a lease, as Resolve, QueryVolume and watches report it (R13, R169). -/
inductive HolderView where
  | port (p : Port)
  | none
  | orphaned
  deriving DecidableEq, Repr

/-- The kinds of request, Table 11-4. -/
inductive RequestKind where
  | join | renew | leave | configure | queryPart | queryFaults | clearFault
  | claim | release
  | createVolume | deleteVolume | resizeVolume | setVolumeMode | queryVolume | setTenant | queryTenant
  | resolve | noteWritten | unmap
  | reserve | bind | abandon | relocate | completeRelocate
  | addSpan | drainSpan | removeSpan | setPool | queryPool
  | watch
  deriving DecidableEq, Repr

/-- Refusal reasons, Table 11-6. -/
inductive Reason where
  | badForm | tagReuse | notJoined | staleIncarnation | starting | frozen | noVolume | volumeState | notHolder
  | contended | range | alreadyMapped | inGrant | notMapped | poolFull | quota | noGrantSlot | checkMismatch
  | grantExpired | grantState | graceFull | spanState | capacity | mappedBeyond | busyVolume | cancelled | exists
  deriving DecidableEq, Repr

/-- Outcomes of answers, Table 11-5, with the reason of a refusal. -/
inductive AnswerOutcome where
  | done | granted | bound | moved | deleted | joined | changed | unchanged
  | refused (r : Reason)
  deriving DecidableEq, Repr

/-! ## Faults -/

/-- The six fault records (R158). -/
inductive FaultSource where
  | mapStore | log | port (p : Port)
  deriving DecidableEq, Repr

/-- The kinds of fault (Table 9-1). -/
inductive FaultKind where
  | corrected | uncorrectable | writeFailed | frameDamaged | tagReuse
  deriving DecidableEq, Repr

/-- Where a fault was met: a store area, met as the n-th store fault (log 9), or a frame of a kind code, UNREADABLE when absent. -/
inductive FaultPlace where
  | store (area : StoreArea) (stamp : Nat)
  | frame (code : Option Byte)
  deriving DecidableEq, Repr

/-- One fault record: CLEAR, or HELD with a kind and a place; and the overflow flag (Table 9-1). -/
structure FaultRecord where
  held : Option (FaultKind × FaultPlace)
  overflow : Bool
  deriving DecidableEq, Repr

/-- A CLEAR record. -/
def FaultRecord.clear : FaultRecord := ⟨none, false⟩

/-- The six records. -/
structure FaultRecords where
  mapStore : FaultRecord
  log : FaultRecord
  ports : Vector FaultRecord 4
  deriving DecidableEq, Repr

/-- Every record CLEAR. -/
def FaultRecords.clear : FaultRecords := ⟨.clear, .clear, Vector.replicate 4 .clear⟩

/-- The record and the kind of the fault that froze the part (R158). -/
structure FreezeCause where
  source : FaultSource
  kind : FaultKind
  deriving DecidableEq, Repr

/-! ## Space, volumes, tenants -/

/-- A physical extent reference span:index. -/
structure Extent where
  span : SpanId
  index : Nat
  deriving DecidableEq, Repr

/-- A map entry: its placement and its unwritten set (R8). Its condition and forward target stand in the grant table (R125). -/
structure Entry where
  placement : Extent
  unwritten : Mask
  deriving DecidableEq, Repr

/-- The deletion record (section 1.7). -/
structure Deletion where
  requester : Option Origin
  stage : Stage
  paused : Bool
  deriving DecidableEq, Repr

/-- A volume record (Table 1-1). -/
structure Volume where
  state : VolState
  tenant : Nat
  pool : PoolId
  size : Nat
  mapped : Nat
  pending : Nat
  latch : Bool
  deletion : Option Deletion
  deriving DecidableEq, Repr

/-- The record of an id that has no volume, as a reset leaves it: ABSENT, tenant 0, pool 0, size 0, counts 0, latch 1 (R1, R4). -/
def Volume.absent : Volume := ⟨.absent, 0, 0, 0, 0, 0, true, none⟩

/-- A tenant record (R5); no quota is NONE. -/
structure Tenant where
  quota : Option Nat
  used : Nat
  pending : Nat
  deriving DecidableEq, Repr

/-- The tenant record of the factory: quota NONE, counts 0 (R5). -/
def Tenant.fresh : Tenant := ⟨none, 0, 0⟩

/-- A span record (Table 2-1). -/
structure Span where
  state : SpanState
  pool : PoolId
  length : Nat
  free : FreeSet
  freeCount : Nat
  cursor : Nat
  deriving DecidableEq, Repr

/-- A span record in state ABSENT (R28). -/
def Span.absent : Span := ⟨.absent, 0, 0, [], 0, 0⟩

/-- The persistent settings of a pool (R34). -/
structure PoolSettings where
  warn : Nat
  critical : Nat
  floor : Nat
  deriving DecidableEq, Repr

/-- The settings as shipped (R34). -/
def PoolSettings.factory : PoolSettings := ⟨0, 0, 0⟩

/-- A pool record: settings, the six counts of R35, the level. The counts are integers, so that each movement of Table 2-3
keeps the balance of R35 (log 27). -/
structure Pool where
  settings : PoolSettings
  capacity : Int
  free : Int
  allocatable : Int
  reserved : Int
  used : Int
  grace : Int
  level : Level
  deriving DecidableEq, Repr

/-- A pool without spans: counts 0 and, since allocatable 0 is at most critical_free, CRITICAL (R37). -/
def Pool.empty : Pool := ⟨.factory, 0, 0, 0, 0, 0, 0, .critical⟩

/-- A live grant record (Table 3-1). Each extent of the list stands with the logical index it serves. -/
structure Grant where
  state : GrantState
  serial : BitVec 16
  kind : GrantKind
  owner : Port
  volume : Nat
  epoch : BitVec 32
  first : Nat
  count : Nat
  extents : List (Nat × Extent)
  check : BitVec 16
  deriving DecidableEq, Repr

/-! ## Leases and heads -/

/-- The state of a lease with its holder and recall countdown (Table 4-1, Table 4-2). -/
inductive Hold where
  | free
  | held (holder : Port)
  | recalling (holder : Port) (countdown : Nat)
  | orphaned
  deriving DecidableEq, Repr

/-- An item of a waiter queue: a waiting port, the tag of its waiting Claim, its recall mark (R69). -/
structure Waiter where
  port : Port
  tag : Tag
  marked : Bool
  deriving DecidableEq, Repr

/-- A lease record (Table 4-1). The wanted indication is computed from the queue (R72). -/
structure Lease where
  hold : Hold
  epoch : BitVec 32
  waiters : List Waiter
  deriving DecidableEq, Repr

/-- The lease record after a reset: FREE, epoch 0, no waiter (R73). -/
def Lease.fresh : Lease := ⟨.free, 0, []⟩

/-- What a JOINED entry holds (Table 5-1). -/
structure Member where
  incarnation : BitVec 32
  ack : Gen
  liveness : Nat
  due : Bool
  deriving DecidableEq, Repr

/-- A head table entry (Table 5-1, Table 5-2). -/
inductive Head where
  | absent
  | joined (m : Member)
  | lapsed (incarnation : BitVec 32)
  deriving DecidableEq, Repr

/-- The tick period and the four timing counts (R107). -/
structure Timing where
  period : TickPeriod
  live : Nat
  grant : Nat
  recallTicks : Nat
  grace : Nat
  deriving DecidableEq, Repr

/-- The factory values (R107). -/
def Timing.factory : Timing := ⟨.ms1, 3000, 500, 1000, 10000⟩

/-! ## Grace -/

/-- A grace batch (R110). -/
structure Batch where
  tag : Gen
  pool : PoolId
  extents : List Extent
  deriving DecidableEq, Repr

/-- A forming batch: its pool and the extents gathered so far (R110). -/
structure Forming where
  pool : PoolId
  extents : List Extent
  deriving DecidableEq, Repr

/-- The stall countdown with its phase and warned tag (R120). -/
inductive Stall where
  | stopped
  | quiet (countdown : Nat)
  | warned (countdown : Nat) (tag : Gen)
  deriving DecidableEq, Repr

/-! ## Durable requests, effects and intents -/

/-- A durable request that has passed its arrival check (R141). -/
inductive Request where
  | createVolume (volume tenant : Nat) (pool : PoolId) (size : Nat) (mode : VolState)
  | deleteVolume (volume : Nat)
  | resizeVolume (volume size : Nat)
  | setVolumeMode (volume : Nat) (mode : VolState)
  | noteWritten (volume index : Nat) (written : Mask)
  | unmap (volume first count : Nat)
  | bind (volume grant : Nat) (advance : Bool) (written : List Mask)
  | completeRelocate (volume grant : Nat) (forming : Forming)
  | setTenant (tenant : Nat) (quota : Option Nat)
  | addSpan (span : SpanId) (pool : PoolId) (length : Nat)
  | drainSpan (span : SpanId) (on : Bool)
  | removeSpan (span : SpanId)
  | setPool (pool : PoolId) (settings : PoolSettings)
  | configure (timing : Timing)
  deriving DecidableEq, Repr

/-- An item of a change queue; a Bind or CompleteRelocate whose link was lost has no port and tag (R141, R151). -/
structure Item where
  request : Request
  origin : Option Origin
  deriving DecidableEq, Repr

/-- What holds the front of a change queue in flight (R142): an intent; an intent that lowers the size (R19);
an intent with a held range (R117); a deletion (R22). -/
inductive Flight where
  | intent
  | shrink (size : Nat)
  | trim (held : List Nat)
  | deletion
  deriving DecidableEq, Repr

/-- A change queue (R141). -/
structure ChangeQueue where
  flight : Option Flight
  waiting : List Item
  deriving DecidableEq, Repr

/-- An empty change queue. -/
def ChangeQueue.empty : ChangeQueue := ⟨none, []⟩

/-- The effects of intents (Table 8-4). -/
inductive Effect where
  | setEntry (volume index : Nat) (placement : Extent) (unwritten : Mask)
  | setPlacement (volume index : Nat) (placement : Extent)
  | setMask (volume index : Nat) (unwritten : Mask)
  | removeEntry (volume index : Nat)
  | setVolume (volume : Nat) (state : VolState) (tenant : Nat) (pool : PoolId) (size : Nat)
  | setTenant (tenant : Nat) (quota : Option Nat)
  | setSpan (span : SpanId) (state : SpanState) (pool : PoolId) (length : Nat)
  | setPool (pool : PoolId) (settings : PoolSettings)
  | setConfig (timing : Timing)
  deriving DecidableEq, Repr

/-- The kinds of intent (Table 8-3), as the map store image names them. -/
inductive KindName where
  | volumeCreate | volumeResize | volumeMode | deleteMark | deleteBatch | deleteEnd | note | trim | bind | move
  | tenant | span | pool | config
  deriving DecidableEq, Repr

/-- Which span request formed a SPAN intent; its answer differs (R39 to R41). -/
inductive SpanRequest where
  | add | drain | remove
  deriving DecidableEq, Repr

/-- The kind of a live intent with what its DONE needs (Table 8-5). -/
inductive IntentKind where
  | volumeCreate
  | volumeResize (before after : Nat)
  | volumeMode (mode : VolState)
  | deleteMark
  | deleteBatch
  | deleteEnd
  | note (index : Nat)
  | trim (cancelled : Nat)
  | bind (grant : Nat) (advance : Bool)
  | move (grant : Nat)
  | tenant (tenant : Nat)
  | span (request : SpanRequest) (span : SpanId) (pool : PoolId)
  | pool (pool : PoolId)
  | config (timing : Timing)
  deriving DecidableEq, Repr

/-- An intent (Table 8-2), with the change queue whose front it holds and the head whose request formed it, which the
notices of its batch pass over even when its port and tag are gone (R118, R133; log 36). -/
structure Intent where
  kind : IntentKind
  queue : QueueId
  origin : Option Origin
  requester : Option Port
  effects : List Effect
  forming : Option Forming
  deriving DecidableEq, Repr

/-- The state of an intent that holds a log slot (Table 8-2). -/
inductive LogState where
  | writing | logged | applying
  deriving DecidableEq, Repr

/-- An intent in the log: slot, sequence number, state, effects applied so far, and whether a store write of it
(image, effect or retirement) has begun and is not yet answered (R146 to R149). -/
structure LogIntent where
  slot : Nat
  seq : BitVec 32
  state : LogState
  applied : Nat
  writeOut : Bool
  intent : Intent
  deriving DecidableEq, Repr

/-! ## Answers and notices -/

/-- One index of a Resolve run (Table 1-4). -/
inductive IndexReport where
  | poisoned
  | moving (placement target : Extent) (unwritten : Mask) (binding : Bool)
  | mapped (placement : Extent) (unwritten : Mask)
  | pending (binding : Bool) (owner : Port)
  | unmapped
  deriving DecidableEq, Repr

/-- The allocation grant body (Table 11-7). -/
structure AllocationBody where
  grant : Nat
  serial : BitVec 16
  first : Nat
  count : Nat
  wanted : Bool
  check : BitVec 16
  countdown : Nat
  extents : List Extent
  deriving DecidableEq, Repr

/-- The follow-on outcome of a BOUND answer (R60, R185). -/
inductive FollowOn where
  | made (grant : AllocationBody)
  | notAttempted
  | endOfVolume
  | failed (r : Reason)
  deriving DecidableEq, Repr

/-- One port of a QueryPart answer (R105). -/
structure PortReport where
  linkUp : Bool
  head : Head
  fence : Fence
  deriving DecidableEq, Repr

/-- One span of a QueryPool answer (R43). -/
structure SpanReport where
  span : SpanId
  state : SpanState
  length : Nat
  free : Nat
  deriving DecidableEq, Repr

/-- One item of a Watch answer (R169). -/
structure WatchReport where
  volume : Nat
  state : VolState
  holder : HolderView
  latch : Bool
  epoch : BitVec 32
  differs : Bool
  deriving DecidableEq, Repr

/-- The bodies of answers, each with the fields its rule lists, in that order. -/
inductive AnswerBody where
  | empty
  | joined (port : Port) (incarnation bootCount : BitVec 32) (cause : ResetCause) (mode : PartMode) (g : Gen)
      (timing : Timing) (liveness : Nat)
  | stale (incarnation bootCount : BitVec 32) (g : Gen)
  | renewed (ack : Gen) (liveness : Nat) (due : Bool) (oldest : Option Gen) (g : Gen)
  | configured (timing : Timing)
  | part (mode : PartMode) (bootCount : BitVec 32) (cause : ResetCause) (g : Gen) (timing : Timing)
      (ports : List PortReport) (batches : Nat) (oldest : Option Gen) (liveGrants : Nat)
  | faults (mode : PartMode) (cause : Option FreezeCause) (bootCount : BitVec 32) (resetCause : ResetCause)
      (records : FaultRecords) (poisoned : Nat) (pairs : List (Nat × Nat))
  | fault (record : FaultRecord)
  | leased (volume : Nat) (epoch : BitVec 32) (wanted orphan : Bool)
  | contended (holder : Port) (recalling : Bool) (waiters : Nat)
  | released (holder : HolderView) (epoch : BitVec 32)
  | resized (before after : Nat)
  | modeSet (mode : VolState)
  | volume (state : VolState) (tenant : Nat) (pool : PoolId) (size mapped pending : Nat) (latch : Bool)
      (holder : HolderView) (epoch : BitVec 32) (wanted : Bool) (deletion : Option Bool)
  | tenantSet (tenant : Nat) (quota : Option Nat)
  | tenant (quota : Option Nat) (used pending : Nat) (headroom : Option Nat)
  | resolved (reports : List IndexReport) (state : VolState) (size : Nat) (holder : HolderView) (epoch : BitVec 32)
      (wanted : Bool)
  | noted (unwritten : Mask) (wanted : Bool)
  | trimmed (removed cancelled : Nat) (wanted : Bool)
  | allocation (a : AllocationBody)
  | bound (grant : Nat) (serial : BitVec 16) (first count : Nat) (wanted : Bool) (followOn : FollowOn)
  | relocation (grant : Nat) (serial : BitVec 16) (volume index : Nat) (source destination : Extent) (check : BitVec 16)
      (countdown : Nat) (unwritten : Mask) (wanted : Bool)
  | moved (grant : Nat) (serial : BitVec 16) (volume index : Nat) (placement former : Extent) (unwritten : Mask)
      (wanted : Bool)
  | spanAdded (span : SpanId) (pool : PoolId) (length : Nat) (capacity : Int) (total : Nat)
  | spanDrained (state : SpanState) (free : Nat)
  | spanRemoved (capacity : Int) (total : Nat)
  | poolSet (settings : PoolSettings) (level : Level)
  | pool (settings : PoolSettings) (capacity free allocatable reserved used grace : Int) (level : Level) (total : Nat)
      (spans : List SpanReport)
  | watched (items : List WatchReport)
  | index (i : Nat)
  | poolFull (allocatable : Int) (floor : Nat)
  | poolFullSource (allocatable : Int) (source : SpanId)
  | headroom (h : Option Nat)
  | admission (count : Nat)
  | volumeNamed (volume : Nat)
  deriving DecidableEq, Repr

/-- An answer frame before its bytes (Table 11-1). -/
structure Answer where
  tag : Tag
  code : Byte
  outcome : AnswerOutcome
  g : Gen
  body : AnswerBody
  deriving DecidableEq, Repr

/-- A notice (Table 10-1). -/
inductive Notice where
  | leaseWanted (volume : Nat) (demanded : Bool)
  | leaseLost (volume : Nat)
  | invalidate (volume : Nat) (g : Gen)
  | invalidateAll (g : Gen)
  | generation (g : Gen)
  | ackDue (tag : Gen)
  | headLapsed (port : Port) (incarnation : BitVec 32)
  | poolLevel (pool : PoolId) (level : Level)
  | partFrozen (cause : FreezeCause)
  deriving DecidableEq, Repr

/-- A head port: link, tag table (true is BUSY), outbound answer queue, notice set with its lost indication,
and the frame most recently put on the link (log 22). -/
structure HeadPort where
  linkUp : Bool
  busy : Vector Bool 16
  answers : List Answer
  notices : List Notice
  lost : Bool
  line : List Byte
  deriving DecidableEq, Repr

/-- A port at reset: link DOWN, everything empty (R178). -/
def HeadPort.down : HeadPort := ⟨false, Vector.replicate 16 false, [], [], false, []⟩

/-- What a watch expects of one volume (R169). -/
structure WatchExpect where
  volume : Nat
  holder : HolderView
  latch : Bool
  deriving DecidableEq, Repr

/-- A held watch (R169). -/
structure Watch where
  port : Port
  tag : Tag
  countdown : Nat
  items : List WatchExpect
  deriving DecidableEq, Repr

/-! ## The map store and recovery -/

/-- The persistent fields of a volume (Table 1-1). -/
structure StoreVolume where
  state : VolState
  tenant : Nat
  pool : PoolId
  size : Nat
  deriving DecidableEq, Repr

/-- The record of an id without a volume (R1). -/
def StoreVolume.absent : StoreVolume := ⟨.absent, 0, 0, 0⟩

/-- The persistent fields of a span (Table 2-1). -/
structure StoreSpan where
  state : SpanState
  pool : PoolId
  length : Nat
  deriving DecidableEq, Repr

/-- The record of an unregistered span (R28). -/
def StoreSpan.absent : StoreSpan := ⟨.absent, 0, 0⟩

/-- The image in a held log slot; `whole` once the store has acknowledged its write (R143, R147). -/
structure SlotImage where
  seq : BitVec 32
  whole : Bool
  kind : KindName
  effects : List Effect
  deriving DecidableEq, Repr

/-- The map store (R144, R145). A log slot not listed is free; an entry cell not listed is marked empty. -/
structure MapStore where
  volumes : Table StoreVolume
  quotas : Table Nat
  spans : Vector StoreSpan 16
  pools : Vector PoolSettings 8
  timing : Timing
  bootCount : BitVec 32
  cells : Table (Table Entry)
  slots : Table SlotImage
  retired : BitVec 32
  deriving DecidableEq, Repr

/-- The map store as shipped from the factory. -/
def MapStore.factory : MapStore :=
  ⟨[], [], Vector.replicate 16 .absent, Vector.replicate 8 .factory, .factory, 0, [], [], 0⟩

/-- How far recovery has come: boot count written; log read and replay under way; tables swept; not running. -/
inductive RecoveryStage where
  | booted | replaying | swept | ended
  deriving DecidableEq, Repr

/-- A log slot that replay has still to meet; an unreadable one is passed over and kept (R154, R157). -/
structure ReplayItem where
  slot : Nat
  readable : Bool
  deriving DecidableEq, Repr

/-- The progress of recovery (R153 to R157). -/
structure Recovery where
  stage : RecoveryStage
  bootBefore : BitVec 32
  writesStopped : Bool
  blocked : Bool
  markUnreadable : Bool
  todo : List ReplayItem
  firstFault : Option FreezeCause
  deriving DecidableEq, Repr

/-- No recovery under way. -/
def Recovery.idle : Recovery := ⟨.ended, 0, false, false, false, [], none⟩

/-! ## The state -/

/-- The part, its map store, and the commands that wait. -/
structure State where
  mode : PartMode
  bootCount : BitVec 32
  resetCause : ResetCause
  freezeCause : Option FreezeCause
  faults : FaultRecords
  faultsMet : Nat
  poison : List (Nat × Nat)
  writeBacks : List StoreArea
  recovery : Recovery
  timing : Timing
  runningPeriod : TickPeriod
  heads : Vector Head 4
  fences : Vector Fence 4
  ports : Vector HeadPort 4
  watches : List Watch
  volumes : Table Volume
  tenants : Table Tenant
  maps : Table (Table Entry)
  spans : Vector Span 16
  pools : Vector Pool 8
  grants : Table Grant
  serial : BitVec 16
  leases : Table Lease
  generation : Gen
  grace : List Batch
  promises : Nat
  admissionWait : List Nat
  deletionsDue : List Nat
  stall : Stall
  queues : Table ChangeQueue
  shelf : ChangeQueue
  logWait : List Intent
  log : List LogIntent
  sequence : BitVec 32
  store : MapStore
  pending : List Instr
  deriving DecidableEq, Repr

/-- The volatile state after a reset, over a map store (R4, R67, R73, R92, R110, R141, R153, R165, R178).
The configuration is the one the store holds until the sweep reads it (log 14); the span, pool, volume and tenant tables
hold nothing until the sweep builds them: every span ABSENT, every pool with settings and counts 0 at level CRITICAL (log 40). -/
def State.cold (store : MapStore) : State where
  mode := .recovering
  bootCount := 0
  resetCause := .power
  freezeCause := none
  faults := .clear
  faultsMet := 0
  poison := []
  writeBacks := []
  recovery := .idle
  timing := store.timing
  runningPeriod := store.timing.period
  heads := Vector.replicate 4 .absent
  fences := Vector.replicate 4 .asserted
  ports := Vector.replicate 4 .down
  watches := []
  volumes := []
  tenants := []
  maps := []
  spans := Vector.replicate 16 .absent
  pools := Vector.replicate 8 .empty
  grants := []
  serial := 0
  leases := []
  generation := 0
  grace := []
  promises := 0
  admissionWait := []
  deletionsDue := []
  stall := .stopped
  queues := []
  shelf := .empty
  logWait := []
  log := []
  sequence := 0
  store := store
  pending := []

/-- The part right after its first power-on from the factory: recovery has begun, the boot count has been raised
from 0 and written back, the cause is POWER (R153; log 3). -/
def State.reset : State :=
  { State.cold { MapStore.factory with bootCount := 1 } with
    bootCount := 1, recovery := { Recovery.idle with stage := .booted } }

/-! ## Stops -/

/-- Faults. None: the spec's faults are state (R158 to R168) and no command ends the machine. -/
inductive Fault where
  deriving DecidableEq, Repr

/-- Refusals. -/
inductive Refusal where
  /-- Raised by exec for a command whose meaning is not written; safe. No arm uses it. -/
  | notModelled (mnemonic : String)
  deriving DecidableEq, Repr

end Sys2Proof.Machine
end

