-- ==== Sys2Proof/Machine/Operands.lean ====
section
/-! DEFINITION. Operand forms: how fields are read from and written to bytes (R183, Tables 11-2 and 11-3), and the codes of
kinds, outcomes and reasons (Tables 11-4 to 11-6). -/

namespace Sys2Proof.Machine

/-- The low `n` bytes of a number, low byte first (R182). -/
def leBytes : Nat → Nat → List Byte
  | 0, _ => []
  | n + 1, v => BitVec.ofNat 8 v :: leBytes n (v / 256)

/-- The number whose bytes, low byte first, are given. -/
def ofLeBytes : List Byte → Nat
  | [] => 0
  | b :: t => b.toNat + 256 * ofLeBytes t

/-- A flag byte (Table 11-2). -/
def flagByte (b : Bool) : List Byte := [if b then 1 else 0]

/-- The extent reference word (Table 11-3): index in bits 0 to 23, span in bits 24 to 27, bits 28 to 31 zero. -/
def extentWord (e : Extent) : BitVec 32 := BitVec.ofNat 32 (e.index % 2 ^ 24 + e.span.val * 2 ^ 24)

/-- The four bytes of an extent reference. -/
def extentBytes (e : Extent) : List Byte := leBytes 4 (extentWord e).toNat

/-- A quota, whose NONE is 0xFFFFFFFF (Table 11-2), or a headroom, which Table 11-2 does not list and which takes the same
bytes (log 20). -/
def quotaBytes : Option Nat → List Byte
  | none => leBytes 4 0xFFFFFFFF
  | some q => leBytes 4 q

/-- The quota a request's field names (Table 11-2). -/
def quotaOf (q : BitVec 32) : Option Nat := if q = 0xFFFFFFFF#32 then none else some q.toNat

/-- A port as holder: 0 to 3, 0x10 NONE, 0x11 ORPHANED (Table 11-2). -/
def HolderView.byte : HolderView → Byte
  | .port p => BitVec.ofNat 8 p.val
  | .none => 0x10
  | .orphaned => 0x11

/-- The holder that a Watch item's byte names, if it has one of its values (R169). -/
def holderOf (b : Byte) : Option HolderView :=
  if h : b.toNat < 4 then some (.port ⟨b.toNat, h⟩)
  else if b = 0x10#8 then some .none
  else if b = 0x11#8 then some .orphaned
  else none

/-- A flag field's value, if it has one (Table 11-2). -/
def flagOf (b : Byte) : Option Bool :=
  if b = 0#8 then some false else if b = 1#8 then some true else none

/-- The tick period a byte names (Table 11-2). -/
def periodOf (b : Byte) : Option TickPeriod :=
  if b = 0#8 then some .us250 else if b = 1#8 then some .ms1 else if b = 2#8 then some .ms4 else none

/-- The mode of CreateVolume and SetVolumeMode: 1 ACTIVE, 2 READ_ONLY (R183). -/
def modeOf (b : Byte) : Option VolState :=
  if b = 1#8 then some .active else if b = 2#8 then some .readOnly else none

/-- The span a byte names (R38). -/
def spanOf (b : Byte) : Option SpanId := if h : b.toNat < 16 then some ⟨b.toNat, h⟩ else none

/-- The pool a byte names (R38). -/
def poolOf (b : Byte) : Option PoolId := if h : b.toNat < 8 then some ⟨b.toNat, h⟩ else none

/-- The fault record a ClearFault source names (Table 11-4). -/
def sourceOf (b : Byte) : Option FaultSource :=
  if b = 0#8 then some .mapStore
  else if b = 1#8 then some .log
  else if h : b.toNat - 2 < 4 then some (.port ⟨b.toNat - 2, h⟩)
  else none

/-- The kind code of a request (Table 11-4). -/
def RequestKind.code : RequestKind → Byte
  | .join => 0x01 | .renew => 0x02 | .leave => 0x03 | .configure => 0x04 | .queryPart => 0x05 | .queryFaults => 0x06
  | .clearFault => 0x07
  | .claim => 0x10 | .release => 0x11
  | .createVolume => 0x20 | .deleteVolume => 0x21 | .resizeVolume => 0x22 | .setVolumeMode => 0x23 | .queryVolume => 0x24
  | .setTenant => 0x25 | .queryTenant => 0x26
  | .resolve => 0x30 | .noteWritten => 0x31 | .unmap => 0x32
  | .reserve => 0x40 | .bind => 0x41 | .abandon => 0x42 | .relocate => 0x43 | .completeRelocate => 0x44
  | .addSpan => 0x50 | .drainSpan => 0x51 | .removeSpan => 0x52 | .setPool => 0x53 | .queryPool => 0x54
  | .watch => 0x60

/-- Every request kind. -/
def RequestKind.all : List RequestKind :=
  [.join, .renew, .leave, .configure, .queryPart, .queryFaults, .clearFault, .claim, .release, .createVolume,
   .deleteVolume, .resizeVolume, .setVolumeMode, .queryVolume, .setTenant, .queryTenant, .resolve, .noteWritten,
   .unmap, .reserve, .bind, .abandon, .relocate, .completeRelocate, .addSpan, .drainSpan, .removeSpan, .setPool,
   .queryPool, .watch]

/-- The request kind of a kind code, if Table 11-4 has one. -/
def RequestKind.ofCode (c : Byte) : Option RequestKind := RequestKind.all.find? (fun k => decide (k.code = c))

/-- The body length of a kind, from the body itself for Bind and Watch; none where a Bind or Watch body holds no
count byte (R180 step 6, Table 11-4). -/
def RequestKind.bodyLength (k : RequestKind) (body : List Byte) : Option Nat :=
  match k with
  | .join => some 4 | .renew => some 12 | .leave => some 0 | .configure => some 17 | .queryPart => some 0
  | .queryFaults => some 0 | .clearFault => some 1
  | .claim => some 4 | .release => some 2
  | .createVolume => some 10 | .deleteVolume => some 2 | .resizeVolume => some 6 | .setVolumeMode => some 3
  | .queryVolume => some 3 | .setTenant => some 6 | .queryTenant => some 2
  | .resolve => some 7 | .noteWritten => some 10 | .unmap => some 8
  | .reserve => some 7 | .bind => body[7]?.map (fun n => 8 + 4 * n.toNat) | .abandon => some 4 | .relocate => some 6
  | .completeRelocate => some 6
  | .addSpan => some 6 | .drainSpan => some 2 | .removeSpan => some 1 | .setPool => some 13 | .queryPool => some 1
  | .watch => body[4]?.map (fun n => 5 + 4 * n.toNat)

/-- The reason code (Table 11-6). -/
def Reason.code : Reason → Byte
  | .badForm => 0x01 | .tagReuse => 0x02 | .notJoined => 0x03 | .staleIncarnation => 0x04 | .starting => 0x05
  | .frozen => 0x06 | .noVolume => 0x07 | .volumeState => 0x08 | .notHolder => 0x09 | .contended => 0x0A
  | .range => 0x0B | .alreadyMapped => 0x0C | .inGrant => 0x0D | .notMapped => 0x0E | .poolFull => 0x0F
  | .quota => 0x10 | .noGrantSlot => 0x11 | .checkMismatch => 0x12 | .grantExpired => 0x13 | .grantState => 0x14
  | .graceFull => 0x15 | .spanState => 0x16 | .capacity => 0x17 | .mappedBeyond => 0x18 | .busyVolume => 0x19
  | .cancelled => 0x1A | .exists => 0x1B

/-- The outcome code (Table 11-5). -/
def AnswerOutcome.code : AnswerOutcome → Byte
  | .done => 0x00 | .granted => 0x01 | .bound => 0x02 | .moved => 0x03 | .deleted => 0x04 | .joined => 0x05
  | .changed => 0x06 | .unchanged => 0x07 | .refused _ => 0x80

/-- The reason byte: the reason's code in a refusal, otherwise 0 (Table 11-1). -/
def AnswerOutcome.reasonByte : AnswerOutcome → Byte
  | .refused r => r.code
  | .done => 0 | .granted => 0 | .bound => 0 | .moved => 0 | .deleted => 0 | .joined => 0 | .changed => 0 | .unchanged => 0

end Sys2Proof.Machine
end

