-- ==== Sys2Proof/Machine/Flags.lean ====
section
/-! DEFINITION. Computations on one record: the check generator (R53), the level of a pool (R37), the wanted indication (R72),
who holds a lease (R70), the taking of a fault by its record (R159), the adding of a notice to a notice set (R174, R175). -/

namespace Sys2Proof.Machine

/-! ## The check generator -/

/-- One input bit (R53): shift toward the least significant end; when the bit shifted out differs from the input bit,
combine by exclusive-or with the constant whose bits 15, 13 and 0 are set. -/
def checkBit (g : BitVec 16) (b : Bool) : BitVec 16 :=
  if g.getLsbD 0 = b then g >>> 1 else (g >>> 1) ^^^ 0xA001#16

/-- One input byte, least significant bit first (R53). -/
def checkByte (g : BitVec 16) (b : Byte) : BitVec 16 :=
  [0, 1, 2, 3, 4, 5, 6, 7].foldl (fun g k => checkBit g (b.getLsbD k)) g

/-- The generator's value after the input bytes, from a starting value (R53). -/
def checkWord (start : BitVec 16) (bytes : List Byte) : BitVec 16 := bytes.foldl checkByte start

/-- The check word of a first grant, made by Reserve (Table 3-4). -/
def checkOfReserve (volume first count : Nat) (epoch : BitVec 32) (serial : BitVec 16) (extents : List Extent) :
    BitVec 16 :=
  checkWord 0 (leBytes 2 volume ++ leBytes 4 first ++ leBytes 1 count ++ leBytes 4 epoch.toNat ++
    leBytes 2 serial.toNat ++ extents.flatMap extentBytes)

/-- The check word of a follow-on grant (Table 3-4): the starting value is the low 16 bits of its first index. -/
def checkOfFollowOn (first : Nat) (serial : BitVec 16) (extents : List Extent) : BitVec 16 :=
  checkWord (BitVec.ofNat 16 first) (leBytes 2 serial.toNat ++ extents.flatMap extentBytes)

/-- The check word of a relocation grant (Table 3-4). -/
def checkOfRelocate (volume index : Nat) (epoch : BitVec 32) (serial : BitVec 16) (source destination : Extent) :
    BitVec 16 :=
  checkWord 0 (leBytes 2 volume ++ leBytes 4 index ++ leBytes 4 epoch.toNat ++ leBytes 2 serial.toNat ++
    extentBytes source ++ extentBytes destination)

/-! ## Derived indications -/

/-- The level that a pool's allocatable count gives (R37). -/
def Pool.judged (p : Pool) : Level :=
  if p.allocatable ≤ p.settings.critical then .critical
  else if p.allocatable ≤ p.settings.warn then .low
  else .normal

/-- The wanted indication (R72). -/
def Lease.wanted (l : Lease) : Bool := !l.waiters.isEmpty

/-- The head that may change the volume, in HELD and RECALLING (R70). -/
def Hold.holder? : Hold → Option Port
  | .free => none
  | .held h => some h
  | .recalling h _ => some h
  | .orphaned => none

/-- The holder as it is reported (R13, R169). -/
def Hold.view : Hold → HolderView
  | .free => .none
  | .held h => .port h
  | .recalling h _ => .port h
  | .orphaned => .orphaned

/-- The requester holds the lease (R70). -/
def Lease.heldBy (l : Lease) (p : Port) : Bool := decide (l.hold.holder? = some p)

/-- The lease is FREE or ORPHANED (R19, R20, R22). -/
def Lease.unheld (l : Lease) : Bool := decide (l.hold.holder? = none)

/-- The record is RECALLING. -/
def Hold.isRecalling : Hold → Bool
  | .recalling _ _ => true
  | .free => false
  | .held _ => false
  | .orphaned => false

/-- A head is a member (R93). -/
def Head.isJoined : Head → Bool
  | .joined _ => true
  | .absent => false
  | .lapsed _ => false

/-- A head in stage DUE (R121). -/
def Head.isDue : Head → Bool
  | .joined m => m.due
  | .absent => false
  | .lapsed _ => false

/-- A STAGED grant (Table 3-2). -/
def Grant.isStaged (g : Grant) : Bool :=
  match g.state with
  | .staged _ => true
  | .binding => false

/-- The grant holds this logical index: the extent that serves it is still in the list (R46). -/
def Grant.holds (g : Grant) (index : Nat) : Bool := g.extents.any (fun e => decide (e.1 = index))

/-- The last index of a run is below a size: first plus count less one is below it (R13, R50, R116). -/
def runBelow (first count size : Nat) : Bool := decide (first + count - 1 < size)

/-- The logical indices of a run, ascending. -/
def runIndices (first : Nat) : Nat → List Nat
  | 0 => []
  | n + 1 => first :: runIndices (first + 1) n

/-- A tenant passes the quota test for a run count (R5). -/
def Tenant.quotaAllows (t : Tenant) (count : Nat) : Bool :=
  match t.quota with
  | none => true
  | some q => decide (t.used + t.pending + count ≤ q)

/-- The headroom of a tenant (R7): quota less used and pending, 0 when they exceed it; NONE when the quota is NONE. -/
def Tenant.headroom (t : Tenant) : Option Nat := t.quota.map (fun q => q - (t.used + t.pending))

/-! ## Fault records -/

/-- A fault reaches its record (R159). -/
def FaultRecord.take (kind : FaultKind) (place : FaultPlace) (r : FaultRecord) : FaultRecord :=
  match r.held with
  | none => ⟨some (kind, place), false⟩
  | some (.corrected, _) =>
    if kind = .uncorrectable ∨ kind = .writeFailed then ⟨some (kind, place), true⟩ else { r with overflow := true }
  | some (.uncorrectable, _) => { r with overflow := true }
  | some (.writeFailed, _) => { r with overflow := true }
  | some (.frameDamaged, _) => { r with overflow := true }
  | some (.tagReuse, _) => { r with overflow := true }

/-- One of the six records (R158). -/
def FaultRecords.get (f : FaultRecords) : FaultSource → FaultRecord
  | .mapStore => f.mapStore
  | .log => f.log
  | .port p => f.ports.get p

/-- The records with one of them replaced. -/
def FaultRecords.put (f : FaultRecords) (source : FaultSource) (r : FaultRecord) : FaultRecords :=
  match source with
  | .mapStore => { f with mapStore := r }
  | .log => { f with log := r }
  | .port p => { f with ports := f.ports.set p.val r p.isLt }

/-! ## Notice sets -/

/-- The kind code of a notice (Table 11-8). -/
def Notice.code : Notice → Nat
  | .leaseWanted _ _ => 1
  | .leaseLost _ => 2
  | .invalidate _ _ => 3
  | .invalidateAll _ => 4
  | .generation _ => 5
  | .ackDue _ => 6
  | .headLapsed _ _ => 7
  | .poolLevel _ _ => 8
  | .partFrozen _ => 9

/-- The subject of a notice; 0 for a kind without a subject (Table 10-1, Table 11-8). -/
def Notice.subject : Notice → Nat
  | .leaseWanted v _ => v
  | .leaseLost v => v
  | .invalidate v _ => v
  | .invalidateAll _ => 0
  | .generation _ => 0
  | .ackDue _ => 0
  | .headLapsed p _ => p.val
  | .poolLevel p _ => p.val
  | .partFrozen _ => 0

/-- Two notices of the same kind and subject (R173). -/
def Notice.same (a b : Notice) : Bool := decide (a.code = b.code) && decide (a.subject = b.subject)

/-- An INVALIDATE. -/
def Notice.isInvalidate (n : Notice) : Bool := decide (n.code = 3)

/-- An INVALIDATE_ALL. -/
def Notice.isInvalidateAll (n : Notice) : Bool := decide (n.code = 4)

/-- A LEASE_WANTED, GENERATION or POOL_LEVEL, which R175 step 2 may displace. -/
def Notice.isAdvisory (n : Notice) : Bool := decide (n.code = 1 ∨ n.code = 5 ∨ n.code = 8)

/-- A LEASE_LOST, which R175 step 3 may displace. -/
def Notice.isLeaseLost (n : Notice) : Bool := decide (n.code = 2)

/-- The G an INVALIDATE_ALL takes from an INVALIDATE (R174). -/
def Notice.invalidatesAt : Notice → Option Gen
  | .invalidate _ g => some g
  | .leaseWanted _ _ => none
  | .leaseLost _ => none
  | .invalidateAll _ => none
  | .generation _ => none
  | .ackDue _ => none
  | .headLapsed _ _ => none
  | .poolLevel _ _ => none
  | .partFrozen _ => none

/-- The list with the first element that meets `f` removed. -/
def dropFirst {α : Type} (f : α → Bool) : List α → List α
  | [] => []
  | a :: t => if f a then t else a :: dropFirst f t

/-- The list with `b` in place of the first element that meets `f`. -/
def replaceFirst {α : Type} (f : α → Bool) (b : α) : List α → List α
  | [] => []
  | a :: t => if f a then b :: t else a :: replaceFirst f b t

/-- R175 steps 2 and 3: the oldest advisory notice, or else the oldest LEASE_LOST, gives its place; the lost indication
becomes true. Where neither is pending, which R175 shows cannot be, nothing is placed (log 33). -/
def displace (n : Notice) (set : List Notice) (lost : Bool) : List Notice × Bool :=
  if set.any Notice.isAdvisory then (dropFirst Notice.isAdvisory set ++ [n], true)
  else if set.any Notice.isLeaseLost then (dropFirst Notice.isLeaseLost set ++ [n], true)
  else (set, lost)

/-- R175 step 1 on the pending notices: every INVALIDATE is removed; a pending INVALIDATE_ALL takes the current G, or
else an INVALIDATE_ALL takes the place of the oldest removed INVALIDATE. -/
def coalesce (g : Gen) (set : List Notice) : List Notice :=
  if set.any Notice.isInvalidateAll then
    replaceFirst Notice.isInvalidateAll (.invalidateAll g) (set.filter (fun m => !m.isInvalidate))
  else
    (replaceFirst Notice.isInvalidate (.invalidateAll g) set).filter (fun m => !m.isInvalidate)

/-- R175: a notice is to be added to a full set in which none has its kind and subject; `g` is the current G. -/
def addToFull (g : Gen) (n : Notice) (set : List Notice) (lost : Bool) : List Notice × Bool :=
  if n.isInvalidate then
    if set.any (fun m => m.isInvalidate || m.isInvalidateAll) then (coalesce g set, lost)
    else displace (.invalidateAll g) set lost
  else if set.any Notice.isInvalidate then
    let set' := coalesce g set
    if set'.length < Config.noticePlaces then (set' ++ [n], lost) else displace n set' lost
  else displace n set lost

/-- A notice is added to a notice set (R174); `g` is the current G. -/
def addToSet (g : Gen) (n : Notice) (set : List Notice) (lost : Bool) : List Notice × Bool :=
  if set.any (Notice.same n) then (replaceFirst (Notice.same n) n set, lost)
  else
    match n.invalidatesAt with
    | some gi =>
      if set.any Notice.isInvalidateAll then
        (replaceFirst Notice.isInvalidateAll (.invalidateAll gi) set, lost)
      else if set.length < Config.noticePlaces then (set ++ [n], lost)
      else addToFull g n set lost
    | none =>
      if set.length < Config.noticePlaces then (set ++ [n], lost)
      else addToFull g n set lost

end Sys2Proof.Machine
end

