-- ==== Sys2Proof/Machine/Ops.lean ====
section
/-! DEFINITION. The named operations on the records of the state: reading and writing one record of each table, answers,
notices, the watch list, extent selection, the pool counts, the grace list, the dropping of grants. -/

namespace Sys2Proof.Machine

/-- A fixed table with one place replaced. -/
def putAt {α : Type} {n : Nat} (v : Vector α n) (i : Fin n) (a : α) : Vector α n := v.set i.val a i.isLt

/-- A fixed table with every place changed. -/
def mapAt {α β : Type} {n : Nat} (f : α → β) (v : Vector α n) : Vector β n := Vector.ofFn (fun i => f (v.get i))

namespace State

/-! ## One record of each table -/

/-- The volume record of an id (R1). -/
def volume (s : State) (v : Nat) : Volume := Table.getD .absent s.volumes v

/-- The state with one volume record replaced. -/
def setVolume (v : Nat) (r : Volume) (s : State) : State := { s with volumes := Table.setD .absent v r s.volumes }

/-- The state with one volume record changed. -/
def updateVolume (v : Nat) (f : Volume → Volume) (s : State) : State := s.setVolume v (f (s.volume v))

/-- The tenant record of an id (R5). -/
def tenant (s : State) (t : Nat) : Tenant := Table.getD .fresh s.tenants t

/-- The state with one tenant record changed. -/
def updateTenant (t : Nat) (f : Tenant → Tenant) (s : State) : State :=
  { s with tenants := Table.setD .fresh t (f (s.tenant t)) s.tenants }

/-- A volume's extent map (R8). -/
def mapOf (s : State) (v : Nat) : Table Entry := Table.getD [] s.maps v

/-- The entry at a logical index. -/
def entry? (s : State) (v i : Nat) : Option Entry := Table.get? (s.mapOf v) i

/-- The state with one volume's map replaced. -/
def setMap (v : Nat) (m : Table Entry) (s : State) : State := { s with maps := Table.setD [] v m s.maps }

/-- The state with an entry created or replaced. -/
def putEntry (v i : Nat) (e : Entry) (s : State) : State := s.setMap v (Table.insert i e (s.mapOf v))

/-- The state with an entry removed. -/
def removeEntry (v i : Nat) (s : State) : State := s.setMap v (Table.erase i (s.mapOf v))

/-- A live grant; a FREE record is none (R46). -/
def grant? (s : State) (n : Nat) : Option Grant := Table.get? s.grants n

/-- The state with a live grant written. -/
def setGrant (n : Nat) (g : Grant) (s : State) : State := { s with grants := Table.insert n g s.grants }

/-- The state with a grant record FREE. -/
def freeGrant (n : Nat) (s : State) : State := { s with grants := Table.erase n s.grants }

/-- The lease record of a volume id (R69). -/
def lease (s : State) (v : Nat) : Lease := Table.getD .fresh s.leases v

/-- The state with one lease record replaced. -/
def setLease (v : Nat) (l : Lease) (s : State) : State := { s with leases := Table.setD .fresh v l s.leases }

/-- A change queue (R141). -/
def queue (s : State) : QueueId → ChangeQueue
  | .volume v => Table.getD .empty s.queues v
  | .shelf => s.shelf

/-- The state with one change queue replaced. -/
def setQueue (q : QueueId) (c : ChangeQueue) (s : State) : State :=
  match q with
  | .volume v => { s with queues := Table.setD .empty v c s.queues }
  | .shelf => { s with shelf := c }

/-- The state with one pool record changed. -/
def updatePool (p : PoolId) (f : Pool → Pool) (s : State) : State :=
  { s with pools := putAt s.pools p (f (s.pools.get p)) }

/-- The state with one span record changed. -/
def updateSpan (n : SpanId) (f : Span → Span) (s : State) : State :=
  { s with spans := putAt s.spans n (f (s.spans.get n)) }

/-- The state with one head port changed. -/
def updatePort (p : Port) (f : HeadPort → HeadPort) (s : State) : State :=
  { s with ports := putAt s.ports p (f (s.ports.get p)) }

/-- The head of a port is JOINED. -/
def joined (s : State) (p : Port) : Bool := (s.heads.get p).isJoined

/-- The link of a port is UP. -/
def linkUp (s : State) (p : Port) : Bool := (s.ports.get p).linkUp

/-- The admission count: batches in the grace list plus promises outstanding (R113). -/
def admission (s : State) : Nat := s.grace.length + s.promises

/-- The registered total: the lengths of all ONLINE and DRAINING spans (R38). -/
def registeredTotal (s : State) : Nat :=
  (allSpans.map (fun n => if (s.spans.get n).state = .absent then 0 else (s.spans.get n).length)).sum

/-- The live relocation grant that makes an entry MOVING (R125). -/
def relocationOf (s : State) (v i : Nat) : Option (Nat × Grant) :=
  s.grants.find? (fun e => decide (e.2.kind = .relocate ∧ e.2.volume = v) && e.2.holds i)

/-- The live allocation grant that holds a logical index (R14). -/
def allocationOf (s : State) (v i : Nat) : Option (Nat × Grant) :=
  s.grants.find? (fun e => decide (e.2.kind = .allocate ∧ e.2.volume = v) && e.2.holds i)

/-- The numbers of the STAGED grants that meet `f`, ascending (R66). -/
def stagedGrants (s : State) (f : Grant → Bool) : List Nat :=
  (s.grants.filter (fun e => e.2.isStaged && f e.2)).map Prod.fst

/-- The lowest-numbered FREE grant record, if one is FREE (R49). -/
def freeRecord? (s : State) : Option Nat :=
  (List.range Config.grantRecords).find? (fun n => (s.grant? n).isNone)

end State

open State

/-! ## Answers -/

/-- A port with one more answer at the end of its outbound answer queue (R181). -/
def HeadPort.pushAnswer (a : Answer) (r : HeadPort) : HeadPort := { r with answers := r.answers ++ [a] }

/-- A port with a notice added to its notice set (R174); `g` is the current G. -/
def HeadPort.pushNotice (g : Gen) (n : Notice) (r : HeadPort) : HeadPort :=
  { r with notices := (addToSet g n r.notices r.lost).1, lost := (addToSet g n r.notices r.lost).2 }

/-- An answer is handed to the port named by its port and tag, when the port is UP; it takes the G of this event
(R150, R181). -/
def answer (o : Origin) (code : Byte) (outcome : AnswerOutcome) (body : AnswerBody) (s : State) : State :=
  if s.linkUp o.port then s.updatePort o.port (HeadPort.pushAnswer ⟨o.tag, code, outcome, s.generation, body⟩) else s

/-- An answer to a request that may have lost its port and tag (R150). -/
def answer? (o : Option Origin) (code : Byte) (outcome : AnswerOutcome) (body : AnswerBody) (s : State) : State :=
  match o with
  | none => s
  | some o => answer o code outcome body s

/-- A refusal with an empty body. -/
def refuse (o : Origin) (kind : RequestKind) (r : Reason) (s : State) : State := answer o kind.code (.refused r) .empty s

/-- A refusal that carries additional values (R183). -/
def refuseWith (o : Origin) (kind : RequestKind) (r : Reason) (body : AnswerBody) (s : State) : State :=
  answer o kind.code (.refused r) body s

/-! ## Notices -/

/-- A notice is added to the notice set of a port while its head is JOINED (R174). -/
def addNotice (p : Port) (n : Notice) (s : State) : State :=
  if s.joined p then s.updatePort p (HeadPort.pushNotice s.generation n) else s

/-- A notice is added for every JOINED head but one (R173). -/
def notifyJoined (but : Option Port) (n : Notice) (s : State) : State :=
  allPorts.foldl (fun s p => if some p = but then s else addNotice p n s) s

/-! ## The watch list -/

/-- An item of a watch differs (R169, R170). -/
def itemDiffers (s : State) (it : WatchExpect) : Bool :=
  decide ((s.volume it.volume).state = .deleting) || decide ((s.volume it.volume).state = .absent) ||
  decide ((s.lease it.volume).hold.view ≠ it.holder) || decide ((s.volume it.volume).latch ≠ it.latch)

/-- One report of a CHANGED or UNCHANGED answer (R169). -/
def watchReport (s : State) (it : WatchExpect) : WatchReport where
  volume := it.volume
  state := (s.volume it.volume).state
  holder := (s.lease it.volume).hold.view
  latch := (s.volume it.volume).latch
  epoch := (s.lease it.volume).epoch
  differs := itemDiffers s it

/-- The watch list in ascending port number and, within a port, ascending tag, with one more watch. -/
def insertWatch (w : Watch) : List Watch → List Watch
  | [] => [w]
  | x :: t =>
    if w.port < x.port ∨ w.port = x.port ∧ w.tag < x.tag then w :: x :: t else x :: insertWatch w t

/-- The watch names the volume, and that item differs. -/
def watchHit (s : State) (v : Nat) (w : Watch) : Bool :=
  w.items.any (fun it => decide (it.volume = v) && itemDiffers s it)

/-- A change of a watched value of a volume is reported to the watch list: every held watch that names the volume and
whose item differs is answered CHANGED and leaves the list, in ascending port and tag (R170; log 25). -/
def reportVolume (v : Nat) (s : State) : State :=
  (s.watches.filter (watchHit s v)).foldl
    (fun s w => answer ⟨w.port, w.tag⟩ RequestKind.watch.code .changed (.watched (w.items.map (watchReport s))) s)
    { s with watches := s.watches.filter (fun w => !watchHit s v w) }

/-- The watches of a port end with a refusal, in ascending tag (R172; log 25). -/
def endWatches (p : Port) (r : Reason) (s : State) : State :=
  (s.watches.filter (fun w => decide (w.port = p))).foldl
    (fun s w => refuse ⟨w.port, w.tag⟩ .watch r s)
    { s with watches := s.watches.filter (fun w => decide (w.port ≠ p)) }

/-- The activity latch of a volume takes a value; a change is reported to the watch list (R12). -/
def setLatch (v : Nat) (b : Bool) (s : State) : State :=
  if (s.volume v).latch = b then s
  else reportVolume v (s.updateVolume v (fun r => { r with latch := b }))

/-! ## Extent selection -/

/-- The first member of the free set that the scan from the cursor meets, wrapping at the end (R31). -/
def Span.scan (sp : Span) : Option Nat :=
  match FreeSet.next? sp.cursor sp.free with
  | some i => some i
  | none => FreeSet.next? 0 sp.free

/-- An extent is taken: it leaves the free set, the free count falls, the cursor goes behind it (R31). -/
def Span.takeIndex (sp : Span) (i : Nat) : Span :=
  { sp with
    free := FreeSet.remove i sp.free
    freeCount := sp.freeCount - 1
    cursor := if i + 1 = sp.length then 0 else i + 1 }

/-- Selection scans this span for a pool: ONLINE, of the pool, not the span passed over, some extent free (R31, R32). -/
def Span.scanned (sp : Span) (n : SpanId) (pool : PoolId) (skip : Option SpanId) : Bool :=
  decide (sp.state = .online ∧ sp.pool = pool ∧ some n ≠ skip ∧ sp.freeCount ≠ 0)

/-- The extent that the scan chooses next: the ONLINE spans of the pool in ascending number (R31, R32). -/
def chooseExtent (spans : Vector Span 16) (pool : PoolId) (skip : Option SpanId) : Option Extent :=
  allSpans.findSome? (fun n =>
    if (spans.get n).scanned n pool skip then (spans.get n).scan.map (fun i => ⟨n, i⟩) else none)

/-- The spans after an extent is taken. -/
def takeExtent (spans : Vector Span 16) (e : Extent) : Vector Span 16 :=
  putAt spans e.span ((spans.get e.span).takeIndex e.index)

/-- A run of extents, chosen one after another, each scan starting again from the lowest span (R31). -/
def chooseRun (pool : PoolId) (skip : Option SpanId) : Nat → Vector Span 16 → List Extent × Vector Span 16
  | 0, spans => ([], spans)
  | n + 1, spans =>
    match chooseExtent spans pool skip with
    | none => ([], spans)
    | some e =>
      let r := chooseRun pool skip n (takeExtent spans e)
      (e :: r.1, r.2)

/-- The allocation test (R33): allocatable less the run count is at least the relocation floor. -/
def Pool.allocates (p : Pool) (count : Nat) : Bool := decide (p.settings.floor + count ≤ p.allocatable)

/-- The relocation test (R33): an extent is free in an ONLINE span of the pool other than the source span. -/
def relocates (spans : Vector Span 16) (pool : PoolId) (source : SpanId) : Bool :=
  allSpans.any (fun n => (spans.get n).scanned n pool (some source))

/-- A span's free set gains an extent (R30). -/
def returnExtent (e : Extent) (spans : Vector Span 16) : Vector Span 16 :=
  putAt spans e.span
    { spans.get e.span with
      free := FreeSet.insert e.index (spans.get e.span).free
      freeCount := (spans.get e.span).freeCount + 1 }

/-! ## Pools -/

/-- The level of a pool is judged; a level that differs is taken and sent to every JOINED head (R37). -/
def judgeLevel (p : PoolId) (s : State) : State :=
  if (s.pools.get p).judged = (s.pools.get p).level then s
  else
    notifyJoined none (.poolLevel p (s.pools.get p).judged)
      (s.updatePool p (fun r => { r with level := r.judged }))

/-! ## The grace list -/

/-- Every JOINED head's acknowledged generation is at least the tag (R112). -/
def acknowledged (s : State) (tag : Gen) : Bool :=
  allPorts.all (fun p =>
    match s.heads.get p with
    | .joined m => decide (tag.toNat ≤ m.ack.toNat)
    | .absent => true
    | .lapsed _ => true)

/-- The stall countdown after the oldest batch leaves: loaded for the next oldest, or stopped (R112, R120). -/
def stallAfterRelease (rest : List Batch) (grace : Nat) : Stall :=
  match rest with
  | [] => .stopped
  | _ :: _ => .quiet grace

/-- The deletion record of a volume changes. -/
def updateDeletion (v : Nat) (f : Deletion → Deletion) (s : State) : State :=
  s.updateVolume v (fun r => { r with deletion := r.deletion.map f })

/-- The deletion of a volume is in stage ENDING (R25). -/
def ending (s : State) (v : Nat) : Bool :=
  match (s.volume v).deletion with
  | some d => decide (d.stage = .ending)
  | none => false

/-- A deletion is granted admission (R24, R113): the promise is taken, the deletion is not paused, and its removal intent is
due inside the event (log 28). -/
def grantRemoval (v : Nat) (s : State) : State :=
  updateDeletion v (fun d => { d with paused := false })
    { s with promises := s.promises + 1, deletionsDue := s.deletionsDue ++ [v] }

/-- The list of paused deletions is served from its front: each is granted admission while the admission count leaves room,
and the service stops at the first that cannot be granted (R114). -/
def serveList : List Nat → State → State
  | [], s => { s with admissionWait := [] }
  | v :: rest, s =>
    if s.admission < Config.admissionLimit then serveList rest (grantRemoval v s) else { s with admissionWait := v :: rest }

/-- The paused deletions are served (R112 step 5, R114). -/
def serveWaiting (s : State) : State := serveList s.admissionWait s

/-- The extents of a released batch join their free sets, the pool's counts move and its level is judged (R112 steps 1
to 4). -/
def returnBatch (b : Batch) (rest : List Batch) (s : State) : State :=
  let online := (b.extents.filter (fun e => decide ((s.spans.get e.span).state = .online))).length
  let s := { s with grace := rest, spans := b.extents.foldl (fun sp e => returnExtent e sp) s.spans }
  judgeLevel b.pool (s.updatePool b.pool (fun r =>
    { r with free := r.free + b.extents.length, allocatable := r.allocatable + online, grace := r.grace - b.extents.length }))

/-- The oldest batch is released (R112): its extents return, the paused deletions are served, the stall countdown is loaded for
the next oldest batch or stopped. -/
def releaseOldest (b : Batch) (rest : List Batch) (s : State) : State :=
  { serveWaiting (returnBatch b rest s) with stall := stallAfterRelease rest s.timing.grace }

/-- The release condition is tested, batch after batch from the oldest, until one fails it or the list is empty (R112).
The first argument bounds the batches released. -/
def releaseLoop : Nat → State → State
  | 0, s => s
  | n + 1, s =>
    match s.grace with
    | [] => s
    | b :: rest => if acknowledged s b.tag then releaseLoop n (releaseOldest b rest s) else s

/-- The release condition is tested (R112). -/
def releaseTest (s : State) : State := releaseLoop s.grace.length s

/-- INVALIDATE, then GENERATION, for every JOINED head but the originator (R109, R124). -/
def announceBatch (originator : Option Port) (invalidated : Option Nat) (g : Gen) (s : State) : State :=
  allPorts.foldl (fun s p =>
    if some p = originator then s
    else
      match invalidated with
      | some v => addNotice p (.generation g) (addNotice p (.invalidate v g) s)
      | none => addNotice p (.generation g) s) s

/-- A batch is formed (R111): G rises, the batch takes it as its tag and joins the newest end, the stall countdown is
loaded if the list was empty, notices are added, the release condition is tested. -/
def formBatch (pool : PoolId) (extents : List Extent) (originator : Option Port) (invalidated : Option Nat) (s : State) :
    State :=
  let g := s.generation + 1
  releaseTest (announceBatch originator invalidated g { s with
    generation := g
    grace := s.grace ++ [⟨g, pool, extents⟩]
    stall := if s.grace.isEmpty then .quiet s.timing.grace else s.stall })

/-- A promise becomes a batch: a forming batch is formed (R111, R113). -/
def formPromised (f : Forming) (originator : Option Port) (volume : Nat) (s : State) : State :=
  formBatch f.pool f.extents originator (some volume) { s with promises := s.promises - 1 }

/-- A promise is withdrawn, and the paused deletions are served (R113, R114). -/
def withdrawPromise (s : State) : State := serveWaiting { s with promises := s.promises - 1 }

/-- A forming batch whose intent ends without DONE is settled (R119): formed with no originator when it holds an extent;
otherwise its promise is withdrawn. -/
def settleForming (f : Forming) (volume : Nat) (s : State) : State :=
  if f.extents.isEmpty then withdrawPromise s else formPromised f none volume s

/-! ## Dropping grants -/

/-- The volume's and its tenant's pending counts fall (R5). -/
def lowerPending (v n : Nat) (s : State) : State :=
  (s.updateTenant (s.volume v).tenant (fun t => { t with pending := t.pending - n })).updateVolume v
    (fun r => { r with pending := r.pending - n })

/-- The volume's and its tenant's pending counts rise (R5). -/
def raisePending (v n : Nat) (s : State) : State :=
  (s.updateTenant (s.volume v).tenant (fun t => { t with pending := t.pending + n })).updateVolume v
    (fun r => { r with pending := r.pending + n })

/-- The state of a drop just before its batch is formed: the record is FREE, its extents have passed from reserved to grace, its
pending counts have fallen (R65 steps 4 to 6); an entry that was MOVING is MAPPED again (R125). -/
def dropped (n : Nat) (g : Grant) (s : State) : State :=
  let s' := (s.freeGrant n).updatePool (s.volume g.volume).pool
    (fun r => { r with reserved := r.reserved - g.extents.length, grace := r.grace + g.extents.length })
  match g.kind with
  | .allocate => lowerPending g.volume g.count s'
  | .relocate => s'

/-- The volume whose placements a drop invalidates: that of a relocation grant (R124). -/
def Grant.invalidates (g : Grant) : Option Nat :=
  match g.kind with
  | .allocate => none
  | .relocate => some g.volume

/-- A STAGED grant is dropped (R65, R135): a batch of its own takes its extents. -/
def dropGrant (originator : Option Port) (n : Nat) (s : State) : State :=
  match s.grant? n with
  | none => s
  | some g =>
    formBatch (s.volume g.volume).pool (g.extents.map Prod.snd) originator g.invalidates (dropped n g s)

/-- Several grants are dropped by one event, in the order given (R66). -/
def dropGrants (originator : Option Port) (ns : List Nat) (s : State) : State :=
  ns.foldl (fun s n => dropGrant originator n s) s

end Sys2Proof.Machine
end

