-- ==== Sys2Proof/Machine/LeaseOps.lean ====
section
/-! DEFINITION. The operations on lease records and on membership: the pass (R79), the loss of a holder, the departure of a
waiter, the lapse (R102) and the join (R96). -/

namespace Sys2Proof.Machine

open State

/-- The lease of a volume is passed to its first waiter (R79). The GRANTED answer names the volume, as that of R75 does (log 44). -/
def passLease (v : Nat) (w : Waiter) (rest : List Waiter) (orphan : Bool) (s : State) : State :=
  let l := s.lease v
  let demanded := rest.any Waiter.marked
  let hold := if demanded then Hold.recalling w.port s.timing.recallTicks else Hold.held w.port
  let l' : Lease := ⟨hold, l.epoch + 1, rest⟩
  let s := answer ⟨w.port, w.tag⟩ RequestKind.claim.code .granted (.leased v l'.epoch l'.wanted orphan) (s.setLease v l')
  reportVolume v (if rest.isEmpty then s else addNotice w.port (.leaseWanted v demanded) s)

/-- The holder loses the lease: it is passed to the first waiter, or the record takes the hold given (FREE, R80, or
ORPHANED, R85). -/
def loseLease (v : Nat) (orphan : Bool) (empty : Hold) (s : State) : State :=
  match (s.lease v).waiters with
  | w :: rest => passLease v w rest orphan s
  | [] => reportVolume v (s.setLease v { s.lease v with hold := empty })

/-- A waiter leaves the queue of a lease that keeps its holder; a recall with no mark left is withdrawn (R82). -/
def departWaiter (p : Port) (v : Nat) (s : State) : State :=
  let l := s.lease v
  let rest := l.waiters.filter (fun w => decide (w.port ≠ p))
  match l.hold with
  | .recalling h _ =>
    if rest.any Waiter.marked then s.setLease v { l with waiters := rest }
    else
      let s := s.setLease v { l with hold := .held h, waiters := rest }
      if rest.isEmpty then s else addNotice h (.leaseWanted v false) s
  | .free => s.setLease v { l with waiters := rest }
  | .held _ => s.setLease v { l with waiters := rest }
  | .orphaned => s.setLease v { l with waiters := rest }

/-- The volumes whose lease a head holds, ascending. -/
def heldVolumes (s : State) (p : Port) : List Nat :=
  (s.leases.filter (fun e => e.2.heldBy p)).map Prod.fst

/-- The volumes in whose waiter queue a port stands, ascending, each with the tag of its waiting Claim. -/
def waitingClaims (s : State) (p : Port) : List (Nat × Tag) :=
  s.leases.flatMap (fun e => (e.2.waiters.filter (fun w => decide (w.port = p))).map (fun w => (e.1, w.tag)))

/-- A port leaves every waiter queue it stands in (R86, R87, R101, R102), in ascending volume id, which orders the LEASE_WANTED
notices at a common holder (log 25). -/
def departAll (p : Port) (s : State) : State :=
  (waitingClaims s p).foldl (fun s c => departWaiter p c.1 s) s

/-- A port's waiting Claims, taken from the queues beforehand, end with a refusal on their tags, in ascending volume id
(R86, R101, R102; log 25). -/
def endClaims (p : Port) (r : Reason) (claims : List (Nat × Tag)) (s : State) : State :=
  claims.foldl (fun s c => refuse ⟨p, c.2⟩ .claim r s) s

/-- The STAGED grants of a head on one volume, ascending. -/
def stagedOn (s : State) (p : Port) (v : Nat) : List Nat :=
  s.stagedGrants (fun g => decide (g.owner = p ∧ g.volume = v))

/-- The STAGED grants of a head on all volumes, ascending. -/
def stagedOf (s : State) (p : Port) : List Nat := s.stagedGrants (fun g => decide (g.owner = p))

/-- A head's entry and its fence line change at one event, the line as the head's state asks (R94). -/
def setHead (p : Port) (h : Head) (s : State) : State :=
  { s with
    heads := putAt s.heads p h
    fences := putAt s.fences p (if h.isJoined then .released else .asserted) }

/-- A head lapses (R102, steps 1 to 7). Nothing happens for a head that is not JOINED (R103). -/
def lapse (p : Port) (s : State) : State :=
  match s.heads.get p with
  | .joined m =>
    let s := setHead p (.lapsed m.incarnation) s
    let s := dropGrants none (stagedOf s p) s
    let s := (heldVolumes s p).foldl (fun s v => loseLease v true .orphaned s) s
    let claims := waitingClaims s p
    let s := endClaims p .notJoined claims (departAll p s)
    let s := endWatches p .notJoined s
    releaseTest (notifyJoined (some p) (.headLapsed p m.incarnation) s)
  | .absent => s
  | .lapsed _ => s

/-- A head joins (R96): line released, JOINED, acknowledged generation G, countdown loaded, stage NONE, notice set emptied. -/
def joinHead (p : Port) (incarnation : BitVec 32) (s : State) : State :=
  (setHead p (.joined ⟨incarnation, s.generation, s.timing.live, false⟩) s).updatePort p
    (fun r => { r with notices := [], lost := false })

end Sys2Proof.Machine
end

