-- ==== Sys2Proof/Machine/FaultOps.lean ====
section
/-! DEFINITION. Faults: their recording, the freeze of the part (R162, R163), the reads and write-backs of store cells (R160). -/

namespace Sys2Proof.Machine

open State

/-! ## What a request or an intent is called in its answer -/

/-- The kind of a durable request. -/
def Request.kind : Request → RequestKind
  | .createVolume _ _ _ _ _ => .createVolume
  | .deleteVolume _ => .deleteVolume
  | .resizeVolume _ _ => .resizeVolume
  | .setVolumeMode _ _ => .setVolumeMode
  | .noteWritten _ _ _ => .noteWritten
  | .unmap _ _ _ => .unmap
  | .bind _ _ _ _ => .bind
  | .completeRelocate _ _ _ => .completeRelocate
  | .setTenant _ _ => .setTenant
  | .addSpan _ _ _ => .addSpan
  | .drainSpan _ _ => .drainSpan
  | .removeSpan _ => .removeSpan
  | .setPool _ _ => .setPool
  | .configure _ => .configure

/-- The change queue a durable request joins (R141). -/
def Request.queue : Request → QueueId
  | .createVolume v _ _ _ _ => .volume v
  | .deleteVolume v => .volume v
  | .resizeVolume v _ => .volume v
  | .setVolumeMode v _ => .volume v
  | .noteWritten v _ _ => .volume v
  | .unmap v _ _ => .volume v
  | .bind v _ _ _ => .volume v
  | .completeRelocate v _ _ => .volume v
  | .setTenant _ _ => .shelf
  | .addSpan _ _ _ => .shelf
  | .drainSpan _ _ => .shelf
  | .removeSpan _ => .shelf
  | .setPool _ _ => .shelf
  | .configure _ => .shelf

/-- The request has passed its arrival check and is carried through a link loss: Bind and CompleteRelocate (R151). -/
def Request.carried : Request → Bool
  | .bind _ _ _ _ => true
  | .completeRelocate _ _ _ => true
  | .createVolume _ _ _ _ _ => false
  | .deleteVolume _ => false
  | .resizeVolume _ _ => false
  | .setVolumeMode _ _ => false
  | .noteWritten _ _ _ => false
  | .unmap _ _ _ => false
  | .setTenant _ _ => false
  | .addSpan _ _ _ => false
  | .drainSpan _ _ => false
  | .removeSpan _ => false
  | .setPool _ _ => false
  | .configure _ => false

/-- The forming batch that a waiting request holds: a CompleteRelocate's (R130). -/
def Request.forming? : Request → Option Forming
  | .completeRelocate _ _ f => some f
  | .bind _ _ _ _ => none
  | .createVolume _ _ _ _ _ => none
  | .deleteVolume _ => none
  | .resizeVolume _ _ => none
  | .setVolumeMode _ _ => none
  | .noteWritten _ _ _ => none
  | .unmap _ _ _ => none
  | .setTenant _ _ => none
  | .addSpan _ _ _ => none
  | .drainSpan _ _ => none
  | .removeSpan _ => none
  | .setPool _ _ => none
  | .configure _ => none

/-- The kind of the request that an intent answers; none for the intents of a deletion, whose requester stands in the
deletion record (R22 to R25). -/
def IntentKind.requestKind? : IntentKind → Option RequestKind
  | .volumeCreate => some .createVolume
  | .volumeResize _ _ => some .resizeVolume
  | .volumeMode _ => some .setVolumeMode
  | .deleteMark => none
  | .deleteBatch => none
  | .deleteEnd => none
  | .note _ => some .noteWritten
  | .trim _ => some .unmap
  | .bind _ _ => some .bind
  | .move _ => some .completeRelocate
  | .tenant _ => some .setTenant
  | .span .add _ _ => some .addSpan
  | .span .drain _ _ => some .drainSpan
  | .span .remove _ _ => some .removeSpan
  | .pool _ => some .setPool
  | .config _ => some .configure

/-! ## Recording -/

/-- A fault reaches its record (R159). -/
def recordFault (source : FaultSource) (kind : FaultKind) (place : FaultPlace) (s : State) : State :=
  { s with faults := s.faults.put source ((s.faults.get source).take kind place) }

/-! ## The freeze -/

/-- A refusal FROZEN of a request that may have lost its port and tag (R163). -/
def refuseFrozen (o : Option Origin) (kind : RequestKind) (s : State) : State :=
  match o with
  | none => s
  | some o => refuse o kind .frozen s

/-- The waiting requests of a change queue are refused FROZEN (R163). -/
def refuseWaiting (c : ChangeQueue) (s : State) : State :=
  c.waiting.foldl (fun s i => refuseFrozen i.origin i.request.kind s) s

/-- The request of a stopped intent is refused FROZEN (R163). -/
def refuseIntent (i : Intent) (s : State) : State :=
  match i.kind.requestKind? with
  | none => s
  | some k => refuseFrozen i.origin k s

/-- The waiting Claims of a volume whose deletion stops before its marking intent is DONE are answered VOLUME_STATE;
a recall is removed (R90). -/
def clearClaims (v : Nat) (s : State) : State :=
  let l := s.lease v
  let hold := match l.hold with
    | .recalling h _ => Hold.held h
    | .free => .free
    | .held h => .held h
    | .orphaned => .orphaned
  l.waiters.foldl (fun s w => refuse ⟨w.port, w.tag⟩ .claim .volumeState s)
    (s.setLease v { l with hold := hold, waiters := [] })

/-- A deletion in progress stops on the frozen mode: its DeleteVolume is refused FROZEN, its record removed (R26, R90). -/
def stopDeletion (v : Nat) (s : State) : State :=
  match (s.volume v).deletion with
  | none => s
  | some d =>
    let s := (refuseFrozen d.requester .deleteVolume s).updateVolume v (fun r => { r with deletion := none })
    if d.stage = .marking then clearClaims v s else s

/-- The intents that have no slot yet, and then those in the log. -/
def liveIntents (s : State) : List Intent := s.logWait ++ s.log.map LogIntent.intent

/-- The forming batch of a deletion that has been granted admission and whose removal intent is due: empty (R110). -/
def grantedForming (s : State) (v : Nat) : List Forming :=
  (s.deletionsDue.filter (fun w => decide (w = v) && !ending s w)).map (fun w => ⟨(s.volume w).pool, []⟩)

/-- The forming batches of one volume's work: of its intent, of a removal intent that is due, then of its waiting
CompleteRelocates (R110). -/
def formingOf (s : State) (v : Nat) (c : ChangeQueue) : List Forming :=
  (liveIntents s).filterMap (fun i => if i.queue = .volume v then i.forming else none) ++ grantedForming s v ++
    c.waiting.filterMap (fun i => i.request.forming?)

/-- Every forming batch with its volume, in ascending volume id (R163). -/
def allForming (s : State) : List (Nat × Forming) :=
  s.queues.flatMap (fun e => (formingOf s e.1 e.2).map (fun f => (e.1, f)))

/-- Every change queue and the log wait queue emptied; the intents in the log have no port, tag and forming batch left,
and stay only for the store writes that are under way (R162, R163). -/
def emptyQueues (s : State) : State :=
  { s with
    queues := []
    shelf := .empty
    logWait := []
    admissionWait := []
    deletionsDue := []
    log := s.log.map (fun l => { l with intent := { l.intent with origin := none, forming := none } }) }

/-- The work that was changing the store is stopped (R163); the order of the answers is log 8. -/
def stopWork (s : State) : State :=
  let forming := allForming s
  let s' := s.queues.foldl (fun t e => refuseWaiting e.2 t) s
  let s' := refuseWaiting s.shelf s'
  let s' := (liveIntents s).foldl (fun t i => refuseIntent i t) s'
  let s' := s.volumes.foldl (fun t e => stopDeletion e.1 t) s'
  forming.foldl (fun t f => settleForming f.2 f.1 t) (emptyQueues s')

/-- A freezing fault, already recorded, is met while the part is SERVING (R162). -/
def freeze (cause : FreezeCause) (s : State) : State :=
  notifyJoined none (.partFrozen cause)
    (stopWork { s with mode := .frozen, freezeCause := some cause })

/-- A store fault is met (R160): it is recorded; a freezing one freezes a part that is SERVING (R162), and decides the
outcome of a recovery (R161). -/
def storeFault (source : FaultSource) (kind : FaultKind) (area : StoreArea) (s : State) : State :=
  let s := recordFault source kind (.store area s.faultsMet) { s with faultsMet := s.faultsMet + 1 }
  if kind = .corrected then s
  else
    match s.mode with
    | .serving => freeze ⟨source, kind⟩ s
    | .recovering =>
      { s with recovery := { s.recovery with firstFault := some (s.recovery.firstFault.getD ⟨source, kind⟩) } }
    | .frozen => s

/-! ## Reads of the store -/

/-- The record that takes the faults of an area (Table 9-2). -/
def areaSource : StoreArea → FaultSource
  | .logSlot _ => .log
  | .retiredMark => .log
  | .entry _ _ => .mapStore
  | .volume _ => .mapStore
  | .tenant _ => .mapStore
  | .span _ => .mapStore
  | .pool _ => .mapStore
  | .config => .mapStore
  | .bootCount => .mapStore

/-- What the store reports for the read of an area; none is good. -/
def readOf (reads : Reads) (a : StoreArea) : Option ReadFault := (reads.find? (fun e => decide (e.1 = a))).map Prod.snd

/-- No write-back of this area begins: FROZEN (R160), a recovery that stopped writing (R157), or one is under way. -/
def noWriteBack (a : StoreArea) (s : State) : Bool :=
  decide (s.mode = .frozen) || s.recovery.writesStopped || decide (a ∈ s.writeBacks)

/-- A corrected read: recorded, its value used and written back, but not while FROZEN (R160). -/
def correctedRead (a : StoreArea) (s : State) : State :=
  let s := storeFault (areaSource a) .corrected a s
  { s with writeBacks := if noWriteBack a s then s.writeBacks else s.writeBacks ++ [a] }

/-- The poison list with one more pair, ascending volume id and index, no pair twice (R165, R166). -/
def insertPair (v i : Nat) : List (Nat × Nat) → List (Nat × Nat)
  | [] => [(v, i)]
  | (w, j) :: t =>
    if v < w ∨ v = w ∧ i < j then (v, i) :: (w, j) :: t
    else if v = w ∧ i = j then (w, j) :: t
    else (w, j) :: insertPair v i t

/-- An uncorrectable read of an entry cell: the index joins the poison list and the fault is met (R15, R160, R165). -/
def poisonedRead (v i : Nat) (s : State) : State :=
  storeFault .mapStore .uncorrectable (.entry v i) { s with poison := insertPair v i s.poison }

/-- The reports on the entry cells of one volume at the indices that are read. -/
def cellReads (v : Nat) (read : Nat → Bool) (reads : Reads) : List (Nat × ReadFault) :=
  reads.filterMap (fun e =>
    match e.1 with
    | .entry w i => if w = v ∧ read i then some (i, e.2) else none
    | .volume _ => none
    | .tenant _ => none
    | .span _ => none
    | .pool _ => none
    | .config => none
    | .bootCount => none
    | .logSlot _ => none
    | .retiredMark => none)

/-- A request reads entry cells; the first uncorrectable one stops it (false), R160. -/
def readCells (v : Nat) : List (Nat × ReadFault) → State → State × Bool
  | [], s => (s, true)
  | (i, .corrected) :: t, s => readCells v t (correctedRead (.entry v i) s)
  | (i, .uncorrectable) :: _, s => (poisonedRead v i s, false)

/-- A Resolve reads entry cells: an uncorrectable one poisons its index and the others are read on (R15). -/
def resolveCells (v : Nat) : List (Nat × ReadFault) → State → State
  | [], s => s
  | (i, .corrected) :: t, s => resolveCells v t (correctedRead (.entry v i) s)
  | (i, .uncorrectable) :: t, s => resolveCells v t (poisonedRead v i s)

end Sys2Proof.Machine
end

