-- ==== Sys2Proof/Machine/Changes.lean ====
section
/-! DEFINITION. The change queues: joining one, the validation of its front (Table 8-1), the forming of intents, the removal
batches of deletions, the log slots, and the steps that are due inside the event before (R114, R142, R146, R148). -/

namespace Sys2Proof.Machine

open State

/-! ## Queues and intents -/

/-- A durable request joins the end of its change queue (R141). -/
def enqueue (r : Request) (o : Origin) (s : State) : State :=
  let c := s.queue r.queue
  s.setQueue r.queue { c with waiting := c.waiting ++ [⟨r, some o⟩] }

/-- An intent is formed: the front of its queue is in flight, and the intent waits for a log slot (R142, R146). -/
def formIntent (flight : Flight) (i : Intent) (s : State) : State :=
  let s := s.setQueue i.queue { s.queue i.queue with flight := some flight }
  { s with logWait := s.logWait ++ [i] }

/-- The front of a change queue is no longer in flight (R142). -/
def endFlight (q : QueueId) (s : State) : State := s.setQueue q { s.queue q with flight := none }

/-- The intent of a request with a port and tag, on one effect and without a forming batch. -/
def simpleIntent (q : QueueId) (kind : IntentKind) (o : Option Origin) (e : Effect) : Intent :=
  ⟨kind, q, o, o.map Origin.port, [e], none⟩

/-! ## Deletions -/

/-- The entries that the next removal batch of a volume removes: its lowest, at most 4096, ascending (R24). -/
def removalEntries (s : State) (v : Nat) : Table Entry := (s.mapOf v).take Config.removalLimit

/-- The removal intent of a deletion that has been granted admission is formed (R24). Its entries are read (R160; log 7); with
one that cannot be read no intent is formed, and the freeze withdraws the promise (R163). -/
def formRemoval (v : Nat) (reads : Reads) (s : State) : State :=
  let listed := removalEntries s v
  match readCells v (cellReads v (fun i => listed.any (fun e => decide (e.1 = i))) reads) s with
  | (s, false) => s
  | (s, true) =>
    formIntent .deletion
      ⟨.deleteBatch, .volume v, none, none, listed.map (fun e => .removeEntry v e.1), some ⟨(s.volume v).pool, []⟩⟩
      { s with deletionsDue := s.deletionsDue.tail }

/-- A deletion asks for grace admission (R24, R113); refused, it is paused at the end of the admission wait list (R114). -/
def askRemoval (v : Nat) (s : State) : State :=
  if s.admission < Config.admissionLimit then grantRemoval v s
  else updateDeletion v (fun d => { d with paused := true }) { s with admissionWait := s.admissionWait ++ [v] }

/-- The ending intent of a deletion is formed (R25). -/
def formEnding (v : Nat) (s : State) : State :=
  formIntent .deletion (simpleIntent (.volume v) .deleteEnd none (.setVolume v .absent 0 0 0))
    { s with deletionsDue := s.deletionsDue.tail }

/-- A deletion goes on: REMOVING while the volume has entries, ENDING when it has none (R23, R24, R27). The intent that it forms
next is due inside the event, behind those of the deletions that the event has served before (R149 step 4; log 28). -/
def continueDeletion (v : Nat) (s : State) : State :=
  if 0 < (s.volume v).mapped then askRemoval v (updateDeletion v (fun d => { d with stage := .removing }) s)
  else
    let s := updateDeletion v (fun d => { d with stage := .ending }) s
    { s with deletionsDue := s.deletionsDue ++ [v] }

/-- The deletion whose intent is due first forms it: its ending intent, or its removal intent. -/
def formDeletion (reads : Reads) (s : State) : State :=
  match s.deletionsDue with
  | [] => s
  | v :: _ => if ending s v then formEnding v s else formRemoval v reads s

/-! ## Validation (R142) -/

/-- The requester of an item holds the volume's lease (R70). -/
def itemHolds (s : State) (v : Nat) (o : Option Origin) : Bool :=
  match o with
  | none => false
  | some o => (s.lease v).heldBy o.port

/-- The requester holds the lease, or the lease is FREE or ORPHANED (R19, R20, R22). -/
def itemMayManage (s : State) (v : Nat) (o : Option Origin) : Bool := itemHolds s v o || (s.lease v).unheld

/-- A refusal at validation ends the request and answers it (R142). -/
def refuseItem (o : Option Origin) (kind : RequestKind) (r : Reason) (body : AnswerBody) (s : State) : State :=
  answer? o kind.code (.refused r) body s

/-- CreateVolume (R18). -/
def validateCreate (v t : Nat) (pool : PoolId) (size : Nat) (mode : VolState) (o : Option Origin) (s : State) : State :=
  match (s.volume v).state with
  | .absent => formIntent .intent (simpleIntent (.volume v) .volumeCreate o (.setVolume v mode t pool size)) s
  | .active => refuseItem o .createVolume .exists .empty s
  | .readOnly => refuseItem o .createVolume .exists .empty s
  | .deleting => refuseItem o .createVolume .volumeState .empty s

/-- A grant on the volume is BINDING (R22). -/
def bindingOn (s : State) (v : Nat) : Bool :=
  s.grants.any (fun e => decide (e.2.volume = v) && decide (e.2.state = .binding))

/-- The requests behind a DeleteVolume are removed and refused VOLUME_STATE (R22). -/
def refuseBehind (c : ChangeQueue) (s : State) : State :=
  c.waiting.foldl (fun s i => refuseItem i.origin i.request.kind .volumeState .empty s) s

/-- DeleteVolume (R22). -/
def validateDelete (v : Nat) (o : Option Origin) (s : State) : State :=
  if !itemMayManage s v o then refuseItem o .deleteVolume .notHolder .empty s
  else if bindingOn s v then refuseItem o .deleteVolume .busyVolume .empty s
  else
    let r := s.volume v
    let s := s.setVolume v { r with state := .deleting, deletion := some ⟨o, .marking, false⟩ }
    let s := refuseBehind (s.queue (.volume v)) (s.setQueue (.volume v) .empty)
    reportVolume v
      (formIntent .deletion (simpleIntent (.volume v) .deleteMark o (.setVolume v .deleting r.tenant r.pool r.size)) s)

/-- An entry or an index held by a grant lies at or beyond a size (R19). -/
def mappedBeyond (s : State) (v size : Nat) : Bool :=
  (s.mapOf v).any (fun e => decide (size ≤ e.1)) ||
  s.grants.any (fun g => decide (g.2.volume = v) && g.2.extents.any (fun e => decide (size ≤ e.1)))

/-- ResizeVolume (R19). A lowered size is judged on the entries beyond it, which are read (R160). The answer without an intent carries
both sizes, as the one at DONE does (log 46). -/
def validateResize (v size : Nat) (o : Option Origin) (reads : Reads) (s : State) : State :=
  let r := s.volume v
  let form (flight : Flight) (s : State) :=
    formIntent flight
      (simpleIntent (.volume v) (.volumeResize r.size size) o (.setVolume v r.state r.tenant r.pool size)) s
  if !itemMayManage s v o then refuseItem o .resizeVolume .notHolder .empty s
  else if r.size < size then form .intent s
  else if size = r.size then answer? o RequestKind.resizeVolume.code .done (.resized size size) s
  else
    match readCells v (cellReads v (fun i => decide (size ≤ i ∧ i < r.size)) reads) s with
    | (s, false) => refuseItem o .resizeVolume .frozen .empty s
    | (s, true) =>
      if mappedBeyond s v size then refuseItem o .resizeVolume .mappedBeyond .empty s else form (.shrink size) s

/-- SetVolumeMode (R20). The answer without an intent carries the mode, as the one at DONE does (log 46). -/
def validateMode (v : Nat) (mode : VolState) (o : Option Origin) (s : State) : State :=
  let r := s.volume v
  if !itemMayManage s v o then refuseItem o .setVolumeMode .notHolder .empty s
  else if r.state = mode then answer? o RequestKind.setVolumeMode.code .done (.modeSet mode) s
  else formIntent .intent (simpleIntent (.volume v) (.volumeMode mode) o (.setVolume v mode r.tenant r.pool r.size)) s

/-- NoteWritten (R16). -/
def validateNote (v i : Nat) (written : Mask) (o : Option Origin) (reads : Reads) (s : State) : State :=
  if !itemHolds s v o then refuseItem o .noteWritten .notHolder .empty s
  else if (s.volume v).state ≠ .active then refuseItem o .noteWritten .volumeState .empty s
  else if (s.volume v).size ≤ i then refuseItem o .noteWritten .range .empty s
  else
    match readCells v (cellReads v (fun j => decide (j = i)) reads) s with
    | (s, false) => refuseItem o .noteWritten .frozen .empty s
    | (s, true) =>
      match s.entry? v i with
      | none => refuseItem o .noteWritten .notMapped .empty s
      | some e =>
        if e.unwritten &&& written = 0 then
          answer? o RequestKind.noteWritten.code .done (.noted e.unwritten (s.lease v).wanted) s
        else
          formIntent .intent (simpleIntent (.volume v) (.note i) o (.setMask v i (e.unwritten &&& ~~~written))) s

/-- An index of an Unmap's range that its check 4 refuses: held by a live allocation grant, or MOVING with a BINDING
relocation grant (R116). -/
def unmapBlocked (s : State) (v i : Nat) : Bool :=
  (s.allocationOf v i).isSome ||
  (match s.relocationOf v i with
   | some g => decide (g.2.state = .binding)
   | none => false)

/-- The entries of a range, ascending. -/
def entriesIn (s : State) (v first count : Nat) : List Nat :=
  ((s.mapOf v).filter (fun e => decide (first ≤ e.1 ∧ e.1 < first + count))).map Prod.fst

/-- The STAGED relocation grants of the MOVING entries of a range, ascending (R117). -/
def movingIn (s : State) (v first count : Nat) : List Nat :=
  s.stagedGrants (fun g => decide (g.kind = .relocate ∧ g.volume = v ∧ first ≤ g.first ∧ g.first < first + count))

/-- A STAGED relocation grant is dropped into an Unmap's forming batch (R117, R136). -/
def cancelInto (n : Nat) (r : State × List Extent) : State × List Extent :=
  match r.1.grant? n with
  | none => r
  | some g =>
    let k := g.extents.length
    ((r.1.freeGrant n).updatePool (r.1.volume g.volume).pool
        (fun p => { p with reserved := p.reserved - k, grace := p.grace + k }),
      r.2 ++ g.extents.map Prod.snd)

/-- An Unmap that passed its checks and finds entries (R117). -/
def formUnmap (v : Nat) (held cancelled : List Nat) (o : Option Origin) (s : State) : State :=
  let pool := (s.volume v).pool
  let r := cancelled.foldl (fun r n => cancelInto n r) ({ s with promises := s.promises + 1 }, [])
  formIntent (.trim held)
    ⟨.trim cancelled.length, .volume v, o, o.map Origin.port, held.map (fun i => .removeEntry v i), some ⟨pool, r.2⟩⟩ r.1

/-- Unmap (R116). -/
def validateUnmap (v first count : Nat) (o : Option Origin) (reads : Reads) (s : State) : State :=
  if !itemHolds s v o then refuseItem o .unmap .notHolder .empty s
  else if (s.volume v).state ≠ .active then refuseItem o .unmap .volumeState .empty s
  else if !runBelow first count (s.volume v).size then refuseItem o .unmap .range .empty s
  else
    match readCells v (cellReads v (fun j => decide (first ≤ j ∧ j < first + count)) reads) s with
    | (s, false) => refuseItem o .unmap .frozen .empty s
    | (s, true) =>
      match (runIndices first count).find? (unmapBlocked s v) with
      | some i => refuseItem o .unmap .inGrant (.index i) s
      | none =>
        let held := entriesIn s v first count
        if held.isEmpty then answer? o RequestKind.unmap.code .done (.trimmed 0 0 (s.lease v).wanted) s
        else if Config.admissionLimit ≤ s.admission then refuseItem o .unmap .graceFull .empty s
        else formUnmap v held (movingIn s v first count) o s

/-- The effects of a Bind, in ascending logical index (R57). -/
def bindEffects (v : Nat) (extents : List (Nat × Extent)) (written : List Mask) : List Effect :=
  (extents.zip written).map (fun e => .setEntry v e.1.1 e.1.2 (~~~e.2))

/-- Bind is not judged again; it forms its intent (R57). -/
def validateBind (v n : Nat) (advance : Bool) (written : List Mask) (o : Option Origin) (s : State) : State :=
  let extents := match s.grant? n with
    | some g => g.extents
    | none => []
  formIntent .intent
    ⟨.bind n advance, .volume v, o, o.map Origin.port, bindEffects v extents written, none⟩ s

/-- CompleteRelocate is not judged again; it forms its intent (R131). -/
def validateMove (v n : Nat) (forming : Forming) (o : Option Origin) (s : State) : State :=
  let effects := match s.grant? n with
    | some g => g.extents.map (fun e => Effect.setPlacement v e.1 e.2)
    | none => []
  formIntent .intent
    ⟨.move n, .volume v, o, (s.grant? n).map Grant.owner, effects, some forming⟩ s

/-- AddSpan (R38). -/
def validateAddSpan (n : SpanId) (pool : PoolId) (length : Nat) (o : Option Origin) (s : State) : State :=
  if (s.spans.get n).state ≠ .absent then refuseItem o .addSpan .spanState .empty s
  else if Config.maxTotal < s.registeredTotal + length then refuseItem o .addSpan .capacity .empty s
  else formIntent .intent (simpleIntent .shelf (.span .add n pool) o (.setSpan n .online pool length)) s

/-- DrainSpan (R40). -/
def validateDrainSpan (n : SpanId) (on : Bool) (o : Option Origin) (s : State) : State :=
  let sp := s.spans.get n
  let asked := if on then SpanState.draining else SpanState.online
  if sp.state = .absent then refuseItem o .drainSpan .spanState .empty s
  else if sp.state = asked then answer? o RequestKind.drainSpan.code .done (.spanDrained sp.state sp.freeCount) s
  else formIntent .intent (simpleIntent .shelf (.span .drain n sp.pool) o (.setSpan n asked sp.pool sp.length)) s

/-- RemoveSpan (R41). -/
def validateRemoveSpan (n : SpanId) (o : Option Origin) (s : State) : State :=
  let sp := s.spans.get n
  if sp.state = .draining ∧ sp.freeCount = sp.length then
    formIntent .intent (simpleIntent .shelf (.span .remove n sp.pool) o (.setSpan n .absent sp.pool sp.length)) s
  else refuseItem o .removeSpan .spanState .empty s

/-- The request taken from the front of its queue is validated (Table 8-1). -/
def validateRequest (r : Request) (o : Option Origin) (reads : Reads) (s : State) : State :=
  match r with
  | .createVolume v t pool size mode => validateCreate v t pool size mode o s
  | .deleteVolume v => validateDelete v o s
  | .resizeVolume v size => validateResize v size o reads s
  | .setVolumeMode v mode => validateMode v mode o s
  | .noteWritten v i written => validateNote v i written o reads s
  | .unmap v first count => validateUnmap v first count o reads s
  | .bind v n advance written => validateBind v n advance written o s
  | .completeRelocate v n forming => validateMove v n forming o s
  | .setTenant t q => formIntent .intent (simpleIntent .shelf (.tenant t) o (.setTenant t q)) s
  | .addSpan n pool length => validateAddSpan n pool length o s
  | .drainSpan n on => validateDrainSpan n on o s
  | .removeSpan n => validateRemoveSpan n o s
  | .setPool p settings => formIntent .intent (simpleIntent .shelf (.pool p) o (.setPool p settings)) s
  | .configure t => formIntent .intent (simpleIntent .shelf (.config t) o (.setConfig t)) s

/-- The queue's front can be validated: a request waits and no earlier one is in flight (R142). -/
def ChangeQueue.ready (c : ChangeQueue) : Bool := c.flight.isNone && !c.waiting.isEmpty

/-- The front of a change queue is validated (R142). -/
def validateFront (q : QueueId) (reads : Reads) (s : State) : State :=
  let c := s.queue q
  match c.flight, c.waiting with
  | none, i :: rest => validateRequest i.request i.origin reads (s.setQueue q { c with waiting := rest })
  | none, [] => s
  | some _, _ => s

/-! ## Log slots and the apply engine's start -/

/-- The lowest-numbered free log slot (R146). -/
def freeSlot? (s : State) : Option Nat :=
  (List.range Config.logSlots).find? (fun n => (Table.get? s.store.slots n).isNone)

/-- The name of a kind of intent, as its image holds it (Table 8-3). -/
def IntentKind.name : IntentKind → KindName
  | .volumeCreate => .volumeCreate
  | .volumeResize _ _ => .volumeResize
  | .volumeMode _ => .volumeMode
  | .deleteMark => .deleteMark
  | .deleteBatch => .deleteBatch
  | .deleteEnd => .deleteEnd
  | .note _ => .note
  | .trim _ => .trim
  | .bind _ _ => .bind
  | .move _ => .move
  | .tenant _ => .tenant
  | .span _ _ _ => .span
  | .pool _ => .pool
  | .config _ => .config

/-- The front of the log wait queue takes the lowest free slot and the next sequence number, and enters WRITING
(R145, R146). -/
def takeSlot (s : State) : State :=
  match s.logWait, freeSlot? s with
  | i :: rest, some n =>
    let seq := s.sequence + 1
    { s with
      logWait := rest
      sequence := seq
      log := s.log ++ [⟨n, seq, .writing, 0, true, i⟩]
      store := { s.store with slots := Table.insert n ⟨seq, false, i.kind.name, i.effects⟩ s.store.slots } }
  | [], _ => s
  | _ :: _, none => s

/-- The idle apply engine finds the next intent LOGGED (R148). -/
def applyReady (s : State) : Bool :=
  match s.log with
  | [] => false
  | l :: _ => decide (l.state = .logged)

/-- The apply engine takes the intent that follows the retired mark; the write of its first effect begins (R148). -/
def startApply (s : State) : State :=
  match s.log with
  | [] => s
  | l :: rest => if l.state = .logged then { s with log := { l with state := .applying, writeOut := true } :: rest } else s

/-! ## Steps that are due -/

/-- A step that the rules place inside the event before it (log 4). -/
inductive Due where
  | slot
  | removal
  | ending
  | front (q : QueueId)
  | apply
  deriving DecidableEq, Repr

/-- The volume queue whose front can be validated, if there is one. -/
def readyVolume? (s : State) : Option Nat :=
  (s.queues.find? (fun e => e.2.ready)).map Prod.fst

/-- The step that is due first, in the order of R149: the log wait queue is served; a deletion forms its intent; a front is
validated; the apply engine takes the next intent. Nothing is due while the part is RECOVERING or FROZEN. -/
def due? (s : State) : Option Due :=
  if s.mode ≠ .serving then none
  else if !s.logWait.isEmpty && (freeSlot? s).isSome then some .slot
  else
    match s.deletionsDue, readyVolume? s with
    | v :: _, _ => some (if ending s v then .ending else .removal)
    | [], some v => some (.front (.volume v))
    | [], none =>
      if s.shelf.ready then some (.front .shelf)
      else if applyReady s then some .apply
      else none

/-- A due step is taken; the cells that an unstated validation or removal intent reads are good (log 6). -/
def takeDue (d : Due) (s : State) : State :=
  match d with
  | .slot => takeSlot s
  | .removal => formDeletion [] s
  | .ending => formDeletion [] s
  | .front q => validateFront q [] s
  | .apply => startApply s

/-- Due steps are taken, in order, until the one that `stop` names is first, or none is due. The number bounds the steps. -/
def takeDues (stop : Due → Bool) : Nat → State → State
  | 0, s => s
  | n + 1, s =>
    match due? s with
    | none => s
    | some d => if stop d then s else takeDues stop n (takeDue d s)

/-- More steps than can be due: each validation ends a waiting request and may form an intent, each deletion that is due
forms an intent, each intent takes one slot, and the engine starts once. -/
def dueBound (s : State) : Nat :=
  2 * ((s.queues.map (fun e => e.2.waiting.length)).sum + s.shelf.waiting.length + s.deletionsDue.length) +
    s.logWait.length + 2

/-- The event before is finished: every step due inside it is taken (log 4). -/
def finishDue (s : State) : State := takeDues (fun _ => false) (dueBound s) s

/-- Due steps are taken up to the one named. -/
def finishUntil (d : Due) (s : State) : State := takeDues (fun e => decide (e = d)) (dueBound s) s

end Sys2Proof.Machine
end

