-- ==== Sys2Proof/Machine/Apply.lean ====
section
/-! DEFINITION. The making of grants, the effects on the map store and on the volatile tables (Table 8-4), and the actions at DONE
(Table 8-5). -/

namespace Sys2Proof.Machine

open State

/-! ## Making grants -/

/-- A grant is made in the lowest-numbered FREE record with the next serial (R49, R51, R61): its extents are selected, its
countdown loaded, the pool's counts and the pending counts moved, the pool's level judged. `check` is its check word,
computed from its serial, epoch and extents. -/
def makeAllocation (n : Nat) (owner : Port) (v first count : Nat)
    (check : BitVec 16 → BitVec 32 → List Extent → BitVec 16) (s : State) : State :=
  let pool := (s.volume v).pool
  let run := chooseRun pool none count s.spans
  let serial := s.serial + 1
  let epoch := (s.lease v).epoch
  let g : Grant :=
    { state := .staged s.timing.grant, serial := serial, kind := .allocate, owner := owner, volume := v, epoch := epoch,
      first := first, count := count, extents := (runIndices first count).zip run.1, check := check serial epoch run.1 }
  judgeLevel pool
    (raisePending v count
      (({ s with serial := serial, spans := run.2 }.setGrant n g).updatePool pool (fun r =>
        { r with free := r.free - count, allocatable := r.allocatable - count, reserved := r.reserved + count })))

/-- The expiry countdown of a STAGED grant; 0 in BINDING. -/
def Grant.countdown (g : Grant) : Nat :=
  match g.state with
  | .staged c => c
  | .binding => 0

/-- The allocation grant body of a grant just made (R52, Table 11-7). -/
def allocationBody (s : State) (n : Nat) : AllocationBody :=
  match s.grant? n with
  | some g => ⟨n, g.serial, g.first, g.count, (s.lease g.volume).wanted, g.check, g.countdown, g.extents.map Prod.snd⟩
  | none => ⟨n, 0, 0, 0, false, 0, 0, []⟩

/-- Checks 7 to 9 of Table 3-3 and the FREE record of check 10, on a run of indices: the refusal with its values, or the
record. `tight` adds the condition of a follow-on grant, that the pool's level is not CRITICAL (R33, R60); checks 11
and 12 are the allocation test and the quota test. -/
def judgeRun (s : State) (v first count : Nat) (tight : Bool) : Except (Reason × AnswerBody) Nat :=
  let pool := s.pools.get (s.volume v).pool
  let tenant := s.tenant (s.volume v).tenant
  match (runIndices first count).find? (fun i => (s.entry? v i).isSome) with
  | some i => .error (.alreadyMapped, .index i)
  | none =>
    match (runIndices first count).find? (fun i => (s.allocationOf v i).isSome) with
    | some i => .error (.inGrant, .index i)
    | none =>
      if Config.admissionLimit ≤ s.admission then .error (.graceFull, .empty)
      else
        match s.freeRecord? with
        | none => .error (.noGrantSlot, .empty)
        | some n =>
          if !pool.allocates count || (tight && decide (pool.level = .critical)) then
            .error (.poolFull, .poolFull pool.allocatable pool.settings.floor)
          else if !tenant.quotaAllows count then .error (.quota, .headroom tenant.headroom)
          else .ok n

/-- The follow-on attempt of a Bind with advance, at DONE (R60, R61). Its checks read the cells of the run: with one that
cannot be read no grant is made, the part freezes, and the outcome is FROZEN (R160; log 39). -/
def followOn (p : Port) (g : Grant) (reads : Reads) (s : State) : State × FollowOn :=
  let v := g.volume
  let first := g.first + g.count
  let size := (s.volume v).size
  let count := min g.count (size - first)
  if size ≤ first then (s, .endOfVolume)
  else if !s.joined p then (s, .failed .notJoined)
  else if !(s.lease v).heldBy p then (s, .failed .notHolder)
  else if (s.volume v).state ≠ .active then (s, .failed .volumeState)
  else
    match readCells v (cellReads v (fun i => decide (first ≤ i ∧ i < first + count)) reads) s with
    | (s, false) => (s, .failed .frozen)
    | (s, true) =>
      match judgeRun s v first count true with
      | .error r => (s, .failed r.1)
      | .ok n =>
        let s := makeAllocation n p v first count (fun serial _ extents => checkOfFollowOn first serial extents) s
        (s, .made (allocationBody s n))

/-! ## Effects on the map store -/

namespace MapStore

/-- The entry cells of a volume. -/
def cellsOf (m : MapStore) (v : Nat) : Table Entry := Table.getD [] m.cells v

/-- The store with one volume's cells replaced. -/
def setCells (m : MapStore) (v : Nat) (c : Table Entry) : MapStore := { m with cells := Table.setD [] v c m.cells }

/-- The cell at an index, changed if it holds an entry. -/
def changeCell (m : MapStore) (v i : Nat) (f : Entry → Entry) : MapStore :=
  match Table.get? (m.cellsOf v) i with
  | none => m
  | some e => m.setCells v (Table.insert i (f e) (m.cellsOf v))

/-- An effect is written to its store record (Table 8-4). An ABSENT volume or span carries pool 0 and size or length 0
(R1, R28). -/
def write (e : Effect) (m : MapStore) : MapStore :=
  match e with
  | .setEntry v i x u => m.setCells v (Table.insert i ⟨x, u⟩ (m.cellsOf v))
  | .setPlacement v i x => m.changeCell v i (fun c => { c with placement := x })
  | .setMask v i u => m.changeCell v i (fun c => { c with unwritten := u })
  | .removeEntry v i => m.setCells v (Table.erase i (m.cellsOf v))
  | .setVolume v st t p size =>
    { m with volumes := Table.setD .absent v (if st = .absent then .absent else ⟨st, t, p, size⟩) m.volumes }
  | .setTenant t q =>
    match q with
    | none => { m with quotas := Table.erase t m.quotas }
    | some q => { m with quotas := Table.insert t q m.quotas }
  | .setSpan n st p len => { m with spans := putAt m.spans n (if st = .absent then .absent else ⟨st, p, len⟩) }
  | .setPool p settings => { m with pools := putAt m.pools p settings }
  | .setConfig t => { m with timing := t }

/-- An intent's slot is retired: the retired mark takes its sequence number and the slot is free (R149). -/
def retire (slot : Nat) (seq : BitVec 32) (m : MapStore) : MapStore :=
  { m with retired := seq, slots := Table.erase slot m.slots }

end MapStore

/-- The store area an effect writes (R158). -/
def Effect.area : Effect → StoreArea
  | .setEntry v i _ _ => .entry v i
  | .setPlacement v i _ => .entry v i
  | .setMask v i _ => .entry v i
  | .removeEntry v i => .entry v i
  | .setVolume v _ _ _ _ => .volume v
  | .setTenant t _ => .tenant t
  | .setSpan n _ _ _ => .span n.val
  | .setPool p _ => .pool p.val
  | .setConfig _ => .config

/-- The engine reads the entry cell of this effect: one that keeps part of the cell, and a removal (R160 and the example
of chapter 9; log 7). -/
def Effect.readsCell : Effect → Option (Nat × Nat)
  | .setPlacement v i _ => some (v, i)
  | .setMask v i _ => some (v, i)
  | .removeEntry v i => some (v, i)
  | .setEntry _ _ _ _ => none
  | .setVolume _ _ _ _ _ => none
  | .setTenant _ _ => none
  | .setSpan _ _ _ _ => none
  | .setPool _ _ => none
  | .setConfig _ => none

/-! ## Effects on the volatile tables -/

/-- The grant whose extents an intent moves. -/
def IntentKind.grant? : IntentKind → Option Nat
  | .bind n _ => some n
  | .move n => some n
  | .volumeCreate => none
  | .volumeResize _ _ => none
  | .volumeMode _ => none
  | .deleteMark => none
  | .deleteBatch => none
  | .deleteEnd => none
  | .note _ => none
  | .trim _ => none
  | .tenant _ => none
  | .span _ _ _ => none
  | .pool _ => none
  | .config _ => none

/-- The extent that serves an index leaves the grant's list (R58, R132). -/
def leaveGrant (n : Option Nat) (i : Nat) (s : State) : State :=
  match n with
  | none => s
  | some n =>
    match s.grant? n with
    | none => s
    | some g => s.setGrant n { g with extents := g.extents.filter (fun e => decide (e.1 ≠ i)) }

/-- The mapped count of a volume and the used count of its tenant rise (R5). -/
def raiseMapped (v : Nat) (s : State) : State :=
  (s.updateTenant (s.volume v).tenant (fun t => { t with used := t.used + 1 })).updateVolume v
    (fun r => { r with mapped := r.mapped + 1 })

/-- The mapped count of a volume and the used count of its tenant fall (R5). -/
def lowerMapped (v : Nat) (s : State) : State :=
  (s.updateTenant (s.volume v).tenant (fun t => { t with used := t.used - 1 })).updateVolume v
    (fun r => { r with mapped := r.mapped - 1 })

/-- SET_ENTRY (R10, R58). -/
def applyEntry (kind : IntentKind) (v i : Nat) (x : Extent) (u : Mask) (s : State) : State :=
  let present := (s.entry? v i).isSome
  let s := leaveGrant kind.grant? i (s.putEntry v i ⟨x, u⟩)
  let s := s.updatePool (s.volume v).pool (fun r => { r with reserved := r.reserved - 1, used := r.used + 1 })
  let s := lowerPending v 1 s
  setLatch v true (if present then s else raiseMapped v s)

/-- SET_PLACEMENT (R10, R132): the source joins the forming batch. -/
def applyPlacement (kind : IntentKind) (v i : Nat) (x : Extent) (s : State) : State × List Extent :=
  match s.entry? v i with
  | none => (s, [])
  | some e =>
    let s := leaveGrant kind.grant? i (s.putEntry v i { e with placement := x })
    let s := s.updatePool (s.volume v).pool (fun r => { r with reserved := r.reserved - 1, grace := r.grace + 1 })
    (setLatch v true s, [e.placement])

/-- SET_MASK (R10, R17). -/
def applyMask (v i : Nat) (u : Mask) (s : State) : State :=
  match s.entry? v i with
  | none => s
  | some e =>
    let s := s.putEntry v i { e with unwritten := u }
    if u = e.unwritten then s else setLatch v true s

/-- REMOVE_ENTRY (R10, R24, R118): the placement joins the forming batch. -/
def applyRemove (v i : Nat) (s : State) : State × List Extent :=
  match s.entry? v i with
  | none => (setLatch v true s, [])
  | some e =>
    let s := s.removeEntry v i
    let s := s.updatePool (s.volume v).pool (fun r => { r with used := r.used - 1, grace := r.grace + 1 })
    (setLatch v true (lowerMapped v s), [e.placement])

/-- SET_VOLUME of a creation (R18): counts 0, empty map, lease FREE at epoch 0, the appearance reported. -/
def applyCreate (v : Nat) (st : VolState) (t : Nat) (p : PoolId) (size : Nat) (s : State) : State :=
  let s := s.updateVolume v (fun r =>
    { r with state := st, tenant := t, pool := p, size := size, mapped := 0, pending := 0 })
  reportVolume v ((s.setMap v []).setLease v .fresh)

/-- SET_VOLUME of a mode switch (R20): to READ_ONLY, the STAGED allocation grants on the volume are dropped. -/
def applyMode (v : Nat) (st : VolState) (t : Nat) (p : PoolId) (size : Nat) (s : State) : State :=
  let s := s.updateVolume v (fun r => { r with state := st, tenant := t, pool := p, size := size })
  if st = .readOnly then
    dropGrants none (s.stagedGrants (fun g => decide (g.volume = v ∧ g.kind = .allocate))) s
  else s

/-- SET_VOLUME of a deletion's end (R25): the record is ABSENT, the disappearance reported. -/
def applyEnd (v : Nat) (s : State) : State :=
  reportVolume v (s.updateVolume v (fun r =>
    { r with state := .absent, tenant := 0, pool := 0, size := 0, mapped := 0, pending := 0 }))

/-- SET_SPAN (R39 to R41). -/
def applySpan (n : SpanId) (st : SpanState) (p : PoolId) (len : Nat) (s : State) : State :=
  let sp := s.spans.get n
  match sp.state, st with
  | .absent, .online =>
    judgeLevel p ((s.updateSpan n (fun _ => ⟨.online, p, len, FreeSet.full len, len, 0⟩)).updatePool p (fun r =>
      { r with capacity := r.capacity + len, free := r.free + len, allocatable := r.allocatable + len }))
  | .online, .draining =>
    judgeLevel p ((s.updateSpan n (fun r => { r with state := .draining })).updatePool p (fun r =>
      { r with allocatable := r.allocatable - sp.freeCount }))
  | .draining, .online =>
    judgeLevel p ((s.updateSpan n (fun r => { r with state := .online })).updatePool p (fun r =>
      { r with allocatable := r.allocatable + sp.freeCount }))
  | .draining, .absent =>
    (s.updateSpan n (fun _ => .absent)).updatePool p (fun r =>
      { r with capacity := r.capacity - len, free := r.free - len })
  | .absent, .absent => s
  | .absent, .draining => s
  | .online, .online => s
  | .online, .absent => s
  | .draining, .draining => s

/-- An effect is applied to the volatile tables (Table 8-4); the extents it sends to the forming batch. -/
def applyEffect (kind : IntentKind) (e : Effect) (s : State) : State × List Extent :=
  match e with
  | .setEntry v i x u => (applyEntry kind v i x u s, [])
  | .setPlacement v i x => applyPlacement kind v i x s
  | .setMask v i u => (applyMask v i u s, [])
  | .removeEntry v i => applyRemove v i s
  | .setVolume v st t p size =>
    match kind with
    | .volumeCreate => (applyCreate v st t p size s, [])
    | .volumeMode _ => (applyMode v st t p size s, [])
    | .deleteEnd => (applyEnd v s, [])
    | .volumeResize _ _ => (s.updateVolume v (fun r => { r with size := size }), [])
    | .deleteMark => (s.updateVolume v (fun r => { r with state := st }), [])
    | .deleteBatch => (s, [])
    | .note _ => (s, [])
    | .trim _ => (s, [])
    | .bind _ _ => (s, [])
    | .move _ => (s, [])
    | .tenant _ => (s, [])
    | .span _ _ _ => (s, [])
    | .pool _ => (s, [])
    | .config _ => (s, [])
  | .setTenant t q => (s.updateTenant t (fun r => { r with quota := q }), [])
  | .setSpan n st p len => (applySpan n st p len s, [])
  | .setPool p settings => (judgeLevel p (s.updatePool p (fun r => { r with settings := settings })), [])
  | .setConfig _ => (s, [])

/-! ## Actions at DONE (Table 8-5) -/

/-- DONE of a deletion's marking intent (R23, R90): STAGED grants dropped, the lease cleared, its waiting Claims answered
NO_VOLUME, LEASE_LOST to the head that held it, the deletion goes on. -/
def doneMark (v : Nat) (s : State) : State :=
  let s := dropGrants none (s.stagedGrants (fun g => decide (g.volume = v))) s
  let l := s.lease v
  let s := s.setLease v { l with hold := .free, waiters := [] }
  let s := l.waiters.foldl (fun s w => refuse ⟨w.port, w.tag⟩ .claim .noVolume s) s
  let s := match l.hold.holder? with
    | some h => addNotice h (.leaseLost v) s
    | none => s
  continueDeletion v (reportVolume v s)

/-- DONE of a removal batch (R24): its batch is formed, with the releases and the service of paused deletions that this
brings, before the next batch is asked for. -/
def doneBatch (v : Nat) (forming : Option Forming) (s : State) : State :=
  let s := match forming with
    | some f => formPromised f none v s
    | none => s
  continueDeletion v s

/-- DONE of a deletion's ending intent (R25): the record is removed, DELETED is answered if the requester is present. -/
def doneEnd (v : Nat) (s : State) : State :=
  let d := (s.volume v).deletion
  let s := endFlight (.volume v) (s.updateVolume v (fun r => { r with deletion := none }))
  match d with
  | some d => answer? d.requester RequestKind.deleteVolume.code .deleted .empty s
  | none => s

/-- DONE of an Unmap (R118). -/
def doneTrim (v removed cancelled : Nat) (i : Intent) (s : State) : State :=
  let s := match i.forming with
    | some f => formPromised f i.requester v s
    | none => s
  answer? i.origin RequestKind.unmap.code .done (.trimmed removed cancelled (s.lease v).wanted) s

/-- The follow-on outcome at DONE of a Bind (R59, R60): attempted with advance 1 while the port and tag are held. -/
def followOnOf (o : Option Origin) (advance : Bool) (g : Grant) (reads : Reads) (s : State) : State × FollowOn :=
  match o with
  | none => (s, .notAttempted)
  | some o => if advance && s.linkUp o.port then followOn o.port g reads s else (s, .notAttempted)

/-- DONE of a Bind (R59): the grant is FREE, the follow-on attempted, BOUND answered. -/
def doneBind (n : Nat) (advance : Bool) (i : Intent) (reads : Reads) (s : State) : State :=
  match s.grant? n with
  | none => s
  | some g =>
    let r := followOnOf i.origin advance g reads (s.freeGrant n)
    answer? i.origin RequestKind.bind.code .bound
      (.bound n g.serial g.first g.count (r.1.lease g.volume).wanted r.2) r.1

/-- DONE of a CompleteRelocate (R133): the grant is FREE, the batch formed, MOVED answered. -/
def doneMove (v n : Nat) (i : Intent) (s : State) : State :=
  match s.grant? n, i.forming with
  | some g, some f =>
    let s := formPromised f i.requester v (s.freeGrant n)
    match s.entry? v g.first with
    | some e =>
      answer? i.origin RequestKind.completeRelocate.code .moved
        (.moved n g.serial v g.first e.placement (f.extents.headD e.placement) e.unwritten (s.lease v).wanted) s
    | none => s
  | some _, none => s
  | none, _ => s

/-- The answer body of a span request at DONE (R39 to R41). -/
def spanBody (s : State) (req : SpanRequest) (n : SpanId) (pool : PoolId) : AnswerBody :=
  let sp := s.spans.get n
  match req with
  | .add => .spanAdded n sp.pool sp.length (s.pools.get pool).capacity s.registeredTotal
  | .drain => .spanDrained sp.state sp.freeCount
  | .remove => .spanRemoved (s.pools.get pool).capacity s.registeredTotal

/-- The unwritten set now recorded at an index (R17). -/
def unwrittenOf (s : State) (v i : Nat) : Mask :=
  match s.entry? v i with
  | some e => e.unwritten
  | none => 0

/-- The actions at DONE and the answer, by kind (R149 steps 2 and 3, Table 8-5). The answer to a NoteWritten carries the wanted
indication also when its head has lost the lease since (log 47). -/
def doneActions (i : Intent) (reads : Reads) (s : State) : State :=
  match i.kind, i.queue with
  | .volumeCreate, q => answer? i.origin RequestKind.createVolume.code .done .empty (endFlight q s)
  | .volumeResize before after, q =>
    answer? i.origin RequestKind.resizeVolume.code .done (.resized before after) (endFlight q s)
  | .volumeMode mode, q => answer? i.origin RequestKind.setVolumeMode.code .done (.modeSet mode) (endFlight q s)
  | .deleteMark, .volume v => doneMark v s
  | .deleteBatch, .volume v => doneBatch v i.forming s
  | .deleteEnd, .volume v => doneEnd v s
  | .note x, .volume v =>
    answer? i.origin RequestKind.noteWritten.code .done (.noted (unwrittenOf s v x) (s.lease v).wanted)
      (endFlight (.volume v) s)
  | .trim cancelled, .volume v => doneTrim v i.effects.length cancelled i (endFlight (.volume v) s)
  | .bind n advance, q => doneBind n advance i reads (endFlight q s)
  | .move n, .volume v => doneMove v n i (endFlight (.volume v) s)
  | .tenant t, q =>
    answer? i.origin RequestKind.setTenant.code .done (.tenantSet t (s.tenant t).quota) (endFlight q s)
  | .span .add n p, q => answer? i.origin RequestKind.addSpan.code .done (spanBody s .add n p) (endFlight q s)
  | .span .drain n p, q => answer? i.origin RequestKind.drainSpan.code .done (spanBody s .drain n p) (endFlight q s)
  | .span .remove n p, q => answer? i.origin RequestKind.removeSpan.code .done (spanBody s .remove n p) (endFlight q s)
  | .pool p, q =>
    answer? i.origin RequestKind.setPool.code .done (.poolSet (s.pools.get p).settings (s.pools.get p).level)
      (endFlight q s)
  | .config t, q =>
    answer? i.origin RequestKind.configure.code .done (.configured t) { endFlight q s with timing := t }
  | .deleteMark, .shelf => endFlight .shelf s
  | .deleteBatch, .shelf => endFlight .shelf s
  | .deleteEnd, .shelf => endFlight .shelf s
  | .note _, .shelf => endFlight .shelf s
  | .trim _, .shelf => endFlight .shelf s
  | .move _, .shelf => endFlight .shelf s

end Sys2Proof.Machine
end

