-- ==== Sys2Proof/Machine/Arrival.lean ====
section
/-! DEFINITION. The arrival of a request frame (R180, R95) and the checks on the volume it names (R3). -/

namespace Sys2Proof.Machine

open State

/-- Join, QueryPart and QueryFaults are judged whatever the state of the head (R95). -/
def RequestKind.needsMember : RequestKind → Bool
  | .join => false
  | .queryPart => false
  | .queryFaults => false
  | .renew => true | .leave => true | .configure => true | .clearFault => true | .claim => true | .release => true
  | .createVolume => true | .deleteVolume => true | .resizeVolume => true | .setVolumeMode => true
  | .queryVolume => true | .setTenant => true | .queryTenant => true | .resolve => true | .noteWritten => true
  | .unmap => true | .reserve => true | .bind => true | .abandon => true | .relocate => true
  | .completeRelocate => true | .addSpan => true | .drainSpan => true | .removeSpan => true | .setPool => true
  | .queryPool => true | .watch => true

/-- The tag slot of a request is BUSY or FREE (R179). -/
def setBusy (o : Origin) (b : Bool) (s : State) : State :=
  s.updatePort o.port (fun r => { r with busy := putAt r.busy o.tag b })

/-- Steps 3 and 4 of R180: a frame is received while the link is UP; a BUSY tag drops it as TAG_REUSE, recorded at the
kind code; otherwise the slot becomes BUSY and the request goes on. -/
def receive (o : Origin) (code : Byte) (k : State → State) (s : State) : State :=
  if !s.linkUp o.port then s
  else if (s.ports.get o.port).busy.get o.tag then recordFault (.port o.port) .tagReuse (.frame (some code)) s
  else k (setBusy o true s)

/-- Steps 5 and 7 of R180 and the membership check of R95, before the request's own rule. -/
def admitRequest (o : Origin) (kind : RequestKind) (k : State → State) (s : State) : State :=
  if s.mode = .recovering ∧ kind ≠ .queryPart then refuse o kind .starting s
  else if kind.needsMember ∧ !s.joined o.port then refuse o kind .notJoined s
  else k s

/-- A request frame arrives: the event before is finished, then the frame is judged (R180; log 4). -/
def request (p : Port) (t : Tag) (kind : RequestKind) (k : State → State) (s : State) :
    Host.Outcome State Fault Refusal :=
  .next (receive ⟨p, t⟩ kind.code (admitRequest ⟨p, t⟩ kind k) (finishDue s))

/-- An event of the links, the time base or the map store is taken: the event before is finished first (log 4). -/
def event (k : State → State) (s : State) : Host.Outcome State Fault Refusal := .next (k (finishDue s))

/-- The arrival checks on the volume a request names (R3): the reason of the refusal, or none. -/
def volumeRefusal (s : State) (v : Nat) : Option Reason :=
  if Config.lastVolume < v then some .badForm
  else
    match (s.volume v).state with
    | .absent => some .noVolume
    | .deleting => some .volumeState
    | .active => none
    | .readOnly => none

/-- A request that names a volume goes on when R3 passes. -/
def onVolume (o : Origin) (kind : RequestKind) (v : Nat) (k : State → State) (s : State) : State :=
  match volumeRefusal s v with
  | some r => refuse o kind r s
  | none => k s

/-- A request that R164 refuses while the part is FROZEN. -/
def unlessFrozen (o : Origin) (kind : RequestKind) (k : State → State) (s : State) : State :=
  if s.mode = .frozen then refuse o kind .frozen s else k s

end Sys2Proof.Machine
end

