-- ==== Sys2Proof/Machine/Grants.lean ====
section
/-! DEFINITION. Chapter 3 and chapter 7 requests: Reserve, Bind, Abandon, Relocate, CompleteRelocate. -/

namespace Sys2Proof.Machine

open State

/-- The size a Reserve is judged against: the volume's, or the lower one of a validated ResizeVolume (R19, R50 check 6). -/
def reserveSize (s : State) (v : Nat) : Nat :=
  match (s.queue (.volume v)).flight with
  | some (.shrink size) => min size (s.volume v).size
  | some .intent => (s.volume v).size
  | some (.trim _) => (s.volume v).size
  | some .deletion => (s.volume v).size
  | none => (s.volume v).size

/-- Reserve, checks 3 to 12 of Table 3-3, and the grant (R50 to R52). -/
def judgeReserve (o : Origin) (v first count : Nat) (reads : Reads) (s : State) : State :=
  if count = 0 ∨ 16 < count then refuse o .reserve .badForm s
  else if !(s.lease v).heldBy o.port then refuse o .reserve .notHolder s
  else if (s.volume v).state ≠ .active then refuse o .reserve .volumeState s
  else if !runBelow first count (reserveSize s v) then refuse o .reserve .range s
  else
    match readCells v (cellReads v (fun i => decide (first ≤ i ∧ i < first + count)) reads) s with
    | (s, false) => refuse o .reserve .frozen s
    | (s, true) =>
      match judgeRun s v first count false with
      | .error r => refuseWith o .reserve r.1 r.2 s
      | .ok n =>
        let s := makeAllocation n o.port v first count
          (fun serial epoch extents => checkOfReserve v first count epoch serial extents) s
        answer o RequestKind.reserve.code .granted (.allocation (allocationBody s n)) s

/-- RESERVE (R50). -/
def execReserve (p : Port) (t : Tag) (volume : BitVec 16) (first : BitVec 32) (count : Byte) (reads : Reads) (s : State) :
    Host.Outcome State Fault Refusal :=
  request p t .reserve
    (unlessFrozen ⟨p, t⟩ .reserve
      (onVolume ⟨p, t⟩ .reserve volume.toNat (judgeReserve ⟨p, t⟩ volume.toNat first.toNat count.toNat reads))) s

/-- The live grant that a number and serial name (R49). -/
def namedGrant (s : State) (n : Nat) (serial : BitVec 16) : Option Grant :=
  match s.grant? n with
  | some g => if g.serial = serial then some g else none
  | none => none

/-- Bind, checks 3 to 8 of R55, and the commitment (R56). -/
def judgeBind (o : Origin) (n : Nat) (serial check : BitVec 16) (advance : Bool) (written : List Mask) (s : State) : State :=
  match namedGrant s n serial with
  | none => refuse o .bind .grantExpired s
  | some g =>
    if g.owner ≠ o.port then refuse o .bind .notHolder s
    else if g.kind ≠ .allocate ∨ !g.isStaged then refuse o .bind .grantState s
    else if (s.volume g.volume).state = .deleting then refuse o .bind .volumeState s
    else if check ≠ g.check then refuse o .bind .checkMismatch s
    else if written.length ≠ g.count then refuse o .bind .range s
    else enqueue (.bind g.volume n advance written) o (s.setGrant n { g with state := .binding })

/-- Bind's form (R55, check 2). -/
def bindForm (o : Origin) (n : Nat) (serial check : BitVec 16) (advance : Byte) (written : List Mask) (s : State) : State :=
  match flagOf advance with
  | none => refuse o .bind .badForm s
  | some a =>
    if Config.grantRecords ≤ n ∨ written.length = 0 ∨ 16 < written.length then refuse o .bind .badForm s
    else judgeBind o n serial check a written s

/-- BIND. -/
def execBind (p : Port) (t : Tag) (grant serial check : BitVec 16) (advance : Byte) (written : List Mask) (s : State) :
    Host.Outcome State Fault Refusal :=
  request p t .bind (unlessFrozen ⟨p, t⟩ .bind (bindForm ⟨p, t⟩ grant.toNat serial check advance written)) s

/-- Abandon (R62). -/
def judgeAbandon (o : Origin) (n : Nat) (serial : BitVec 16) (s : State) : State :=
  if Config.grantRecords ≤ n then refuse o .abandon .badForm s
  else
    match namedGrant s n serial with
    | none => refuse o .abandon .grantExpired s
    | some g =>
      if g.owner ≠ o.port then refuse o .abandon .notHolder s
      else if !g.isStaged then refuse o .abandon .grantState s
      else answer o RequestKind.abandon.code .done .empty (dropGrant (some o.port) n s)

/-- ABANDON. -/
def execAbandon (p : Port) (t : Tag) (grant serial : BitVec 16) (s : State) : Host.Outcome State Fault Refusal :=
  request p t .abandon (judgeAbandon ⟨p, t⟩ grant.toNat serial) s

/-- The index lies in the held range of an Unmap (R117). -/
def inHeldRange (s : State) (v i : Nat) : Bool :=
  match (s.queue (.volume v)).flight with
  | some (.trim held) => decide (i ∈ held)
  | some .intent => false
  | some (.shrink _) => false
  | some .deletion => false
  | none => false

/-- A relocation grant is made (R127) in record n on the destination x, and answered (R128). -/
def makeRelocation (o : Origin) (v i n : Nat) (e : Entry) (x : Extent) (s : State) : State :=
  let pool := (s.volume v).pool
  let serial := s.serial + 1
  let epoch := (s.lease v).epoch
  let check := checkOfRelocate v i epoch serial e.placement x
  let g : Grant :=
    { state := .staged s.timing.grant, serial := serial, kind := .relocate, owner := o.port, volume := v,
      epoch := epoch, first := i, count := 1, extents := [(i, x)], check := check }
  let s := judgeLevel pool
    (({ s with serial := serial, spans := takeExtent s.spans x }.setGrant n g).updatePool pool (fun r =>
      { r with free := r.free - 1, allocatable := r.allocatable - 1, reserved := r.reserved + 1 }))
  answer o RequestKind.relocate.code .granted
    (.relocation n serial v i e.placement x check s.timing.grant e.unwritten (s.lease v).wanted) s

/-- Relocate, checks 3 to 9 of Table 7-1 (R126). -/
def judgeRelocate (o : Origin) (v i : Nat) (reads : Reads) (s : State) : State :=
  if !(s.lease v).heldBy o.port then refuse o .relocate .notHolder s
  else if (s.volume v).size ≤ i then refuse o .relocate .range s
  else
    match readCells v (cellReads v (fun j => decide (j = i)) reads) s with
    | (s, false) => refuse o .relocate .frozen s
    | (s, true) =>
      match s.entry? v i with
      | none => refuseWith o .relocate .notMapped (.index i) s
      | some e =>
        let pool := (s.volume v).pool
        if inHeldRange s v i then refuseWith o .relocate .notMapped (.index i) s
        else if (s.relocationOf v i).isSome then refuseWith o .relocate .grantState (.index i) s
        else if Config.admissionLimit ≤ s.admission then refuseWith o .relocate .graceFull (.admission s.admission) s
        else
          match s.freeRecord? with
          | none => refuse o .relocate .noGrantSlot s
          | some n =>
            match relocates s.spans pool e.placement.span, chooseExtent s.spans pool (some e.placement.span) with
            | true, some x => makeRelocation o v i n e x s
            | true, none =>
              refuseWith o .relocate .poolFull (.poolFullSource (s.pools.get pool).allocatable e.placement.span) s
            | false, _ =>
              refuseWith o .relocate .poolFull (.poolFullSource (s.pools.get pool).allocatable e.placement.span) s

/-- RELOCATE (R126). -/
def execRelocate (p : Port) (t : Tag) (volume : BitVec 16) (index : BitVec 32) (reads : Reads) (s : State) :
    Host.Outcome State Fault Refusal :=
  request p t .relocate
    (unlessFrozen ⟨p, t⟩ .relocate
      (onVolume ⟨p, t⟩ .relocate volume.toNat (judgeRelocate ⟨p, t⟩ volume.toNat index.toNat reads))) s

/-- CompleteRelocate, checks 2 to 8 of R129, and the commitment (R130). -/
def judgeCompleteRelocate (o : Origin) (n : Nat) (serial check : BitVec 16) (s : State) : State :=
  if Config.grantRecords ≤ n then refuse o .completeRelocate .badForm s
  else
    match namedGrant s n serial with
    | none => refuse o .completeRelocate .grantExpired s
    | some g =>
      if g.owner ≠ o.port then refuse o .completeRelocate .notHolder s
      else if g.kind ≠ .relocate ∨ !g.isStaged then refuse o .completeRelocate .grantState s
      else if (s.volume g.volume).state = .deleting then refuse o .completeRelocate .volumeState s
      else if check ≠ g.check then refuse o .completeRelocate .checkMismatch s
      else if Config.admissionLimit ≤ s.admission then refuse o .completeRelocate .graceFull s
      else
        enqueue (.completeRelocate g.volume n ⟨(s.volume g.volume).pool, []⟩) o
          ({ s with promises := s.promises + 1 }.setGrant n { g with state := .binding })

/-- COMPLETE_RELOCATE (R129). -/
def execCompleteRelocate (p : Port) (t : Tag) (grant serial check : BitVec 16) (s : State) :
    Host.Outcome State Fault Refusal :=
  request p t .completeRelocate
    (unlessFrozen ⟨p, t⟩ .completeRelocate (judgeCompleteRelocate ⟨p, t⟩ grant.toNat serial check)) s

end Sys2Proof.Machine
end

