-- ==== Sys2Proof/Machine/Leases.lean ====
section
/-! DEFINITION. Chapter 4 requests: Claim and Release. -/

namespace Sys2Proof.Machine

open State

/-- The GRANTED answer to a Claim (R75); the one to the holder, of which R76 lists no volume, names it too (log 44). -/
def answerLeased (o : Origin) (v : Nat) (orphan : Bool) (s : State) : State :=
  answer o RequestKind.claim.code .granted (.leased v (s.lease v).epoch (s.lease v).wanted orphan) s

/-- The lease is given to a head that claims it FREE or ORPHANED (R75). -/
def takeLease (o : Origin) (v : Nat) (orphan : Bool) (s : State) : State :=
  reportVolume v (answerLeased o v orphan (s.setLease v ⟨.held o.port, (s.lease v).epoch + 1, []⟩))

/-- A Claim with wait 1 joins the waiter queue; with recall 1 it makes a HELD record RECALLING (R77, R78); the holder is
sent LEASE_WANTED (R91). -/
def joinWaiters (o : Origin) (v : Nat) (holder : Port) (demand : Bool) (s : State) : State :=
  let l := s.lease v
  let hold := match l.hold, demand with
    | .held h, true => Hold.recalling h s.timing.recallTicks
    | h, _ => h
  addNotice holder (.leaseWanted v hold.isRecalling)
    (s.setLease v { l with hold := hold, waiters := l.waiters ++ [⟨o.port, o.tag, demand⟩] })

/-- Claim against the lease record (Table 4-3). A CONTENDED refusal carries what R76 and R77 list, and no epoch (log 45). -/
def judgeClaim (o : Origin) (v : Nat) (wait demand : Bool) (s : State) : State :=
  let l := s.lease v
  match l.hold.holder? with
  | none => takeLease o v (decide (l.hold = .orphaned)) s
  | some h =>
    if h = o.port then answerLeased o v false s
    else if l.waiters.any (fun w => decide (w.port = o.port)) || !wait then
      refuseWith o .claim .contended (.contended h l.hold.isRecalling l.waiters.length) s
    else joinWaiters o v h demand s

/-- The flags of a Claim (R74). -/
def claimFlags (o : Origin) (v : Nat) (wait demand : Byte) (s : State) : State :=
  match flagOf wait, flagOf demand with
  | some w, some d => if d && !w then refuse o .claim .badForm s else judgeClaim o v w d s
  | some _, none => refuse o .claim .badForm s
  | none, _ => refuse o .claim .badForm s

/-- CLAIM (R74). -/
def execClaim (p : Port) (t : Tag) (volume : BitVec 16) (wait demand : Byte) (s : State) :
    Host.Outcome State Fault Refusal :=
  request p t .claim (onVolume ⟨p, t⟩ .claim volume.toNat (claimFlags ⟨p, t⟩ volume.toNat wait demand)) s

/-- The DONE answer to a Release, with the holder and epoch as they then stand (R80); the answer to a waiter's, of which R81
lists no field, carries them too (log 42). -/
def answerReleased (o : Origin) (v : Nat) (s : State) : State :=
  answer o RequestKind.release.code .done (.released (s.lease v).hold.view (s.lease v).epoch) s

/-- Release (R80, R81). -/
def judgeRelease (o : Origin) (v : Nat) (s : State) : State :=
  let l := s.lease v
  if l.heldBy o.port then
    answerReleased o v (loseLease v false .free (dropGrants (some o.port) (stagedOn s o.port v) s))
  else
    match l.waiters.find? (fun w => decide (w.port = o.port)) with
    | some w => answerReleased o v (refuse ⟨w.port, w.tag⟩ .claim .cancelled (departWaiter o.port v s))
    | none => refuse o .release .notHolder s

/-- RELEASE (R80). -/
def execRelease (p : Port) (t : Tag) (volume : BitVec 16) (s : State) : Host.Outcome State Fault Refusal :=
  request p t .release (onVolume ⟨p, t⟩ .release volume.toNat (judgeRelease ⟨p, t⟩ volume.toNat)) s

end Sys2Proof.Machine
end

