-- ==== Sys2Proof/Machine/Membership.lean ====
section
/-! DEFINITION. Chapter 5 and chapter 9 requests: Join, Renew, Leave, Configure, QueryPart, QueryFaults, ClearFault. -/

namespace Sys2Proof.Machine

open State

/-- The JOINED answer (R98). -/
def answerJoined (o : Origin) (incarnation : BitVec 32) (s : State) : State :=
  answer o RequestKind.join.code .joined
    (.joined o.port incarnation s.bootCount s.resetCause s.mode s.generation s.timing s.timing.live) s

/-- Join (R96, R97). -/
def judgeJoin (o : Origin) (incarnation : BitVec 32) (s : State) : State :=
  match s.heads.get o.port with
  | .absent => answerJoined o incarnation (joinHead o.port incarnation s)
  | .lapsed old =>
    if old = incarnation then refuseWith o .join .staleIncarnation (.stale old s.bootCount s.generation) s
    else answerJoined o incarnation (joinHead o.port incarnation s)
  | .joined m =>
    if m.incarnation = incarnation then
      answerJoined o incarnation (setHead o.port (.joined { m with liveness := s.timing.live }) s)
    else answerJoined o incarnation (joinHead o.port incarnation (lapse o.port s))

/-- JOIN. -/
def execJoin (p : Port) (t : Tag) (incarnation : BitVec 32) (s : State) : Host.Outcome State Fault Refusal :=
  request p t .join (judgeJoin ⟨p, t⟩ incarnation) s

/-- The stage after an acknowledgement: NONE once it reaches the warned tag (R122). -/
def dueAfter (due : Bool) (ack : Gen) (stall : Stall) : Bool :=
  match stall with
  | .warned _ tag => due && decide (ack.toNat < tag.toNat)
  | .quiet _ => due
  | .stopped => due

/-- The member record after a Renew that passes (R99). -/
def renewed (m : Member) (ack : Gen) (s : State) : Member :=
  if m.ack.toNat < ack.toNat then
    { m with ack := ack, liveness := s.timing.live, due := dueAfter m.due ack s.stall }
  else { m with liveness := s.timing.live }

/-- Renew (R99). -/
def judgeRenew (o : Origin) (incarnation : BitVec 32) (ack : Gen) (s : State) : State :=
  match s.heads.get o.port with
  | .joined m =>
    if m.incarnation ≠ incarnation then refuse o .renew .staleIncarnation s
    else if s.generation.toNat < ack.toNat then refuse o .renew .range s
    else
      let m' := renewed m ack s
      let s := setHead o.port (.joined m') s
      let s := if m.ack.toNat < ack.toNat then releaseTest s else s
      answer o RequestKind.renew.code .done
        (.renewed m'.ack m'.liveness m'.due (s.grace.head?.map Batch.tag) s.generation) s
  | .absent => refuse o .renew .notJoined s
  | .lapsed _ => refuse o .renew .notJoined s

/-- RENEW. -/
def execRenew (p : Port) (t : Tag) (incarnation : BitVec 32) (ack : Gen) (s : State) :
    Host.Outcome State Fault Refusal :=
  request p t .renew (judgeRenew ⟨p, t⟩ incarnation ack) s

/-- Leave, steps 1 to 6 of R101. Within steps 4 and 5 the queues are left and the Claims answered in ascending volume id, the
watches in ascending tag (R86; log 25). -/
def leaveHead (p : Port) (s : State) : State :=
  let s := setHead p .absent s
  let s := dropGrants none (stagedOf s p) s
  let s := (heldVolumes s p).foldl (fun s v => loseLease v false .free s) s
  let claims := waitingClaims s p
  let s := endClaims p .cancelled claims (departAll p s)
  releaseTest (endWatches p .cancelled s)

/-- LEAVE (R101). -/
def execLeave (p : Port) (t : Tag) (s : State) : Host.Outcome State Fault Refusal :=
  request p t .leave (fun s => answer ⟨p, t⟩ RequestKind.leave.code .done .empty (leaveHead p s)) s

/-- Configure on arrival (R107). -/
def judgeConfigure (o : Origin) (period : Byte) (live grant demand grace : Nat) (s : State) : State :=
  if s.mode = .frozen then refuse o .configure .frozen s
  else
    match periodOf period with
    | none => refuse o .configure .badForm s
    | some tp =>
      if 100 ≤ live ∧ live ≤ 60000 ∧ 10 ≤ grant ∧ grant ≤ 10000 ∧ 10 ≤ demand ∧ demand ≤ 60000 ∧
          100 ≤ grace ∧ grace ≤ 600000 then
        enqueue (.configure ⟨tp, live, grant, demand, grace⟩) o s
      else refuse o .configure .range s

/-- CONFIGURE. -/
def execConfigure (p : Port) (t : Tag) (period : Byte) (live grant demand grace : BitVec 32) (s : State) :
    Host.Outcome State Fault Refusal :=
  request p t .configure (judgeConfigure ⟨p, t⟩ period live.toNat grant.toNat demand.toNat grace.toNat) s

/-- What QueryPart reports (R105). -/
def partBody (s : State) : AnswerBody :=
  .part s.mode s.bootCount s.resetCause s.generation s.timing
    (allPorts.map (fun p => ⟨s.linkUp p, s.heads.get p, s.fences.get p⟩))
    s.grace.length (s.grace.head?.map Batch.tag) s.grants.length

/-- QUERY_PART (R105). Its rule names no outcome; the answer's is DONE (log 43). -/
def execQueryPart (p : Port) (t : Tag) (s : State) : Host.Outcome State Fault Refusal :=
  request p t .queryPart (fun s => answer ⟨p, t⟩ RequestKind.queryPart.code .done (partBody s) s) s

/-- What QueryFaults reports (R166). -/
def faultsBody (s : State) : AnswerBody :=
  .faults s.mode s.freezeCause s.bootCount s.resetCause s.faults s.poison.length (s.poison.take 16)

/-- QUERY_FAULTS (R166). Its rule names no outcome; the answer's is DONE (log 43). -/
def execQueryFaults (p : Port) (t : Tag) (s : State) : Host.Outcome State Fault Refusal :=
  request p t .queryFaults (fun s => answer ⟨p, t⟩ RequestKind.queryFaults.code .done (faultsBody s) s) s

/-- ClearFault (R167). -/
def judgeClearFault (o : Origin) (source : Byte) (s : State) : State :=
  match sourceOf source with
  | none => refuse o .clearFault .badForm s
  | some src =>
    let r := s.faults.get src
    answer o RequestKind.clearFault.code .done (.fault r)
      { s with faults := if r.held.isSome then s.faults.put src .clear else s.faults }

/-- CLEAR_FAULT. -/
def execClearFault (p : Port) (t : Tag) (source : Byte) (s : State) : Host.Outcome State Fault Refusal :=
  request p t .clearFault (judgeClearFault ⟨p, t⟩ source) s

end Sys2Proof.Machine
end

