-- ==== Sys2Proof/Machine/Frames.lean ====
section
/-! DEFINITION. The bytes of frames: answer and notice frames as the part sends them, request frames as it reads them
(R180, R182 to R186, Tables 11-1 to 11-8). -/

namespace Sys2Proof.Machine

open State

/-! ## Fields (Table 11-2) -/

/-- A port as owner (Table 11-2). -/
def portByte (p : Port) : List Byte := leBytes 1 p.val

/-- A 4-byte number. -/
def word (n : Nat) : List Byte := leBytes 4 n

/-- A generation (8 bytes). -/
def genBytes (g : Gen) : List Byte := leBytes 8 g.toNat

/-- A generation that a form may not carry: all bytes 0 then (R183). -/
def genBytes? (g : Option Gen) : List Byte :=
  match g with
  | none => leBytes 8 0
  | some g => genBytes g

/-- A sub-block set (Table 11-3). -/
def maskBytes (m : Mask) : List Byte := word m.toNat

/-- A list within an answer: a 2-byte count, then the items (R183). -/
def listBytes {α : Type} (f : α → List Byte) (l : List α) : List Byte := leBytes 2 l.length ++ l.flatMap f

/-- RECOVERING 0, SERVING 1, FROZEN 2 (R161). -/
def PartMode.byte : PartMode → List Byte
  | .recovering => [0]
  | .serving => [1]
  | .frozen => [2]

/-- POWER 0, LINE 1 (R98). -/
def ResetCause.byte : ResetCause → List Byte
  | .power => [0]
  | .line => [1]

/-- The tick period byte (Table 11-2). -/
def TickPeriod.byte : TickPeriod → List Byte
  | .us250 => [0]
  | .ms1 => [1]
  | .ms4 => [2]

/-- ABSENT 0, ACTIVE 1, READ_ONLY 2, DELETING 3 (R183). -/
def VolState.byte : VolState → List Byte
  | .absent => [0]
  | .active => [1]
  | .readOnly => [2]
  | .deleting => [3]

/-- ABSENT 0, ONLINE 1, DRAINING 2 (Table 2-1). -/
def SpanState.byte : SpanState → List Byte
  | .absent => [0]
  | .online => [1]
  | .draining => [2]

/-- NORMAL 0, LOW 1, CRITICAL 2 (Table 11-8). -/
def Level.code : Level → Nat
  | .normal => 0
  | .low => 1
  | .critical => 2

/-- The state of a live grant: STAGED 1, BINDING 2 (Table 3-1). -/
def grantStateByte (binding : Bool) : List Byte := if binding then [2] else [1]

/-- The state of a lease that has a holder: HELD 1, RECALLING 2 (Table 4-1). -/
def leaseStateByte (recalling : Bool) : List Byte := if recalling then [2] else [1]

/-- NONE 0, RUNNING 1, PAUSED 2 (R21). -/
def deletionByte : Option Bool → List Byte
  | none => [0]
  | some false => [1]
  | some true => [2]

/-- The configuration: period and the four counts (R98). -/
def timingBytes (t : Timing) : List Byte := t.period.byte ++ word t.live ++ word t.grant ++ word t.recallTicks ++ word t.grace

/-- The three settings of a pool. -/
def settingsBytes (s : PoolSettings) : List Byte := word s.warn ++ word s.critical ++ word s.floor

/-! ## Faults (R183) -/

/-- The record's code: MAP_STORE 0, LOG 1, PORT0 to PORT3 2 to 5 (Table 11-4). -/
def FaultSource.code : FaultSource → Nat
  | .mapStore => 0
  | .log => 1
  | .port p => 2 + p.val

/-- CORRECTED 0, UNCORRECTABLE 1, WRITE_FAILED 2, FRAME_DAMAGED 3, TAG_REUSE 4. -/
def FaultKind.code : FaultKind → Nat
  | .corrected => 0
  | .uncorrectable => 1
  | .writeFailed => 2
  | .frameDamaged => 3
  | .tagReuse => 4

/-- The area and the identifier it names, 7 bytes. -/
def areaBytes : StoreArea → List Byte
  | .entry v i => [0] ++ leBytes 2 v ++ leBytes 4 i
  | .volume v => [1] ++ leBytes 6 v
  | .tenant t => [2] ++ leBytes 6 t
  | .span n => [3] ++ leBytes 6 n
  | .pool p => [4] ++ leBytes 6 p
  | .config => [5] ++ leBytes 6 0
  | .bootCount => [6] ++ leBytes 6 0
  | .logSlot n => [7] ++ leBytes 6 n
  | .retiredMark => [8] ++ leBytes 6 0

/-- A fault location, 11 bytes; the map store address is the free value of log 9. -/
def FaultPlace.bytes : FaultPlace → List Byte
  | .store area stamp => word (Config.storeAddress area stamp).toNat ++ areaBytes area
  | .frame (some c) => [c] ++ leBytes 10 0
  | .frame none => [0xFF] ++ leBytes 10 0

/-- A fault record: state (CLEAR 0, HELD 1), kind, location, overflow flag. -/
def FaultRecord.bytes (r : FaultRecord) : List Byte :=
  (match r.held with
    | none => [0, 0] ++ leBytes 11 0
    | some (k, p) => [1] ++ leBytes 1 k.code ++ p.bytes) ++ flagByte r.overflow

/-- The freeze cause: 2 bytes, as in the PART_FROZEN value. -/
def FreezeCause.bytes (c : FreezeCause) : List Byte := leBytes 1 c.source.code ++ leBytes 1 c.kind.code

/-- The freeze cause of an answer, all bytes 0 when there is none. -/
def causeBytes : Option FreezeCause → List Byte
  | none => [0, 0]
  | some c => c.bytes

/-! ## Items of answers -/

/-- The head state with the fields its form carries: state, incarnation, acknowledged generation, ack-due stage, liveness
countdown (R105); ABSENT 0, JOINED 1, LAPSED 2 (Table 5-1). -/
def headBytes : Head → List Byte
  | .absent => [0] ++ word 0 ++ leBytes 8 0 ++ [0] ++ word 0
  | .joined m => [1] ++ word m.incarnation.toNat ++ genBytes m.ack ++ flagByte m.due ++ word m.liveness
  | .lapsed i => [2] ++ word i.toNat ++ leBytes 8 0 ++ [0] ++ word 0

/-- One port of a QueryPart answer: link DOWN 0 or UP 1, the head, the fence line asserted 0 or released 1 (R105). -/
def PortReport.bytes (r : PortReport) : List Byte :=
  flagByte r.linkUp ++ headBytes r.head ++ (match r.fence with
    | .asserted => [0]
    | .released => [1])

/-- One report of a Resolve: report, placement, forward target, unwritten set, grant state, owning port (R183). -/
def IndexReport.bytes : IndexReport → List Byte
  | .poisoned => [0] ++ word 0 ++ word 0 ++ word 0 ++ [0] ++ [0]
  | .moving x t u b => [1] ++ extentBytes x ++ extentBytes t ++ maskBytes u ++ grantStateByte b ++ [0]
  | .mapped x u => [2] ++ extentBytes x ++ word 0 ++ maskBytes u ++ [0] ++ [0]
  | .pending b o => [3] ++ word 0 ++ word 0 ++ word 0 ++ grantStateByte b ++ portByte o
  | .unmapped => [4] ++ word 0 ++ word 0 ++ word 0 ++ [0] ++ [0]

/-- The allocation grant body (Table 11-7). -/
def AllocationBody.bytes (a : AllocationBody) : List Byte :=
  leBytes 2 a.grant ++ leBytes 2 a.serial.toNat ++ word a.first ++ leBytes 1 a.count ++ flagByte a.wanted ++
    leBytes 2 a.check.toNat ++ word a.countdown ++ a.extents.flatMap extentBytes

/-- The follow-on outcome byte and the grant made (R185, Table 11-7). -/
def FollowOn.bytes : FollowOn → List Byte
  | .made a => [0x00] ++ a.bytes
  | .notAttempted => [0xFD]
  | .endOfVolume => [0xFE]
  | .failed r => [r.code]

/-- One span of a QueryPool answer (R43). -/
def SpanReport.bytes (r : SpanReport) : List Byte :=
  leBytes 1 r.span.val ++ r.state.byte ++ word r.length ++ word r.free

/-- One item of a Watch answer (R169). -/
def WatchReport.bytes (r : WatchReport) : List Byte :=
  leBytes 2 r.volume ++ r.state.byte ++ [r.holder.byte] ++ flagByte r.latch ++ word r.epoch.toNat ++ flagByte r.differs

/-- The body of an answer: the fields its rule lists, in that order (R183, R185; log 20). -/
def AnswerBody.bytes : AnswerBody → List Byte
  | .empty => []
  | .joined p i b c m g t l =>
    portByte p ++ word i.toNat ++ word b.toNat ++ c.byte ++ m.byte ++ genBytes g ++ timingBytes t ++ word l
  | .stale i b g => word i.toNat ++ word b.toNat ++ genBytes g
  | .renewed a l d o g => genBytes a ++ word l ++ flagByte d ++ genBytes? o ++ genBytes g
  | .configured t => timingBytes t
  | .part m b c g t ports n o live =>
    m.byte ++ word b.toNat ++ c.byte ++ genBytes g ++ timingBytes t ++ ports.flatMap PortReport.bytes ++ word n ++
      genBytes? o ++ word live
  | .faults m c b rc records n pairs =>
    m.byte ++ causeBytes c ++ word b.toNat ++ rc.byte ++ records.mapStore.bytes ++ records.log.bytes ++
      records.ports.toList.flatMap FaultRecord.bytes ++ word n ++
      listBytes (fun e => leBytes 2 e.1 ++ word e.2) pairs
  | .fault r => r.bytes
  | .leased v e w o => leBytes 2 v ++ word e.toNat ++ flagByte w ++ flagByte o
  | .contended h r n => portByte h ++ leaseStateByte r ++ word n
  | .released h e => [h.byte] ++ word e.toNat
  | .resized before after => word before ++ word after
  | .modeSet m => m.byte
  | .volume st t p size m pe l h e w d =>
    st.byte ++ leBytes 2 t ++ leBytes 1 p.val ++ word size ++ word m ++ word pe ++ flagByte l ++ [h.byte] ++
      word e.toNat ++ flagByte w ++ deletionByte d
  | .tenantSet t q => leBytes 2 t ++ quotaBytes q
  | .tenant q u p h => quotaBytes q ++ word u ++ word p ++ quotaBytes h
  | .resolved rs st size h e w =>
    listBytes IndexReport.bytes rs ++ st.byte ++ word size ++ [h.byte] ++ word e.toNat ++ flagByte w
  | .noted u w => maskBytes u ++ flagByte w
  | .trimmed r c w => word r ++ word c ++ flagByte w
  | .allocation a => a.bytes
  | .bound n s f c w fo =>
    leBytes 2 n ++ leBytes 2 s.toNat ++ word f ++ leBytes 1 c ++ flagByte w ++ fo.bytes
  | .relocation n s v i src dst ch cd u w =>
    leBytes 2 n ++ leBytes 2 s.toNat ++ leBytes 2 v ++ word i ++ extentBytes src ++ extentBytes dst ++
      leBytes 2 ch.toNat ++ word cd ++ maskBytes u ++ flagByte w
  | .moved n s v i x f u w =>
    leBytes 2 n ++ leBytes 2 s.toNat ++ leBytes 2 v ++ word i ++ extentBytes x ++ extentBytes f ++ maskBytes u ++
      flagByte w
  | .spanAdded n p l c t => leBytes 1 n.val ++ leBytes 1 p.val ++ word l ++ word c.toNat ++ word t
  | .spanDrained st f => st.byte ++ word f
  | .spanRemoved c t => word c.toNat ++ word t
  | .poolSet st l => settingsBytes st ++ leBytes 1 l.code
  | .pool st c f a r u g l t spans =>
    settingsBytes st ++ [c, f, a, r, u, g].flatMap (fun n => word n.toNat) ++ leBytes 1 l.code ++ word t ++
      listBytes SpanReport.bytes spans
  | .watched items => listBytes WatchReport.bytes items
  | .index i => word i
  | .poolFull a f => word a.toNat ++ word f
  | .poolFullSource a n => word a.toNat ++ leBytes 1 n.val
  | .headroom h => quotaBytes h
  | .admission n => word n
  | .volumeNamed v => leBytes 2 v

/-! ## Frames that the part sends -/

/-- The frame check of a frame's other bytes: the generator loaded with 65535 (R182). -/
def frameCheck (bytes : List Byte) : List Byte := leBytes 2 (checkWord 0xFFFF#16 bytes).toNat

/-- A frame closed with its check (R182). -/
def sealFrame (bytes : List Byte) : List Byte := bytes ++ frameCheck bytes

/-- An answer frame (Table 11-1). -/
def answerFrame (a : Answer) : List Byte :=
  sealFrame ([0x02] ++ leBytes 1 a.tag.val ++ [a.code, a.outcome.code, a.outcome.reasonByte] ++ genBytes a.g ++
    leBytes 2 a.body.bytes.length ++ a.body.bytes)

/-- The value of a notice (Table 11-8), 8 bytes. -/
def Notice.valueBytes : Notice → List Byte
  | .leaseWanted _ r => flagByte r ++ leBytes 7 0
  | .leaseLost _ => leBytes 8 0
  | .invalidate _ g => genBytes g
  | .invalidateAll g => genBytes g
  | .generation g => genBytes g
  | .ackDue g => genBytes g
  | .headLapsed _ i => leBytes 8 i.toNat
  | .poolLevel _ l => leBytes 8 l.code
  | .partFrozen c => c.bytes ++ leBytes 6 0

/-- A notice frame (Table 11-1, R186), with the lost flag of its delivery. -/
def noticeFrame (lost : Bool) (n : Notice) : List Byte :=
  sealFrame ([0x03] ++ leBytes 1 n.code ++ flagByte lost ++ leBytes 4 n.subject ++ n.valueBytes)

/-! ## Frames that the part receives -/

/-- Step 1 of R180: the length is the one the header declares, and the frame check matches. -/
def frameSound (f : List Byte) : Bool :=
  decide (f.length = 7 + ofLeBytes ((f.drop 3).take 2)) &&
  decide (f.drop (f.length - 2) = frameCheck (f.take (f.length - 2)))

/-- Step 2 of R180: the frame type is a request and the tag byte is 0 to 15. -/
def frameNamesTag (f : List Byte) : Bool :=
  decide (f[0]? = some 0x01#8) && (match f[1]? with
    | some t => decide (t.toNat < 16)
    | none => false)

/-- The frame fails step 1 or step 2 of R180. -/
def damaged (f : List Byte) : Bool := !(frameSound f && frameNamesTag f)

/-- A field of a request body: `n` bytes from an offset. -/
def field (body : List Byte) (offset n : Nat) : Nat := ofLeBytes ((body.drop offset).take n)

/-- A byte field of a request body. -/
def byteField (body : List Byte) (offset : Nat) : Byte := BitVec.ofNat 8 (field body offset 1)

/-- Consecutive written sets of a Bind body (Table 11-4). -/
def masksOf (body : List Byte) (offset : Nat) : Nat → List Mask
  | 0 => []
  | n + 1 => BitVec.ofNat 32 (field body offset 4) :: masksOf body (offset + 4) n

/-- Consecutive items of a Watch body (R184). -/
def itemsOf (body : List Byte) (offset : Nat) : Nat → List WatchItem
  | 0 => []
  | n + 1 =>
    ⟨BitVec.ofNat 16 (field body offset 2), byteField body (offset + 2), byteField body (offset + 3)⟩ ::
      itemsOf body (offset + 4) n

/-- The request that a body of the length of its kind carries (Table 11-4). The reads that the map store does not report
good are no bytes of the frame (log 6). -/
def readBody (p : Port) (t : Tag) (k : RequestKind) (b : List Byte) (reads : Reads) : Instr :=
  let half (o : Nat) : BitVec 16 := BitVec.ofNat 16 (field b o 2)
  let full (o : Nat) : BitVec 32 := BitVec.ofNat 32 (field b o 4)
  let byte (o : Nat) : Byte := byteField b o
  match k with
  | .join => .join p t (full 0)
  | .renew => .renew p t (full 0) (BitVec.ofNat 64 (field b 4 8))
  | .leave => .leave p t
  | .configure => .configure p t (byte 0) (full 1) (full 5) (full 9) (full 13)
  | .queryPart => .queryPart p t
  | .queryFaults => .queryFaults p t
  | .clearFault => .clearFault p t (byte 0)
  | .claim => .claim p t (half 0) (byte 2) (byte 3)
  | .release => .release p t (half 0)
  | .createVolume => .createVolume p t (half 0) (half 2) (byte 4) (full 5) (byte 9)
  | .deleteVolume => .deleteVolume p t (half 0)
  | .resizeVolume => .resizeVolume p t (half 0) (full 2)
  | .setVolumeMode => .setVolumeMode p t (half 0) (byte 2)
  | .queryVolume => .queryVolume p t (half 0) (byte 2)
  | .setTenant => .setTenant p t (half 0) (full 2)
  | .queryTenant => .queryTenant p t (half 0)
  | .resolve => .resolve p t (half 0) (full 2) (byte 6) reads
  | .noteWritten => .noteWritten p t (half 0) (full 2) (full 6) reads
  | .unmap => .unmap p t (half 0) (full 2) (half 6)
  | .reserve => .reserve p t (half 0) (full 2) (byte 6) reads
  | .bind => .bind p t (half 0) (half 2) (half 4) (byte 6) (masksOf b 8 (byte 7).toNat)
  | .abandon => .abandon p t (half 0) (half 2)
  | .relocate => .relocate p t (half 0) (full 2) reads
  | .completeRelocate => .completeRelocate p t (half 0) (half 2) (half 4)
  | .addSpan => .addSpan p t (byte 0) (byte 1) (full 2)
  | .drainSpan => .drainSpan p t (byte 0) (byte 1)
  | .removeSpan => .removeSpan p t (byte 0)
  | .setPool => .setPool p t (byte 0) (full 1) (full 5) (full 9)
  | .queryPool => .queryPool p t (byte 0)
  | .watch => .watch p t (full 0) (itemsOf b 5 (byte 4).toNat)

/-- The tag that a frame's second byte names. -/
def frameTag (f : List Byte) : Tag := Fin.ofNat 16 (f.getD 1 0).toNat

/-- The body of a frame: what stands between the header and the check. -/
def frameBody (f : List Byte) : List Byte := (f.drop 5).take (f.length - 7)

/-- The command that a frame arriving at a port is (R180, steps 1, 2 and 6). -/
def frameCommand (p : Port) (f : List Byte) (reads : Reads) : Instr :=
  let unknown : Instr := .unknownRequestKind p (frameTag f) (f.getD 2 0) (frameBody f)
  if damaged f then .frameDamaged p f
  else
    match RequestKind.ofCode (f.getD 2 0) with
    | none => unknown
    | some k => if k.bodyLength (frameBody f) = some (frameBody f).length then readBody p (frameTag f) k (frameBody f) reads else unknown

/-! ## Request frames as a head sends them -/

/-- A request frame (Table 11-1). -/
def sealRequest (t : Tag) (code : Byte) (body : List Byte) : List Byte :=
  sealFrame ([0x01] ++ leBytes 1 t.val ++ [code] ++ leBytes 2 body.length ++ body)

/-- The bytes of a frame command, as Tables 11-1 and 11-4 lay them out; none for an event. -/
def frameOf : Instr → Option (List Byte)
  | .join _ t i => some (sealRequest t 0x01 (word i.toNat))
  | .renew _ t i a => some (sealRequest t 0x02 (word i.toNat ++ leBytes 8 a.toNat))
  | .leave _ t => some (sealRequest t 0x03 [])
  | .configure _ t tp l g r gr =>
    some (sealRequest t 0x04 ([tp] ++ word l.toNat ++ word g.toNat ++ word r.toNat ++ word gr.toNat))
  | .queryPart _ t => some (sealRequest t 0x05 [])
  | .queryFaults _ t => some (sealRequest t 0x06 [])
  | .clearFault _ t s => some (sealRequest t 0x07 [s])
  | .claim _ t v w r => some (sealRequest t 0x10 (leBytes 2 v.toNat ++ [w, r]))
  | .release _ t v => some (sealRequest t 0x11 (leBytes 2 v.toNat))
  | .createVolume _ t v te p size m =>
    some (sealRequest t 0x20 (leBytes 2 v.toNat ++ leBytes 2 te.toNat ++ [p] ++ word size.toNat ++ [m]))
  | .deleteVolume _ t v => some (sealRequest t 0x21 (leBytes 2 v.toNat))
  | .resizeVolume _ t v size => some (sealRequest t 0x22 (leBytes 2 v.toNat ++ word size.toNat))
  | .setVolumeMode _ t v m => some (sealRequest t 0x23 (leBytes 2 v.toNat ++ [m]))
  | .queryVolume _ t v c => some (sealRequest t 0x24 (leBytes 2 v.toNat ++ [c]))
  | .setTenant _ t te q => some (sealRequest t 0x25 (leBytes 2 te.toNat ++ word q.toNat))
  | .queryTenant _ t te => some (sealRequest t 0x26 (leBytes 2 te.toNat))
  | .resolve _ t v f c _ => some (sealRequest t 0x30 (leBytes 2 v.toNat ++ word f.toNat ++ [c]))
  | .noteWritten _ t v i m _ => some (sealRequest t 0x31 (leBytes 2 v.toNat ++ word i.toNat ++ word m.toNat))
  | .unmap _ t v f c => some (sealRequest t 0x32 (leBytes 2 v.toNat ++ word f.toNat ++ leBytes 2 c.toNat))
  | .reserve _ t v f c _ => some (sealRequest t 0x40 (leBytes 2 v.toNat ++ word f.toNat ++ [c]))
  | .bind _ t g s c a ms =>
    some (sealRequest t 0x41 (leBytes 2 g.toNat ++ leBytes 2 s.toNat ++ leBytes 2 c.toNat ++ [a] ++
      leBytes 1 ms.length ++ ms.flatMap maskBytes))
  | .abandon _ t g s => some (sealRequest t 0x42 (leBytes 2 g.toNat ++ leBytes 2 s.toNat))
  | .relocate _ t v i _ => some (sealRequest t 0x43 (leBytes 2 v.toNat ++ word i.toNat))
  | .completeRelocate _ t g s c =>
    some (sealRequest t 0x44 (leBytes 2 g.toNat ++ leBytes 2 s.toNat ++ leBytes 2 c.toNat))
  | .addSpan _ t n p l => some (sealRequest t 0x50 ([n, p] ++ word l.toNat))
  | .drainSpan _ t n b => some (sealRequest t 0x51 [n, b])
  | .removeSpan _ t n => some (sealRequest t 0x52 [n])
  | .setPool _ t p w c f => some (sealRequest t 0x53 ([p] ++ word w.toNat ++ word c.toNat ++ word f.toNat))
  | .queryPool _ t p => some (sealRequest t 0x54 [p])
  | .watch _ t timeout items =>
    some (sealRequest t 0x60 (word timeout.toNat ++ leBytes 1 items.length ++
      items.flatMap (fun i => leBytes 2 i.volume.toNat ++ [i.holder, i.latch])))
  | .unknownRequestKind _ t c b => some (sealRequest t c b)
  | .frameDamaged _ f => some f
  | .powerOn _ => none
  | .lineReset _ => none
  | .linkUp _ => none
  | .linkDown _ => none
  | .answerSent _ => none
  | .noticeDelivered _ => none
  | .tick => none
  | .livenessExpiry => none
  | .grantExpiry => none
  | .recallExpiry => none
  | .stallExpiryQuiet => none
  | .stallExpiryWarned => none
  | .watchTimeout => none
  | .validate _ _ => none
  | .logSlotTaken => none
  | .logWriteAck _ => none
  | .applyStart => none
  | .effectWriteAck _ => none
  | .retireAck _ => none
  | .storeWriteFailed _ => none
  | .recoveryReplayIntent _ => none
  | .recoverySweep _ => none
  | .recoveryEnd => none
  | .deletionAdmitted _ => none
  | .effectReadUncorrectable => none

end Sys2Proof.Machine
end

