-- ==== Sys2Proof/Machine/Links.lean ====
section
/-! DEFINITION. Events of the head links (chapters 10 and 11): frames that are no request of Table 11-4, training and loss of a link,
the sending of answers and the delivery of notices. -/

namespace Sys2Proof.Machine

open State

/-! ## Frames without a request -/

/-- A body is not that of its kind code: no kind of Table 11-4, or another length (R180 step 6). -/
def malformed (code : Byte) (body : List Byte) : Bool :=
  match RequestKind.ofCode code with
  | none => true
  | some k => decide (k.bodyLength body ≠ some body.length)

/-- Steps 5 and 6 of R180 for a malformed request: STARTING while RECOVERING unless the kind code is QueryPart's, then
BAD_FORM. -/
def refuseForm (o : Origin) (code : Byte) (s : State) : State :=
  if s.mode = .recovering ∧ code ≠ RequestKind.queryPart.code then answer o code (.refused .starting) .empty s
  else answer o code (.refused .badForm) .empty s

/-- A frame of an unknown kind or with a body of a wrong length arrives; a body that is well formed is another row's
frame (logs 5, 23). -/
def receiveMalformed (o : Origin) (code : Byte) (body : List Byte) (s : State) : State :=
  if malformed code body then receive o code (refuseForm o code) s else s

/-- UNKNOWN_REQUEST_KIND (R180 step 6). -/
def execUnknownRequestKind (p : Port) (t : Tag) (code : Byte) (body : List Byte) (s : State) :
    Host.Outcome State Fault Refusal :=
  event (receiveMalformed ⟨p, t⟩ code body) s

/-- A damaged frame is dropped and recorded, located at its third byte (R180 steps 1 and 2). -/
def dropDamaged (p : Port) (frame : List Byte) (s : State) : State :=
  if s.linkUp p && damaged frame then recordFault (.port p) .frameDamaged (.frame frame[2]?) s else s

/-- FRAME_DAMAGED (R180). -/
def execFrameDamaged (p : Port) (frame : List Byte) (s : State) : Host.Outcome State Fault Refusal :=
  event (dropDamaged p frame) s

/-! ## Training and loss -/

/-- A port as its link trains: every tag FREE, no answer; its notice set stands (R178). -/
def HeadPort.trained (r : HeadPort) : HeadPort :=
  { r with linkUp := true, busy := Vector.replicate 16 false, answers := [] }

/-- LINK_UP (R178). -/
def execLinkUp (p : Port) (s : State) : Host.Outcome State Fault Refusal :=
  event (fun s => if s.linkUp p then s else s.updatePort p HeadPort.trained) s

/-- The item belongs to the port. -/
def ofPort (p : Port) (o : Option Origin) : Bool := decide (o.map Origin.port = some p)

/-- What a link loss leaves of a waiting item: a carried one without port and tag, no other (R151). -/
def stripItem (p : Port) (i : Item) : Option Item :=
  if ofPort p i.origin then (if i.request.carried then some { i with origin := none } else none) else some i

/-- What a link loss leaves of a change queue (R151). -/
def stripQueue (p : Port) (c : ChangeQueue) : ChangeQueue := { c with waiting := c.waiting.filterMap (stripItem p) }

/-- What a link loss leaves of an intent (R151). -/
def stripIntent (p : Port) (i : Intent) : Intent := if ofPort p i.origin then { i with origin := none } else i

/-- What a link loss leaves of a deletion record (R26, R151). -/
def stripDeletion (p : Port) (d : Deletion) : Deletion :=
  if ofPort p d.requester then { d with requester := none } else d

/-- The change queues, the log and the deletions after a link loss (R151). -/
def stripWork (p : Port) (s : State) : State :=
  { s.queues.foldl (fun s e => s.setQueue (.volume e.1) (stripQueue p e.2)) s with
    shelf := stripQueue p s.shelf
    logWait := s.logWait.map (stripIntent p)
    log := s.log.map (fun l => { l with intent := stripIntent p l.intent })
    volumes := s.volumes.map (fun e => (e.1, { e.2 with deletion := e.2.deletion.map (stripDeletion p) })) }

/-- A port as its link is lost: tags FREE, answers, notices and the frame on the link gone (R178). -/
def HeadPort.lostLink (_ : HeadPort) : HeadPort := .down

/-- A link goes DOWN: the port (R178), the change queues and the log (R151), its waiting Claims (R87), its watches (R172), and
for a JOINED head one INVALIDATE_ALL (R177). -/
def loseLink (p : Port) (s : State) : State :=
  let s := departAll p (stripWork p (s.updatePort p HeadPort.lostLink))
  addNotice p (.invalidateAll s.generation) { s with watches := s.watches.filter (fun w => decide (w.port ≠ p)) }

/-- LINK_DOWN (R178). -/
def execLinkDown (p : Port) (s : State) : Host.Outcome State Fault Refusal :=
  event (fun s => if s.linkUp p then loseLink p s else s) s

/-! ## Sending -/

/-- A port as the last byte of its oldest answer leaves: the tag slot is FREE (R179, R181). -/
def HeadPort.sent (r : HeadPort) : HeadPort :=
  match r.answers with
  | [] => r
  | a :: rest => { r with answers := rest, busy := putAt r.busy a.tag false, line := answerFrame a }

/-- ANSWER_SENT (R181). -/
def execAnswerSent (p : Port) (s : State) : Host.Outcome State Fault Refusal :=
  event (fun s => if s.linkUp p then s.updatePort p HeadPort.sent else s) s

/-- A port as its oldest notice is handed to the link, when no answer waits (R176, R181). -/
def HeadPort.delivered (r : HeadPort) : HeadPort :=
  match r.answers, r.notices with
  | [], n :: rest => { r with notices := rest, lost := false, line := noticeFrame r.lost n }
  | [], [] => r
  | _ :: _, _ => r

/-- NOTICE_DELIVERED (R176). -/
def execNoticeDelivered (p : Port) (s : State) : Host.Outcome State Fault Refusal :=
  event (fun s => if s.linkUp p then s.updatePort p HeadPort.delivered else s) s

end Sys2Proof.Machine
end

