-- ==== Sys2Proof/Machine/LogEvents.lean ====
section
/-! DEFINITION. The path of an intent (chapter 8): validation, the log slot, the acknowledgements of its image, effects and retirement,
and the failures that the map store reports on the way (chapter 9). -/

namespace Sys2Proof.Machine

open State

/-! ## Steps of the part itself (log 4) -/

/-- A step that is due inside an event is taken as a command of its own: due steps up to it are taken, then it is, if it is
due then. -/
def stepDue (d : Due) (take : State → State) (s : State) : Host.Outcome State Fault Refusal :=
  let s := finishUntil d s
  .next (if due? s = some d then take s else s)

/-- VALIDATE (R142): the front of one queue, with what the map store reports for the cells it reads. -/
def execValidate (q : QueueId) (reads : Reads) (s : State) : Host.Outcome State Fault Refusal :=
  stepDue (.front q) (validateFront q reads) s

/-- LOG_SLOT_TAKEN (R146). -/
def execLogSlotTaken (s : State) : Host.Outcome State Fault Refusal := stepDue .slot takeSlot s

/-- APPLY_START (R148). -/
def execApplyStart (s : State) : Host.Outcome State Fault Refusal := stepDue .apply startApply s

/-- DELETION_ADMITTED (R24, R114): a deletion that the event before has granted admission forms its removal intent, with
what the map store reports for the cells of its entries (nothing listed: every cell reads clean). -/
def execDeletionAdmitted (s : State) (reads : Reads := []) : Host.Outcome State Fault Refusal :=
  stepDue .removal (formDeletion reads) s

/-! ## The image -/

/-- The intent of this slot whose image is being written (R147). -/
def LogIntent.isWriting (slot : Nat) (l : LogIntent) : Bool :=
  decide (l.slot = slot ∧ l.state = .writing) && l.writeOut

/-- The image in a slot is whole (R147). -/
def wholeImage (slot : Nat) (m : MapStore) : MapStore :=
  match Table.get? m.slots slot with
  | none => m
  | some i => { m with slots := Table.insert slot { i with whole := true } m.slots }

/-- The log intents with one of them changed. -/
def changeLog (f : LogIntent → Bool) (g : LogIntent → LogIntent) (log : List LogIntent) : List LogIntent :=
  log.map (fun l => if f l then g l else l)

/-- The store acknowledges the image of a WRITING intent (R147); after a freeze the image becomes whole in the store and
the intent does not become LOGGED (R162). -/
def ackImage (slot : Nat) (s : State) : State :=
  if s.log.any (LogIntent.isWriting slot) then
    let after (l : LogIntent) : LogIntent :=
      if s.mode = .serving then { l with state := .logged, writeOut := false } else { l with writeOut := false }
    { s with log := changeLog (LogIntent.isWriting slot) after s.log, store := wholeImage slot s.store }
  else s

/-- LOG_WRITE_ACK (R147). -/
def execLogWriteAck (slot : Nat) (s : State) : Host.Outcome State Fault Refusal := event (ackImage slot) s

/-! ## Effects -/

/-- The effect of the intent in APPLYING whose write is under way (R148). -/
def effectOut? (s : State) : Option (LogIntent × Effect) :=
  match s.log with
  | [] => none
  | l :: _ =>
    if l.state = .applying ∧ l.writeOut = true then (l.intent.effects[l.applied]?).map (fun e => (l, e)) else none

/-- The intent in APPLYING changes. -/
def changeFront (f : LogIntent → LogIntent) (s : State) : State :=
  match s.log with
  | [] => s
  | l :: rest => { s with log := f l :: rest }

/-- The extents that an effect sent to the forming batch join it. -/
def Forming.join (x : List Extent) (f : Forming) : Forming := { f with extents := f.extents ++ x }

/-- The intent after one more effect (R148). -/
def LogIntent.advanced (x : List Extent) (l : LogIntent) : LogIntent :=
  { l with applied := l.applied + 1, intent := { l.intent with forming := l.intent.forming.map (Forming.join x) } }

/-- A read of the effect's cell that was corrected (R160). -/
def effectCorrected (corrected : Bool) (e : Effect) (s : State) : State :=
  match corrected, e.readsCell with
  | true, some c => correctedRead (.entry c.1 c.2) s
  | true, none => s
  | false, _ => s

/-- An effect is applied to the volatile tables; the next write begins (R148). -/
def applyNext (l : LogIntent) (e : Effect) (s : State) : State :=
  let r := applyEffect l.intent.kind e s
  changeFront (LogIntent.advanced r.2) r.1

/-- The store acknowledges an effect's write: it stands in the store, and while SERVING it is applied (R148); after a freeze it
is not (R162). A corrected read of its cell is recorded in either mode (R159). -/
def ackEffect (corrected : Bool) (s : State) : State :=
  match effectOut? s with
  | none => s
  | some (l, e) =>
    let s := effectCorrected corrected e { s with store := s.store.write e }
    if s.mode = .serving then applyNext l e s else changeFront (fun l => { l with writeOut := false }) s

/-- EFFECT_WRITE_ACK (R148). -/
def execEffectWriteAck (corrected : Bool) (s : State) : Host.Outcome State Fault Refusal := event (ackEffect corrected) s

/-- The engine's read of its next effect's cell is uncorrectable: the effect is not applied (R160). The fault is recorded and the
index poisoned in every mode (R159, R161, R165). -/
def failEffectRead (s : State) : State :=
  match effectOut? s with
  | none => s
  | some (_, e) =>
    match e.readsCell with
    | none => s
    | some c => poisonedRead c.1 c.2 (changeFront (fun l => { l with writeOut := false }) s)

/-- EFFECT_READ_UNCORRECTABLE (R160). -/
def execEffectReadUncorrectable (s : State) : Host.Outcome State Fault Refusal := event failEffectRead s

/-! ## The retirement -/

/-- The intent whose retirement is under way: every effect applied (R149). -/
def retireOut? (s : State) : Option LogIntent :=
  match s.log with
  | [] => none
  | l :: _ =>
    if l.state = .applying ∧ l.writeOut = true ∧ l.applied = l.intent.effects.length then some l else none

/-- The store acknowledges the retirement of the front intent while the part is SERVING: its slot is free, and the log wait queue
is served (R149 step 1, R146). -/
def freeSlot (l : LogIntent) (s : State) : State :=
  takeSlot { s with store := s.store.retire l.slot l.seq, log := s.log.tail }

/-- The store acknowledges the retirement. While SERVING the slot is free and the log wait queue served, then the intent is DONE,
its actions are carried out and its answer handed over (R149 steps 1 to 3), with what the map store reports for the cells that a
follow-on's checks read. The change queue and the engine follow as steps due (log 4). After a freeze only the store changes
(log 11). -/
def ackRetire (reads : Reads) (s : State) : State :=
  match retireOut? s with
  | none => s
  | some l =>
    if s.mode = .serving then doneActions l.intent reads (freeSlot l s)
    else changeFront (fun l => { l with writeOut := false }) { s with store := s.store.retire l.slot l.seq }

/-- RETIRE_ACK (R149), with what the map store reports for the cells that the DONE actions read (nothing listed: every cell
reads clean). -/
def execRetireAck (s : State) (reads : Reads := []) : Host.Outcome State Fault Refusal := event (ackRetire reads) s

/-! ## Failed writes (R160) -/

/-- The write of an intent's image has failed: the intent stays WRITING (R147). -/
def failImage (slot : Nat) (s : State) : State :=
  if s.log.any (LogIntent.isWriting slot) then
    storeFault .log .writeFailed (.logSlot slot)
      { s with log := changeLog (LogIntent.isWriting slot) (fun l => { l with writeOut := false }) s.log }
  else s

/-- The write of an effect has failed: it is not applied (R148). A corrected read of its cell came before the write and is
recorded before its failure (R160). -/
def failEffect (corrected : Bool) (s : State) : State :=
  match effectOut? s with
  | none => s
  | some (_, e) =>
    storeFault .mapStore .writeFailed e.area
      (effectCorrected corrected e (changeFront (fun l => { l with writeOut := false }) s))

/-- The retirement has failed: the intent stays APPLYING (R149). Of the two writes that Table 9-2 joins in one row, the retired
mark is the one located (log 41). -/
def failRetire (s : State) : State :=
  match retireOut? s with
  | none => s
  | some _ => storeFault .log .writeFailed .retiredMark (changeFront (fun l => { l with writeOut := false }) s)

/-- Recovery stops writing (R157). -/
def stopWrites (s : State) : State := { s with recovery := { s.recovery with writesStopped := true } }

/-- The write of the boot count has failed, before the log is read: the store keeps the count it had (R153, R157; log 13). -/
def failBootCount (s : State) : State :=
  if s.mode = .recovering ∧ s.recovery.stage = .booted ∧ s.recovery.writesStopped = false then
    storeFault .mapStore .writeFailed .bootCount
      (stopWrites { s with store := { s.store with bootCount := s.recovery.bootBefore } })
  else s

/-- The write-back of a corrected read has failed (R160; log 10). -/
def failWriteBack (a : StoreArea) (s : State) : State :=
  if a ∈ s.writeBacks then
    storeFault (areaSource a) .writeFailed a { s with writeBacks := s.writeBacks.filter (fun b => decide (b ≠ a)) }
  else s

end Sys2Proof.Machine
end

