-- ==== Sys2Proof/Machine/Recovery.lean ====
section
/-! DEFINITION. Resets and recovery (R153 to R157, R44): the start of recovery, the reading of the log, replay, the sweep, the end;
and the failed writes of all of the part (R160). -/

namespace Sys2Proof.Machine

open State

/-! ## The start (R153) -/

/-- The boot count as it is read: one that cannot be read takes 0 (R153, R155). -/
def bootRead (boot : Option ReadFault) (m : MapStore) : BitVec 32 :=
  match boot with
  | some .uncorrectable => 0
  | some .corrected => m.bootCount
  | none => m.bootCount

/-- The fault of the boot count's read. -/
def bootFault (boot : Option ReadFault) (s : State) : State :=
  match boot with
  | some .uncorrectable => storeFault .mapStore .uncorrectable .bootCount s
  | some .corrected => correctedRead .bootCount s
  | none => s

/-- Recovery starts: the volatile state is lost, the boot count raised and written back, the reset cause set; the fault records
stand (R153, R158). The commands that wait outside the part stand too. -/
def restart (cause : ResetCause) (boot : Option ReadFault) (s : State) : State :=
  let count := bootRead boot s.store + 1
  bootFault boot { State.cold { s.store with bootCount := count } with
    bootCount := count
    resetCause := cause
    faults := s.faults
    faultsMet := s.faultsMet
    recovery := { Recovery.idle with stage := .booted, bootBefore := s.store.bootCount }
    pending := s.pending }

/-- POWER_ON (R153): the fault records are cleared, after the boot count is read (log 12). -/
def execPowerOn (boot : Option ReadFault) (s : State) : Host.Outcome State Fault Refusal :=
  event (fun s => { restart .power boot s with faults := .clear }) s

/-- LINE_RESET (R153): the fault records are kept. -/
def execLineReset (boot : Option ReadFault) (s : State) : Host.Outcome State Fault Refusal :=
  event (restart .line boot) s

/-! ## Reading the log (R154, R157) -/

/-- How far a sequence number lies ahead of the retired mark, in forward order (R145, R154). -/
def ahead (m : MapStore) (seq : BitVec 32) : Nat := (seq - m.retired).toNat

/-- The image is of an intent after the retired mark (R145: no further than 512). -/
def holdsIntent (m : MapStore) (i : SlotImage) : Bool := decide (0 < ahead m i.seq ∧ ahead m i.seq ≤ Config.logSlots)

/-- The slot cannot be read. -/
def slotLost (reads : Reads) (n : Nat) : Bool := decide (readOf reads (.logSlot n) = some .uncorrectable)

/-- Items with their distances, in forward order, with one more. -/
def insertItem (d : Nat) (i : ReplayItem) : List (Nat × ReplayItem) → List (Nat × ReplayItem)
  | [] => [(d, i)]
  | (e, j) :: t => if d < e then (d, i) :: (e, j) :: t else (e, j) :: insertItem d i t

/-- What replay has to meet, in forward order: the whole images, and the unreadable slots in their places (log 16). -/
def replayItems (reads : Reads) (m : MapStore) : List ReplayItem :=
  let kept := m.slots.filter (fun e => holdsIntent m e.2 && (e.2.whole || slotLost reads e.1))
  (kept.foldl (fun l e => insertItem (ahead m e.2.seq) ⟨e.1, !slotLost reads e.1⟩ l) []).map Prod.snd

/-- The slots of images that hold no whole intent are marked free (R154); an unreadable slot is kept (R157). -/
def discardSlots (reads : Reads) (m : MapStore) : MapStore :=
  { m with slots := m.slots.filter (fun e => slotLost reads e.1 || (holdsIntent m e.2 && e.2.whole)) }

/-- The reports on the areas that `id?` numbers, in ascending number. DESIGN CHOICE, unsafe: the spec gives no order among the
records of one table (R155; log 48) nor among the log slots (R154; log 16). It decides which location a fault record keeps when
several of them fault (R159). -/
def numbered (id? : StoreArea → Option Nat) (reads : Reads) : Table (StoreArea × ReadFault) :=
  reads.foldl (fun t e =>
    match id? e.1 with
    | some n => Table.insert n e t
    | none => t) []

/-- The number of a log slot. -/
def slotNumber : StoreArea → Option Nat
  | .logSlot n => some n
  | .entry _ _ => none
  | .volume _ => none
  | .tenant _ => none
  | .span _ => none
  | .pool _ => none
  | .config => none
  | .bootCount => none
  | .retiredMark => none

/-- A read of an area that is not an entry cell meets a fault (R160). -/
def areaFault (a : StoreArea) (f : ReadFault) (s : State) : State :=
  match f with
  | .corrected => correctedRead a s
  | .uncorrectable => storeFault (areaSource a) .uncorrectable a s

/-- The faults of the reads of the log slots, in ascending slot number (DESIGN CHOICE: log 16). -/
def slotFaults (reads : Reads) (s : State) : State :=
  (numbered slotNumber reads).foldl (fun s e => areaFault e.2.1 e.2.2 s) s

/-- The log as recovery has read it. -/
def logRead (todo : List ReplayItem) (lost : Bool) (s : State) : State :=
  { s with recovery := { s.recovery with stage := .replaying, todo := todo, markUnreadable := lost } }

/-- Recovery reads the retired mark and then every slot of the log (R154; their order: log 16); with the mark unreadable
nothing is replayed, retired or discarded (R157). Nothing is marked free once recovery has stopped writing. -/
def readLog (reads : Reads) (s : State) : State :=
  match readOf reads .retiredMark with
  | some .uncorrectable => logRead [] true (slotFaults reads (areaFault .retiredMark .uncorrectable s))
  | some .corrected => keep (areaFault .retiredMark .corrected s)
  | none => keep s
where
  /-- The whole and the unreadable slots are kept for replay. -/
  keep (s : State) : State :=
    let s := logRead (replayItems reads s.store) false (slotFaults reads s)
    if s.recovery.writesStopped then s else { s with store := discardSlots reads s.store }

/-- The log is read once, at the first step after the boot count. -/
def logged (reads : Reads) (s : State) : State := if s.recovery.stage = .booted then readLog reads s else s

/-! ## Replay (R154, R157) -/

/-- The read of the cell of an effect that is replayed (R160); the flag tells that the effect can be written: its kind reads no
cell, or the cell is good or corrected. -/
def replayRead (reads : Reads) (e : Effect) (s : State) : State × Bool :=
  match e.readsCell with
  | none => (s, true)
  | some c =>
    match readOf reads (.entry c.1 c.2) with
    | none => (s, true)
    | some .corrected => (correctedRead (.entry c.1 c.2) s, true)
    | some .uncorrectable => (poisonedRead c.1 c.2 s, false)

/-- The effects of one intent are written in order. An effect whose cell cannot be read is not written (R160); the flag tells
that there was one. -/
def replayEffects (reads : Reads) : List Effect → State × Bool → State × Bool
  | [], r => r
  | e :: t, (s, lost) =>
    match replayRead reads e s with
    | (s, true) => replayEffects reads t ({ s with store := s.store.write e }, lost)
    | (s, false) => replayEffects reads t (s, true)

/-- An intent is not retired, nor is any after it (R157; log 17). -/
def block (s : State) : State := { s with recovery := { s.recovery with blocked := true } }

/-- One item of the log is replayed: an unreadable slot is passed over and kept, and blocks every later retirement; a whole intent's
effects are written and its slot retired unless that is blocked (R154, R157). -/
def replayItem (reads : Reads) (i : ReplayItem) (s : State) : State :=
  match i.readable, Table.get? s.store.slots i.slot with
  | true, some image =>
    let r := replayEffects reads image.effects (s, false)
    if r.2 then block r.1
    else if r.1.recovery.blocked then r.1
    else { r.1 with store := r.1.store.retire i.slot image.seq }
  | true, none => s
  | false, _ => block s

/-- The items up to and with the first whole intent. -/
def nextReplay : List ReplayItem → List ReplayItem × List ReplayItem
  | [] => ([], [])
  | i :: t => if i.readable then ([i], t) else let r := nextReplay t; (i :: r.1, r.2)

/-- Several items are replayed in order. -/
def replayAll (reads : Reads) (l : List ReplayItem) (s : State) : State :=
  l.foldl (fun s i => replayItem reads i s) s

/-- The items still to be met. -/
def setTodo (l : List ReplayItem) (s : State) : State := { s with recovery := { s.recovery with todo := l } }

/-- A whole intent is left to be replayed, and recovery has not stopped writing (R154, R157). -/
def canReplay (s : State) : Bool := !s.recovery.writesStopped && s.recovery.todo.any ReplayItem.readable

/-- The log stage of a recovery: the boot count is written, the tables not yet read. -/
def inReplay (s : State) : Bool :=
  decide (s.mode = .recovering) && (decide (s.recovery.stage = .booted) || decide (s.recovery.stage = .replaying))

/-- The next whole intent is replayed, with the unreadable slots before it passed over. -/
def replayOne (reads : Reads) (s : State) : State :=
  let r := nextReplay s.recovery.todo
  setTodo r.2 (replayAll reads r.1 s)

/-- Replay has ended once no whole intent is left to be replayed: the sequence counter is set to the retired mark (R145, R154), to 0
where the mark could not be read (R157). -/
def endReplay (s : State) : State :=
  if canReplay s then s else { s with sequence := if s.recovery.markUnreadable then 0 else s.store.retired }

/-- Recovery replays the next whole intent (R154), if one is left; the log is read first, if it has not been. -/
def replayStep (reads : Reads) (s : State) : State :=
  if inReplay s then
    let s := logged reads s
    endReplay (if canReplay s then replayOne reads s else s)
  else s

/-- RECOVERY_REPLAY_INTENT (R154). -/
def execRecoveryReplayIntent (reads : Reads) (s : State) : Host.Outcome State Fault Refusal := event (replayStep reads) s

/-- What is left of replay, read and written without a fault, before the sweep (log 6). -/
def replayRest (s : State) : State :=
  if s.recovery.writesStopped then s else setTodo [] (replayAll [] s.recovery.todo s)

/-! ## The sweep (R155, R44) -/

/-- The number of a volume record. -/
def volumeNumber : StoreArea → Option Nat
  | .volume v => some v
  | .entry _ _ => none
  | .logSlot _ => none
  | .tenant _ => none
  | .span _ => none
  | .pool _ => none
  | .config => none
  | .bootCount => none
  | .retiredMark => none

/-- The number of a tenant record. -/
def tenantNumber : StoreArea → Option Nat
  | .tenant t => some t
  | .entry _ _ => none
  | .volume _ => none
  | .logSlot _ => none
  | .span _ => none
  | .pool _ => none
  | .config => none
  | .bootCount => none
  | .retiredMark => none

/-- The number of a span record. -/
def spanNumber : StoreArea → Option Nat
  | .span n => some n
  | .entry _ _ => none
  | .volume _ => none
  | .tenant _ => none
  | .logSlot _ => none
  | .pool _ => none
  | .config => none
  | .bootCount => none
  | .retiredMark => none

/-- The number of a pool record. -/
def poolNumber : StoreArea → Option Nat
  | .pool p => some p
  | .entry _ _ => none
  | .volume _ => none
  | .tenant _ => none
  | .span _ => none
  | .logSlot _ => none
  | .config => none
  | .bootCount => none
  | .retiredMark => none

/-- The configuration record. -/
def configNumber : StoreArea → Option Nat
  | .config => some 0
  | .entry _ _ => none
  | .volume _ => none
  | .tenant _ => none
  | .span _ => none
  | .pool _ => none
  | .logSlot _ => none
  | .bootCount => none
  | .retiredMark => none

/-- The reports on table records, table by table in the order R155 reads them: volumes, tenants, spans, pools, configuration.
Within one table they ascend in record number, which is the model's choice (DESIGN CHOICE, unsafe: log 48). -/
def tableReports (reads : Reads) : List (StoreArea × ReadFault) :=
  (numbered volumeNumber reads ++ numbered tenantNumber reads ++ numbered spanNumber reads ++
    numbered poolNumber reads ++ numbered configNumber reads).map Prod.snd

/-- The table record cannot be read. -/
def recordLost (reads : Reads) (a : StoreArea) : Bool := decide (readOf reads a = some .uncorrectable)

/-- The tables as the rest of recovery takes them: a record that cannot be read has its factory value (R155). -/
def tableView (reads : Reads) (m : MapStore) : MapStore :=
  { m with
    volumes := m.volumes.filter (fun e => !recordLost reads (.volume e.1))
    quotas := m.quotas.filter (fun e => !recordLost reads (.tenant e.1))
    spans := Vector.ofFn (fun n : SpanId => if recordLost reads (.span n.val) then .absent else m.spans.get n)
    pools := Vector.ofFn (fun p : PoolId => if recordLost reads (.pool p.val) then .factory else m.pools.get p)
    timing := if recordLost reads .config then .factory else m.timing }

/-- A span as the sweep starts it: every index free, cursor 0 (R44 steps 1, 2, 4). -/
def spanOfStore (r : StoreSpan) : Span :=
  match r.state with
  | .absent => .absent
  | .online => ⟨.online, r.pool, r.length, FreeSet.full r.length, r.length, 0⟩
  | .draining => ⟨.draining, r.pool, r.length, FreeSet.full r.length, r.length, 0⟩

/-- A volume record as the sweep starts it: counts 0, latch 1 (R4). -/
def volumeOfStore (r : StoreVolume) : Volume := ⟨r.state, r.tenant, r.pool, r.size, 0, 0, true, none⟩

/-- The volatile tables take the persistent fields (R4, R5, R34, R44, R107). -/
def loadTables (view : MapStore) (s : State) : State :=
  { s with
    timing := view.timing
    volumes := view.volumes.map (fun e => (e.1, volumeOfStore e.2))
    tenants := view.quotas.map (fun e => (e.1, { Tenant.fresh with quota := some e.2 }))
    spans := mapAt spanOfStore view.spans
    pools := mapAt (fun settings => { Pool.empty with settings := settings }) view.pools
    maps := [] }

/-- The sweep refuses the placement: its span is ABSENT, its index lies beyond the span, or an earlier entry took the extent
(R44). -/
def refusesPlacement (s : State) (x : Extent) : Bool :=
  let sp := s.spans.get x.span
  decide (sp.state = .absent) || decide (sp.length ≤ x.index) || !FreeSet.mem x.index sp.free

/-- The sweep counts an entry: its extent leaves the free set, the used count of the extent's pool, the mapped count of the
volume and the used count of its tenant rise (R44, R155). -/
def countEntry (v i : Nat) (e : Entry) (s : State) : State :=
  let n := e.placement.span
  let s := s.updateSpan n (fun sp =>
    { sp with free := FreeSet.remove e.placement.index sp.free, freeCount := sp.freeCount - 1 })
  raiseMapped v ((s.updatePool (s.spans.get n).pool (fun p => { p with used := p.used + 1 })).putEntry v i e)

/-- The sweep reads an entry cell: an entry it accepts is counted; one it refuses, like an uncorrectable read, poisons the
index (R15, R44, R155). -/
def sweepCell (v i : Nat) (cell : Option Entry) (f : Option ReadFault) (s : State) : State :=
  match f with
  | some .uncorrectable => poisonedRead v i s
  | some .corrected => take (correctedRead (.entry v i) s)
  | none => take s
where
  /-- The readable cell. -/
  take (s : State) : State :=
    match cell with
    | none => s
    | some e => if refusesPlacement s e.placement then poisonedRead v i s else countEntry v i e s

/-- The cells of a volume that hold an entry or meet a fault, in ascending index. -/
def cellsToSweep (view : MapStore) (v size : Nat) (reads : Reads) : Table (Option Entry × Option ReadFault) :=
  (cellReads v (fun i => decide (i < size)) reads).foldl
    (fun t r => Table.insert r.1 (Table.get? (view.cellsOf v) r.1, some r.2) t)
    ((view.cellsOf v).map (fun e => (e.1, (some e.2, none))))

/-- Every extent map is swept in ascending volume id and index; an ABSENT id has none (R155). -/
def sweepMaps (view : MapStore) (reads : Reads) (s : State) : State :=
  (view.volumes.filter (fun e => decide (e.2.state ≠ .absent))).foldl (fun s e =>
    (cellsToSweep view e.1 e.2.size reads).foldl (fun s c => sweepCell e.1 c.1 c.2.1 c.2.2 s) s) s

/-- A pool's counts over its spans (R35, R44 step 6), and its level, without a notice (R44 step 7). -/
def poolFromSpans (spans : Vector Span 16) (p : PoolId) (r : Pool) : Pool :=
  let own := allSpans.filter (fun n => decide ((spans.get n).state ≠ .absent ∧ (spans.get n).pool = p))
  let online := own.filter (fun n => decide ((spans.get n).state = .online))
  let r := { r with
    capacity := (own.map (fun n => (spans.get n).length)).sum
    free := (own.map (fun n => (spans.get n).freeCount)).sum
    allocatable := (online.map (fun n => (spans.get n).freeCount)).sum }
  { r with level := r.judged }

/-- The pools after the sweep. -/
def countPools (s : State) : State :=
  { s with pools := Vector.ofFn (fun p : PoolId => poolFromSpans s.spans p (s.pools.get p)) }

/-- Recovery reads the tables and sweeps the maps (R155; the order of the records of one table: log 48). -/
def sweepTables (reads : Reads) (s : State) : State :=
  let view := tableView reads s.store
  let s := (tableReports reads).foldl (fun s e => areaFault e.1 e.2 s) s
  let s := countPools (sweepMaps view reads (loadTables view s))
  { s with recovery := { s.recovery with stage := .swept } }

/-- The sweep, after what is left of replay. -/
def sweepStep (reads : Reads) (s : State) : State :=
  if inReplay s then sweepTables reads (endReplay (replayRest (logged reads s))) else s

/-- RECOVERY_SWEEP (R155). -/
def execRecoverySweep (reads : Reads) (s : State) : Host.Outcome State Fault Refusal := event (sweepStep reads) s

/-! ## The end (R156) -/

/-- A deletion is resumed, with no requester: it holds the front of its queue and forms its first intent (R27, R156). -/
def resumeDeletion (v : Nat) (s : State) : State :=
  let s := s.updateVolume v (fun r => { r with deletion := some ⟨none, .removing, false⟩ })
  continueDeletion v (s.setQueue (.volume v) { s.queue (.volume v) with flight := some .deletion })

/-- The volumes whose state is DELETING, ascending (R27). -/
def deletingVolumes (s : State) : List Nat :=
  (s.volumes.filter (fun e => decide (e.2.state = .deleting))).map Prod.fst

/-- A port as recovery leaves it: tag table and notice set empty (R156), but for the slots of the answers that have not yet left,
which stay BUSY (R179, R181; log 35). -/
def HeadPort.recovered (r : HeadPort) : HeadPort :=
  { r with
    busy := Vector.ofFn (fun t : Tag => r.answers.any (fun a => decide (a.tag = t)))
    notices := []
    lost := false }

/-- The volatile state that recovery sets last (R156); the rest holds what the reset left. -/
def setAfterRecovery (s : State) : State :=
  { s with
    generation := 1
    ports := mapAt HeadPort.recovered s.ports
    watches := []
    recovery := .idle }

/-- Recovery ends: SERVING, with the deletions resumed, or FROZEN when a freezing fault was met (R156, R161). -/
def finishRecovery (s : State) : State :=
  match s.recovery.firstFault with
  | none =>
    let s := { setAfterRecovery s with mode := .serving }
    (deletingVolumes s).foldl (fun s v => resumeDeletion v s) s
  | some c => { setAfterRecovery s with mode := .frozen, freezeCause := some c }

/-- The end of recovery, after what is left of the sweep. -/
def endStep (s : State) : State :=
  if s.mode = .recovering then finishRecovery (sweepStep [] s) else s

/-- RECOVERY_END (R156). -/
def execRecoveryEnd (s : State) : Host.Outcome State Fault Refusal := event endStep s

/-! ## Failed writes (R160, R157) -/

/-- A write of the replay of the next whole intent fails: the fault is met, and recovery stops writing (R157). -/
def failReplay (source : FaultSource) (area : StoreArea) (s : State) : State :=
  storeFault source .writeFailed area (stopWrites s)

/-- The image of the next whole intent that is to be replayed, and whether its retirement would be written. -/
def replayNext? (s : State) : Option (SlotImage × Bool) :=
  let r := nextReplay s.recovery.todo
  match r.1.getLast? with
  | some i => (Table.get? s.store.slots i.slot).map (fun m => (m, decide (r.1.length = 1) && !s.recovery.blocked))
  | none => none

/-- The write of one effect of a replay fails: the effects before it were read and written, its own cell was read (R157). -/
def failReplayEffect (k : Nat) (reads : Reads) (s : State) : State :=
  let s' := logged reads s
  if inReplay s && canReplay s' then
    match replayNext? s' with
    | some (image, _) =>
      match image.effects[k]? with
      | some e =>
        match replayRead reads e (replayEffects reads (image.effects.take k) (s', false)).1 with
        | (r, true) => failReplay .mapStore e.area r
        | (_, false) => s
      | none => s
    | none => s
  else s

/-- The retirement of a replayed intent fails, every effect of it written before (R157); it is located at the retired mark
(log 41). -/
def failReplayRetirement (reads : Reads) (s : State) : State :=
  let s' := logged reads s
  if inReplay s && canReplay s' then
    match replayNext? s' with
    | some (image, true) =>
      match replayEffects reads image.effects (s', false) with
      | (r, false) => failReplay .log .retiredMark r
      | (_, true) => s
    | some (_, false) => s
    | none => s
  else s

/-- The map store reports a failed write (R160). -/
def failWrite (target : WriteTarget) (s : State) : State :=
  match target with
  | .logImage slot => failImage slot s
  | .effect corrected => failEffect corrected s
  | .retirement => failRetire s
  | .bootCount => failBootCount s
  | .writeBack a => failWriteBack a s
  | .replayEffect k reads => failReplayEffect k reads s
  | .replayRetirement reads => failReplayRetirement reads s

/-- STORE_WRITE_FAILED (R160). -/
def execStoreWriteFailed (target : WriteTarget) (s : State) : Host.Outcome State Fault Refusal := event (failWrite target) s

end Sys2Proof.Machine
end

