-- ==== Sys2Proof/Machine/Shelf.lean ====
section
/-! DEFINITION. Chapter 2 requests on spans and pools, and Watch (chapter 10). The FROZEN check of the span and pool requests
stands after their form checks (log 19). -/

namespace Sys2Proof.Machine

open State

/-- AddSpan on arrival (R38). -/
def judgeAddSpan (o : Origin) (span pool : Byte) (length : Nat) (s : State) : State :=
  match spanOf span, poolOf pool with
  | some n, some p =>
    if length = 0 ∨ Config.maxExtents < length then refuse o .addSpan .range s
    else unlessFrozen o .addSpan (enqueue (.addSpan n p length) o) s
  | some _, none => refuse o .addSpan .badForm s
  | none, _ => refuse o .addSpan .badForm s

/-- ADD_SPAN. -/
def execAddSpan (p : Port) (t : Tag) (span pool : Byte) (length : BitVec 32) (s : State) :
    Host.Outcome State Fault Refusal :=
  request p t .addSpan (judgeAddSpan ⟨p, t⟩ span pool length.toNat) s

/-- DrainSpan on arrival (R40). -/
def judgeDrainSpan (o : Origin) (span setting : Byte) (s : State) : State :=
  match spanOf span, flagOf setting with
  | some n, some on => unlessFrozen o .drainSpan (enqueue (.drainSpan n on) o) s
  | some _, none => refuse o .drainSpan .badForm s
  | none, _ => refuse o .drainSpan .badForm s

/-- DRAIN_SPAN. -/
def execDrainSpan (p : Port) (t : Tag) (span setting : Byte) (s : State) : Host.Outcome State Fault Refusal :=
  request p t .drainSpan (judgeDrainSpan ⟨p, t⟩ span setting) s

/-- RemoveSpan on arrival (R41). -/
def judgeRemoveSpan (o : Origin) (span : Byte) (s : State) : State :=
  match spanOf span with
  | some n => unlessFrozen o .removeSpan (enqueue (.removeSpan n) o) s
  | none => refuse o .removeSpan .badForm s

/-- REMOVE_SPAN. -/
def execRemoveSpan (p : Port) (t : Tag) (span : Byte) (s : State) : Host.Outcome State Fault Refusal :=
  request p t .removeSpan (judgeRemoveSpan ⟨p, t⟩ span) s

/-- SetPool on arrival (R42). -/
def judgeSetPool (o : Origin) (pool : Byte) (warn critical floor : Nat) (s : State) : State :=
  match poolOf pool with
  | none => refuse o .setPool .badForm s
  | some p =>
    if Config.maxTotal < warn ∨ Config.maxTotal < critical ∨ Config.maxTotal < floor ∨ warn < critical then
      refuse o .setPool .range s
    else unlessFrozen o .setPool (enqueue (.setPool p ⟨warn, critical, floor⟩) o) s

/-- SET_POOL. -/
def execSetPool (p : Port) (t : Tag) (pool : Byte) (warn critical floor : BitVec 32) (s : State) :
    Host.Outcome State Fault Refusal :=
  request p t .setPool (judgeSetPool ⟨p, t⟩ pool warn.toNat critical.toNat floor.toNat) s

/-- The spans of a QueryPool answer: the pool's ONLINE and DRAINING spans in ascending number (R43). -/
def poolSpans (s : State) (p : PoolId) : List SpanReport :=
  (allSpans.filter (fun n => decide ((s.spans.get n).state ≠ .absent ∧ (s.spans.get n).pool = p))).map (fun n =>
    ⟨n, (s.spans.get n).state, (s.spans.get n).length, (s.spans.get n).freeCount⟩)

/-- What QueryPool reports (R43). -/
def poolBody (s : State) (p : PoolId) : AnswerBody :=
  let r := s.pools.get p
  .pool r.settings r.capacity r.free r.allocatable r.reserved r.used r.grace r.level s.registeredTotal (poolSpans s p)

/-- QueryPool (R43). -/
def judgeQueryPool (o : Origin) (pool : Byte) (s : State) : State :=
  match poolOf pool with
  | none => refuse o .queryPool .badForm s
  | some p => answer o RequestKind.queryPool.code .done (poolBody s p) s

/-- QUERY_POOL (R43). Its rule names no outcome; the answer's is DONE (log 43). -/
def execQueryPool (p : Port) (t : Tag) (pool : Byte) (s : State) : Host.Outcome State Fault Refusal :=
  request p t .queryPool (judgeQueryPool ⟨p, t⟩ pool) s

/-- One item of a Watch with its values, if its expected holder and latch have theirs (R169). -/
def expectOf (it : WatchItem) : Option WatchExpect :=
  match holderOf it.holder, flagOf it.latch with
  | some h, some b => some ⟨it.volume.toNat, h, b⟩
  | some _, none => none
  | none, _ => none

/-- The items of a Watch, if every one has its values (R169). -/
def expectAll : List WatchItem → Option (List WatchExpect)
  | [] => some []
  | it :: t =>
    match expectOf it, expectAll t with
    | some e, some r => some (e :: r)
    | some _, none => none
    | none, _ => none

/-- The first item whose volume fails R3, with the reason (R169 check 3). -/
def firstRefused (s : State) : List WatchExpect → Option (Nat × Reason)
  | [] => none
  | it :: t =>
    match volumeRefusal s it.volume with
    | some r => some (it.volume, r)
    | none => firstRefused s t

/-- Watch after its form check: the timeout, the volumes, the comparison (R169). -/
def judgeItems (o : Origin) (timeout : Nat) (items : List WatchExpect) (s : State) : State :=
  if timeout = 0 ∨ 60000 < timeout then refuse o .watch .range s
  else
    match firstRefused s items with
    | some r => refuseWith o .watch r.2 (.volumeNamed r.1) s
    | none =>
      if items.any (itemDiffers s) then
        answer o RequestKind.watch.code .changed (.watched (items.map (watchReport s))) s
      else { s with watches := insertWatch ⟨o.port, o.tag, timeout, items⟩ s.watches }

/-- Watch (R169). -/
def judgeWatch (o : Origin) (timeout : Nat) (items : List WatchItem) (s : State) : State :=
  match expectAll items with
  | none => refuse o .watch .badForm s
  | some es =>
    if es.isEmpty ∨ 16 < es.length ∨ ¬ (es.map WatchExpect.volume).Nodup then refuse o .watch .badForm s
    else judgeItems o timeout es s

/-- WATCH. -/
def execWatch (p : Port) (t : Tag) (timeout : BitVec 32) (items : List WatchItem) (s : State) :
    Host.Outcome State Fault Refusal :=
  request p t .watch (judgeWatch ⟨p, t⟩ timeout.toNat items) s

end Sys2Proof.Machine
end

