-- ==== Sys2Proof/Machine/Time.lean ====
section
/-! DEFINITION. Events of the time base: the tick (R106) and the expiry of the countdowns it brings to 0. The several expiries of one
block at one tick are taken one by one in the block's order: each expiry command takes the first. -/

namespace Sys2Proof.Machine

open State

/-! ## The tick -/

/-- A member at a tick (R100). -/
def Head.ticked : Head → Head
  | .joined m => .joined { m with liveness := m.liveness - 1 }
  | .absent => .absent
  | .lapsed i => .lapsed i

/-- A grant at a tick (R63). -/
def Grant.ticked (g : Grant) : Grant :=
  match g.state with
  | .staged c => { g with state := .staged (c - 1) }
  | .binding => g

/-- A lease record at a tick (R82). -/
def Lease.ticked (l : Lease) : Lease :=
  match l.hold with
  | .recalling h c => { l with hold := .recalling h (c - 1) }
  | .free => l
  | .held _ => l
  | .orphaned => l

/-- The stall countdown at a tick (R120). -/
def Stall.ticked : Stall → Stall
  | .stopped => .stopped
  | .quiet c => .quiet (c - 1)
  | .warned c t => .warned (c - 1) t

/-- Every running countdown falls by one; the period that ends is the old one, the next is the one in force (R106, R107). -/
def tickAll (s : State) : State :=
  { s with
    heads := mapAt Head.ticked s.heads
    grants := s.grants.map (fun e => (e.1, e.2.ticked))
    leases := s.leases.map (fun e => (e.1, e.2.ticked))
    stall := s.stall.ticked
    watches := s.watches.map (fun w => { w with countdown := w.countdown - 1 })
    runningPeriod := s.timing.period }

/-- TICK (R106). -/
def execTick (s : State) : Host.Outcome State Fault Refusal := event tickAll s

/-! ## Expiries -/

/-- A head whose liveness countdown has expired (R100). -/
def Head.expired : Head → Bool
  | .joined m => decide (m.liveness = 0)
  | .absent => false
  | .lapsed _ => false

/-- The lowest head whose liveness countdown has expired lapses (R100, R106). -/
def expireLiveness (s : State) : State :=
  match allPorts.find? (fun p => (s.heads.get p).expired) with
  | some p => lapse p s
  | none => s

/-- LIVENESS_EXPIRY (R100). -/
def execLivenessExpiry (s : State) : Host.Outcome State Fault Refusal := event expireLiveness s

/-- A STAGED grant whose countdown has expired (R63). -/
def Grant.expired (g : Grant) : Bool := decide (g.state = .staged 0)

/-- The lowest grant whose countdown has expired is dropped, with no originator (R63, R65, R66, R109). -/
def expireGrant (s : State) : State :=
  match s.grants.find? (fun e => e.2.expired) with
  | some e => dropGrant none e.1 s
  | none => s

/-- GRANT_EXPIRY (R63). -/
def execGrantExpiry (s : State) : Host.Outcome State Fault Refusal := event expireGrant s

/-- The holder whose recall countdown has expired (R83). -/
def Hold.expired? : Hold → Option Port
  | .recalling h 0 => some h
  | .recalling _ (_ + 1) => none
  | .free => none
  | .held _ => none
  | .orphaned => none

/-- A recall has expired: the holder's STAGED grants on the volume are dropped, the lease passes to the first waiter, the
former holder is sent LEASE_LOST (R83). -/
def recallFrom (v : Nat) (h : Port) (s : State) : State :=
  addNotice h (.leaseLost v) (loseLease v false .free (dropGrants none (stagedOn s h v) s))

/-- The recall of the lowest volume whose countdown has expired is carried out (R83). -/
def expireRecall (s : State) : State :=
  match s.leases.findSome? (fun e => e.2.hold.expired?.map (fun h => (e.1, h))) with
  | some r => recallFrom r.1 r.2 s
  | none => s

/-- RECALL_EXPIRY (R83). -/
def execRecallExpiry (s : State) : Host.Outcome State Fault Refusal := event expireRecall s

/-- A member below a tag takes stage DUE (R121). -/
def Head.warned (tag : Gen) : Head → Head
  | .joined m => .joined { m with due := m.due || decide (m.ack.toNat < tag.toNat) }
  | .absent => .absent
  | .lapsed i => .lapsed i

/-- The head holds back a batch of this tag. -/
def Head.lags (tag : Gen) : Head → Bool
  | .joined m => decide (m.ack.toNat < tag.toNat)
  | .absent => false
  | .lapsed _ => false

/-- The stall countdown has expired in phase QUIET (R121): the lagging heads are DUE and sent ACK_DUE, the phase is WARNED,
the countdown loaded. -/
def warnLagging (tag : Gen) (s : State) : State :=
  let lagging := allPorts.filter (fun p => (s.heads.get p).lags tag)
  lagging.foldl (fun s p => addNotice p (.ackDue tag) s)
    { s with heads := mapAt (Head.warned tag) s.heads, stall := .warned s.timing.grace tag }

/-- The first stall expiry (R121). -/
def expireQuiet (s : State) : State :=
  match s.stall, s.grace with
  | .quiet 0, b :: _ => warnLagging b.tag s
  | .quiet 0, [] => s
  | .quiet (_ + 1), _ => s
  | .stopped, _ => s
  | .warned _ _, _ => s

/-- STALL_EXPIRY_QUIET (R121). -/
def execStallExpiryQuiet (s : State) : Host.Outcome State Fault Refusal := event expireQuiet s

/-- Every head still DUE lapses, in ascending port number, each lapse in full before the next (R122). -/
def evictDue (s : State) : State :=
  allPorts.foldl (fun s p => if (s.heads.get p).isDue then lapse p s else s) s

/-- The second stall expiry (R122). -/
def expireWarned (s : State) : State :=
  match s.stall with
  | .warned 0 _ => evictDue s
  | .warned (_ + 1) _ => s
  | .stopped => s
  | .quiet _ => s

/-- STALL_EXPIRY_WARNED (R122). -/
def execStallExpiryWarned (s : State) : Host.Outcome State Fault Refusal := event expireWarned s

/-- A watch ends with UNCHANGED (R171). -/
def timeoutWatch (w : Watch) (s : State) : State :=
  answer ⟨w.port, w.tag⟩ RequestKind.watch.code .unchanged (.watched (w.items.map (watchReport s)))
    { s with watches := s.watches.filter (fun x => decide (¬ (x.port = w.port ∧ x.tag = w.tag))) }

/-- The first watch whose countdown has expired, in ascending port and tag, is answered (R171). -/
def expireWatch (s : State) : State :=
  match s.watches.find? (fun w => decide (w.countdown = 0)) with
  | some w => timeoutWatch w s
  | none => s

/-- WATCH_TIMEOUT (R171). -/
def execWatchTimeout (s : State) : Host.Outcome State Fault Refusal := event expireWatch s

end Sys2Proof.Machine
end

