-- ==== Sys2Proof/Machine/Volumes.lean ====
section
/-! DEFINITION. Chapter 1 requests, on volumes and tenants, and Unmap (chapter 6) on arrival. -/

namespace Sys2Proof.Machine

open State

/-- CreateVolume on arrival (R18): every id but one that is DELETING passes R3. -/
def judgeCreate (o : Origin) (v t : Nat) (pool : Byte) (size : Nat) (mode : Byte) (s : State) : State :=
  if Config.lastVolume < v then refuse o .createVolume .badForm s
  else if (s.volume v).state = .deleting then refuse o .createVolume .volumeState s
  else
    match poolOf pool, modeOf mode with
    | some p, some m =>
      if Config.lastTenant < t then refuse o .createVolume .badForm s
      else if size = 0 ∨ Config.maxExtents < size then refuse o .createVolume .range s
      else unlessFrozen o .createVolume (enqueue (.createVolume v t p size m) o) s
    | some _, none => refuse o .createVolume .badForm s
    | none, _ => refuse o .createVolume .badForm s

/-- CREATE_VOLUME. -/
def execCreateVolume (p : Port) (t : Tag) (volume tenant : BitVec 16) (pool : Byte) (size : BitVec 32) (mode : Byte)
    (s : State) : Host.Outcome State Fault Refusal :=
  request p t .createVolume (judgeCreate ⟨p, t⟩ volume.toNat tenant.toNat pool size.toNat mode) s

/-- DELETE_VOLUME on arrival (R22). -/
def execDeleteVolume (p : Port) (t : Tag) (volume : BitVec 16) (s : State) : Host.Outcome State Fault Refusal :=
  request p t .deleteVolume
    (onVolume ⟨p, t⟩ .deleteVolume volume.toNat
      (unlessFrozen ⟨p, t⟩ .deleteVolume (enqueue (.deleteVolume volume.toNat) ⟨p, t⟩))) s

/-- ResizeVolume on arrival, after R3 (R19). -/
def judgeResize (o : Origin) (v size : Nat) (s : State) : State :=
  if size = 0 ∨ Config.maxExtents < size then refuse o .resizeVolume .range s
  else unlessFrozen o .resizeVolume (enqueue (.resizeVolume v size) o) s

/-- RESIZE_VOLUME. -/
def execResizeVolume (p : Port) (t : Tag) (volume : BitVec 16) (size : BitVec 32) (s : State) :
    Host.Outcome State Fault Refusal :=
  request p t .resizeVolume (onVolume ⟨p, t⟩ .resizeVolume volume.toNat (judgeResize ⟨p, t⟩ volume.toNat size.toNat)) s

/-- SetVolumeMode on arrival, after R3 (R20). -/
def judgeMode (o : Origin) (v : Nat) (mode : Byte) (s : State) : State :=
  match modeOf mode with
  | none => refuse o .setVolumeMode .badForm s
  | some m => unlessFrozen o .setVolumeMode (enqueue (.setVolumeMode v m) o) s

/-- SET_VOLUME_MODE. -/
def execSetVolumeMode (p : Port) (t : Tag) (volume : BitVec 16) (mode : Byte) (s : State) :
    Host.Outcome State Fault Refusal :=
  request p t .setVolumeMode (onVolume ⟨p, t⟩ .setVolumeMode volume.toNat (judgeMode ⟨p, t⟩ volume.toNat mode)) s

/-- What QueryVolume reports (R21). -/
def volumeBody (s : State) (v : Nat) : AnswerBody :=
  let r := s.volume v
  let l := s.lease v
  .volume r.state r.tenant r.pool r.size r.mapped r.pending r.latch l.hold.view l.epoch l.wanted
    (r.deletion.map Deletion.paused)

/-- QueryVolume (R21): answered for a DELETING volume too; the latch is cleared after the answer is formed (R12). -/
def judgeQueryVolume (o : Origin) (v : Nat) (clear : Byte) (s : State) : State :=
  if Config.lastVolume < v then refuse o .queryVolume .badForm s
  else if (s.volume v).state = .absent then refuse o .queryVolume .noVolume s
  else
    match flagOf clear with
    | none => refuse o .queryVolume .badForm s
    | some c =>
      let s := answer o RequestKind.queryVolume.code .done (volumeBody s v) s
      if c then setLatch v false s else s

/-- QUERY_VOLUME (R21). Its rule names no outcome; the answer's is DONE (log 43). -/
def execQueryVolume (p : Port) (t : Tag) (volume : BitVec 16) (clear : Byte) (s : State) :
    Host.Outcome State Fault Refusal :=
  request p t .queryVolume (judgeQueryVolume ⟨p, t⟩ volume.toNat clear) s

/-- SetTenant on arrival (R6). -/
def judgeSetTenant (o : Origin) (t : Nat) (quota : BitVec 32) (s : State) : State :=
  if Config.lastTenant < t then refuse o .setTenant .badForm s
  else if (match quotaOf quota with
      | none => false
      | some q => decide (Config.maxTotal < q)) then refuse o .setTenant .range s
  else unlessFrozen o .setTenant (enqueue (.setTenant t (quotaOf quota)) o) s

/-- SET_TENANT. -/
def execSetTenant (p : Port) (t : Tag) (tenant : BitVec 16) (quota : BitVec 32) (s : State) :
    Host.Outcome State Fault Refusal :=
  request p t .setTenant (judgeSetTenant ⟨p, t⟩ tenant.toNat quota) s

/-- QueryTenant (R7). -/
def judgeQueryTenant (o : Origin) (t : Nat) (s : State) : State :=
  if Config.lastTenant < t then refuse o .queryTenant .badForm s
  else
    let r := s.tenant t
    answer o RequestKind.queryTenant.code .done (.tenant r.quota r.used r.pending r.headroom) s

/-- QUERY_TENANT (R7). Its rule names no outcome; the answer's is DONE (log 43). -/
def execQueryTenant (p : Port) (t : Tag) (tenant : BitVec 16) (s : State) : Host.Outcome State Fault Refusal :=
  request p t .queryTenant (judgeQueryTenant ⟨p, t⟩ tenant.toNat) s

/-- The report on one index of a Resolve run: the first row of Table 1-4 whose condition holds (R14). -/
def indexReport (s : State) (v i : Nat) : IndexReport :=
  if (v, i) ∈ s.poison then .poisoned
  else
    match s.entry? v i with
    | some e =>
      match s.relocationOf v i with
      | some g =>
        match g.2.extents with
        | x :: _ => .moving e.placement x.2 e.unwritten (decide (g.2.state = .binding))
        | [] => .mapped e.placement e.unwritten
      | none => .mapped e.placement e.unwritten
    | none =>
      match s.allocationOf v i with
      | some g => .pending (decide (g.2.state = .binding)) g.2.owner
      | none => .unmapped

/-- What Resolve reports (R13). -/
def resolveBody (s : State) (v first count : Nat) : AnswerBody :=
  let l := s.lease v
  .resolved ((runIndices first count).map (indexReport s v)) (s.volume v).state (s.volume v).size l.hold.view l.epoch
    l.wanted

/-- Resolve after R3 (R13, R15). Where its read freezes the part, its own answer is handed over after the freeze's answers and settled
batches, with the G and the lease that they leave (log 8). -/
def judgeResolve (o : Origin) (v first count : Nat) (reads : Reads) (s : State) : State :=
  if count = 0 ∨ 64 < count then refuse o .resolve .badForm s
  else if !runBelow first count (s.volume v).size then refuse o .resolve .range s
  else
    let s := resolveCells v (cellReads v (fun i => decide (first ≤ i ∧ i < first + count)) reads) s
    answer o RequestKind.resolve.code .done (resolveBody s v first count) s

/-- RESOLVE (R13, R15). Its rule names no outcome; the answer's is DONE (log 43). -/
def execResolve (p : Port) (t : Tag) (volume : BitVec 16) (first : BitVec 32) (count : Byte) (reads : Reads) (s : State) :
    Host.Outcome State Fault Refusal :=
  request p t .resolve
    (onVolume ⟨p, t⟩ .resolve volume.toNat (judgeResolve ⟨p, t⟩ volume.toNat first.toNat count.toNat reads)) s

/-- NoteWritten of an empty set, answered at once (R16), without a check of the state or of the lease: on a READ_ONLY volume, where
R20 has it refused, and on one whose lease is ORPHANED, where R88 has it refused, the answer is that of R16 (log 38). The wanted
indication, which R72 gives for the holder, is sent to any head (log 47). -/
def noteNothing (o : Origin) (v i : Nat) (reads : Reads) (s : State) : State :=
  if (s.volume v).size ≤ i then refuse o .noteWritten .range s
  else
    match readCells v (cellReads v (fun j => decide (j = i)) reads) s with
    | (s, false) => refuse o .noteWritten .frozen s
    | (s, true) =>
      match s.entry? v i with
      | none => refuse o .noteWritten .notMapped s
      | some e => answer o RequestKind.noteWritten.code .done (.noted e.unwritten (s.lease v).wanted) s

/-- NoteWritten on arrival, after R3 (R16). -/
def judgeNoteWritten (o : Origin) (v i : Nat) (written : Mask) (reads : Reads) (s : State) : State :=
  unlessFrozen o .noteWritten
    (fun s => if written = 0 then noteNothing o v i reads s else enqueue (.noteWritten v i written) o s) s

/-- NOTE_WRITTEN. -/
def execNoteWritten (p : Port) (t : Tag) (volume : BitVec 16) (index : BitVec 32) (written : Mask) (reads : Reads)
    (s : State) : Host.Outcome State Fault Refusal :=
  request p t .noteWritten
    (onVolume ⟨p, t⟩ .noteWritten volume.toNat (judgeNoteWritten ⟨p, t⟩ volume.toNat index.toNat written reads)) s

/-- Unmap on arrival, after the FROZEN check and R3 (R116). -/
def judgeUnmap (o : Origin) (v first count : Nat) (s : State) : State :=
  if count = 0 ∨ Config.removalLimit < count then refuse o .unmap .badForm s
  else enqueue (.unmap v first count) o s

/-- UNMAP. -/
def execUnmap (p : Port) (t : Tag) (volume : BitVec 16) (first : BitVec 32) (count : BitVec 16) (s : State) :
    Host.Outcome State Fault Refusal :=
  request p t .unmap
    (unlessFrozen ⟨p, t⟩ .unmap
      (onVolume ⟨p, t⟩ .unmap volume.toNat (judgeUnmap ⟨p, t⟩ volume.toNat first.toNat count.toNat))) s

end Sys2Proof.Machine
end

