-- ==== Sys2Proof/Machine/Dispatch.lean ====
section
/-! DEFINITION. exec: one arm per command, each one call of its meaning. -/

namespace Sys2Proof.Machine

/-- The effect of a command on everything but the queue. -/
def exec (i : Instr) (s : State) : Host.Outcome State Fault Refusal :=
  match i with
  | .join p t incarnation => Sys2Proof.Machine.execJoin p t incarnation s
  | .renew p t incarnation ack => Sys2Proof.Machine.execRenew p t incarnation ack s
  | .leave p t => Sys2Proof.Machine.execLeave p t s
  | .configure p t period liveTicks grantTicks recallTicks graceTicks => Sys2Proof.Machine.execConfigure p t period liveTicks grantTicks recallTicks graceTicks s
  | .queryPart p t => Sys2Proof.Machine.execQueryPart p t s
  | .queryFaults p t => Sys2Proof.Machine.execQueryFaults p t s
  | .clearFault p t source => Sys2Proof.Machine.execClearFault p t source s
  | .claim p t volume wait recallFlag => Sys2Proof.Machine.execClaim p t volume wait recallFlag s
  | .release p t volume => Sys2Proof.Machine.execRelease p t volume s
  | .createVolume p t volume tenant pool size mode => Sys2Proof.Machine.execCreateVolume p t volume tenant pool size mode s
  | .deleteVolume p t volume => Sys2Proof.Machine.execDeleteVolume p t volume s
  | .resizeVolume p t volume size => Sys2Proof.Machine.execResizeVolume p t volume size s
  | .setVolumeMode p t volume mode => Sys2Proof.Machine.execSetVolumeMode p t volume mode s
  | .queryVolume p t volume clear => Sys2Proof.Machine.execQueryVolume p t volume clear s
  | .setTenant p t tenant quota => Sys2Proof.Machine.execSetTenant p t tenant quota s
  | .queryTenant p t tenant => Sys2Proof.Machine.execQueryTenant p t tenant s
  | .resolve p t volume first count reads => Sys2Proof.Machine.execResolve p t volume first count reads s
  | .noteWritten p t volume index written reads => Sys2Proof.Machine.execNoteWritten p t volume index written reads s
  | .unmap p t volume first count => Sys2Proof.Machine.execUnmap p t volume first count s
  | .reserve p t volume first count reads => Sys2Proof.Machine.execReserve p t volume first count reads s
  | .bind p t grant serial check advance written => Sys2Proof.Machine.execBind p t grant serial check advance written s
  | .abandon p t grant serial => Sys2Proof.Machine.execAbandon p t grant serial s
  | .relocate p t volume index reads => Sys2Proof.Machine.execRelocate p t volume index reads s
  | .completeRelocate p t grant serial check => Sys2Proof.Machine.execCompleteRelocate p t grant serial check s
  | .addSpan p t span pool length => Sys2Proof.Machine.execAddSpan p t span pool length s
  | .drainSpan p t span setting => Sys2Proof.Machine.execDrainSpan p t span setting s
  | .removeSpan p t span => Sys2Proof.Machine.execRemoveSpan p t span s
  | .setPool p t pool warn critical floor => Sys2Proof.Machine.execSetPool p t pool warn critical floor s
  | .queryPool p t pool => Sys2Proof.Machine.execQueryPool p t pool s
  | .watch p t timeout items => Sys2Proof.Machine.execWatch p t timeout items s
  | .unknownRequestKind p t code body => Sys2Proof.Machine.execUnknownRequestKind p t code body s
  | .frameDamaged p frame => Sys2Proof.Machine.execFrameDamaged p frame s
  | .powerOn boot => Sys2Proof.Machine.execPowerOn boot s
  | .lineReset boot => Sys2Proof.Machine.execLineReset boot s
  | .linkUp p => Sys2Proof.Machine.execLinkUp p s
  | .linkDown p => Sys2Proof.Machine.execLinkDown p s
  | .answerSent p => Sys2Proof.Machine.execAnswerSent p s
  | .noticeDelivered p => Sys2Proof.Machine.execNoticeDelivered p s
  | .tick => Sys2Proof.Machine.execTick s
  | .livenessExpiry => Sys2Proof.Machine.execLivenessExpiry s
  | .grantExpiry => Sys2Proof.Machine.execGrantExpiry s
  | .recallExpiry => Sys2Proof.Machine.execRecallExpiry s
  | .stallExpiryQuiet => Sys2Proof.Machine.execStallExpiryQuiet s
  | .stallExpiryWarned => Sys2Proof.Machine.execStallExpiryWarned s
  | .watchTimeout => Sys2Proof.Machine.execWatchTimeout s
  | .validate queue reads => Sys2Proof.Machine.execValidate queue reads s
  | .logSlotTaken => Sys2Proof.Machine.execLogSlotTaken s
  | .logWriteAck slot => Sys2Proof.Machine.execLogWriteAck slot s
  | .applyStart => Sys2Proof.Machine.execApplyStart s
  | .effectWriteAck corrected => Sys2Proof.Machine.execEffectWriteAck corrected s
  | .retireAck reads => Sys2Proof.Machine.execRetireAck s reads
  | .storeWriteFailed target => Sys2Proof.Machine.execStoreWriteFailed target s
  | .recoveryReplayIntent reads => Sys2Proof.Machine.execRecoveryReplayIntent reads s
  | .recoverySweep reads => Sys2Proof.Machine.execRecoverySweep reads s
  | .recoveryEnd => Sys2Proof.Machine.execRecoveryEnd s
  | .deletionAdmitted reads => Sys2Proof.Machine.execDeletionAdmitted s reads
  | .effectReadUncorrectable => Sys2Proof.Machine.execEffectReadUncorrectable s

end Sys2Proof.Machine
end

