-- ==== Sys2Proof/Safety.lean ====
section
/-! DEFINITION. The laws that every state of a run obeys, and the words that the obligations are written in. -/

namespace Sys2Proof.Machine

/-! ## Laws of a state -/

/-- A port's fence line is released exactly when its head is JOINED (R94). -/
def fenceLaw (s : State) : Prop := ∀ p : Port, s.fences.get p = .released ↔ s.joined p = true

/-- A lease record's waiters are distinct ports, none of them the holder; a record without a holder has no waiter; it is
RECALLING exactly when a waiter carries a recall mark (Table 4-1, R79, R82). -/
def Lease.lawful (l : Lease) : Prop :=
  (l.waiters.map Waiter.port).Nodup ∧
  (∀ w ∈ l.waiters, l.hold.holder? ≠ some w.port) ∧
  (l.hold.holder? = none → l.waiters = []) ∧
  l.hold.isRecalling = l.waiters.any Waiter.marked

/-- Every lease record is lawful. -/
def leaseLaw (s : State) : Prop := ∀ v : Nat, (s.lease v).lawful

/-- The sparse tables, of the part and of the map store, have their one canonical form: keys strictly rising, and nothing listed
at a value that an unlisted key has. -/
def tablesLaw (s : State) : Prop :=
  Table.wfD .absent s.volumes = true ∧ Table.wfD .fresh s.tenants = true ∧
  Table.wfD [] s.maps = true ∧ (∀ e ∈ s.maps, Table.wf e.2 = true) ∧
  Table.wf s.grants = true ∧ Table.wfD .fresh s.leases = true ∧ Table.wfD .empty s.queues = true ∧
  Table.wfD .absent s.store.volumes = true ∧ Table.wf s.store.quotas = true ∧
  Table.wfD [] s.store.cells = true ∧ (∀ e ∈ s.store.cells, Table.wf e.2 = true) ∧ Table.wf s.store.slots = true

/-- Every STAGED grant belongs to the head that holds its volume's lease and carries that lease's epoch (R48). -/
def stagedLaw (s : State) : Prop :=
  ∀ e ∈ s.grants, e.2.isStaged = true →
    (s.lease e.2.volume).hold.holder? = some e.2.owner ∧ (s.lease e.2.volume).epoch = e.2.epoch

/-- A notice set holds at most 64 notices (R174). -/
def noticeLaw (s : State) : Prop := ∀ p : Port, (s.ports.get p).notices.length ≤ Config.noticePlaces

/-! The law of the volumes that R48 rests on: what is under way on a volume, and what it leaves room for. -/

/-- The change queues whose front is held: by an intent without a slot or in the log, or by a deletion that is due or paused
(R142, R24). -/
def heldQueues (s : State) : List QueueId :=
  (liveIntents s).map Intent.queue ++ (s.deletionsDue ++ s.admissionWait).map QueueId.volume

/-- The intent's one effect is a SET_VOLUME of the volume whose queue it holds, to a state that passes `f`. -/
def Intent.writesState (f : VolState → Bool) (i : Intent) : Bool :=
  match i.queue, i.effects with
  | .volume v, [.setVolume w st _ _ _] => decide (w = v) && f st
  | _, _ => false

/-- An intent that writes a volume's state writes that of its own volume, as its kind asks (Table 8-3). -/
def Intent.lawful (i : Intent) : Bool :=
  match i.kind with
  | .volumeCreate => i.writesState (fun st => decide (st ≠ .absent))
  | .volumeMode _ => i.writesState (fun st => decide (st ≠ .absent))
  | .deleteMark => i.writesState (fun st => decide (st = .deleting))
  | .deleteEnd => i.writesState (fun st => decide (st = .absent))
  | .deleteBatch => decide (i.queue ≠ .shelf)
  | .volumeResize _ _ | .note _ | .trim _ | .bind _ _ | .move _ | .tenant _ | .span _ _ _ | .pool _ | .config _ => true

/-- A waiting request stands in its own queue, and no request asks for the state ABSENT (R18, R20, R141). -/
def Request.lawful (q : QueueId) (r : Request) : Bool :=
  decide (r.queue = q) &&
  (match r with
   | .createVolume _ _ _ _ mode => decide (mode ≠ .absent)
   | .setVolumeMode _ mode => decide (mode ≠ .absent)
   | _ => true)

/-- An intent of this kind holds the volume's queue. -/
def holdsQueue (s : State) (v : Nat) (kind : IntentKind) : Prop :=
  ∃ i ∈ liveIntents s, i.queue = .volume v ∧ i.kind = kind

/-- The deletion of the volume is past the DONE of its mark (R23): it is due, paused, or has its removal or ending intent
under way. -/
def removes (s : State) (v : Nat) : Prop :=
  v ∈ s.deletionsDue ∨ v ∈ s.admissionWait ∨ holdsQueue s v .deleteBatch ∨ holdsQueue s v .deleteEnd

/-- While RECOVERING nothing is under way. While SERVING each queue's front is held at most once; a volume that is to be created is
ABSENT until its record is written; a deletion has its record and its volume is DELETING, or ABSENT at its end; and a STAGED
grant names a volume that exists and whose deletion is not past the DONE of its mark (R18, R22 to R25, R67, R142). -/
def volumeLaw (s : State) : Prop :=
  (s.mode = .recovering → s.log = [] ∧ s.logWait = [] ∧ s.queues = [] ∧ s.shelf = .empty ∧ s.grants = [] ∧
    s.deletionsDue = [] ∧ s.admissionWait = []) ∧
  (s.mode = .serving →
    (heldQueues s).Nodup ∧ (∀ q ∈ heldQueues s, (s.queue q).flight ≠ none) ∧
    (∀ q, ∀ i ∈ (s.queue q).waiting, i.request.lawful q = true) ∧
    (∀ i ∈ liveIntents s, i.lawful = true) ∧
    (∀ i ∈ s.logWait, i.kind = .volumeCreate → ∀ v, i.queue = .volume v → (s.volume v).state = .absent) ∧
    (∀ l ∈ s.log, l.applied = 0 → l.intent.kind = .volumeCreate →
      ∀ v, l.intent.queue = .volume v → (s.volume v).state = .absent) ∧
    (∀ v, removes s v ∨ holdsQueue s v .deleteMark →
      (s.volume v).deletion ≠ none ∧ ((s.volume v).state = .deleting ∨ (s.volume v).state = .absent)) ∧
    (∀ e ∈ s.grants, e.2.isStaged = true → (s.volume e.2.volume).state ≠ .absent ∧ ¬ removes s e.2.volume))

/-- The tags of the grace list rise, none above G; no acknowledged generation is above G (R96, R99, R110). While RECOVERING there is
no batch, no grant and no member. -/
def generationLaw (s : State) : Prop :=
  (s.mode = .recovering → s.grace = [] ∧ s.grants = [] ∧ ∀ p, s.joined p = false) ∧
  (s.grace.map (fun b => b.tag.toNat)).Pairwise (· < ·) ∧ (∀ b ∈ s.grace, b.tag.toNat ≤ s.generation.toNat) ∧
  (∀ p m, s.heads.get p = .joined m → m.ack.toNat ≤ s.generation.toNat)

/-- The most batches that one step can form: of the grants, of the intents under way, of the deletions and of the requests that
wait. -/
def batchBound (s : State) : Nat :=
  s.grants.length + (liveIntents s).length + s.deletionsDue.length + s.admissionWait.length +
    (s.queues.map (fun e => e.2.waiting.length)).sum

/-- The forming batches that a promise is outstanding for (R110, R113): of the intents under way, of the CompleteRelocates that
wait, of the deletions that have been granted admission. -/
def formingCount (s : State) : Nat :=
  ((liveIntents s).filterMap Intent.forming).length +
    (s.queues.map (fun e => (e.2.waiting.filterMap (fun i => i.request.forming?)).length)).sum +
    (s.deletionsDue.filter (fun v => !ending s v)).length

/-- A grant stands in one of the 1024 records; the admission count and the live grants are at most 4096 together; every forming
batch has its promise; and a deletion is paused only at the admission limit (R46, R113 to R115). -/
def admissionLaw (s : State) : Prop :=
  (∀ e ∈ s.grants, e.1 < Config.grantRecords) ∧ s.admission + s.grants.length ≤ 4096 ∧ formingCount s ≤ s.promises ∧
  (s.admissionWait = [] ∨ Config.admissionLimit ≤ s.admission)

/-- The counts of every pool balance, and its level is the one that its allocatable count gives (R35, R37). -/
def poolLaw (s : State) : Prop :=
  ∀ k, (s.pools.get k).capacity =
      (s.pools.get k).free + (s.pools.get k).reserved + (s.pools.get k).used + (s.pools.get k).grace ∧
    (s.pools.get k).level = (s.pools.get k).judged

/-! ## Words of the statements -/

/-- The event before is finished: no step is due inside it (log 4). -/
def settled (s : State) : Prop := due? s = none

/-- A request frame on a port and a tag is received: the link is UP and the tag's slot FREE (R180 steps 1 to 4). -/
def hears (s : State) (p : Port) (t : Tag) : Prop :=
  settled s ∧ s.linkUp p = true ∧ (s.ports.get p).busy.get t = false

/-- A request frame is received and goes to its own rule: not RECOVERING, and its head is JOINED (R95). -/
def admits (s : State) (p : Port) (t : Tag) : Prop :=
  hears s p t ∧ s.mode ≠ .recovering ∧ s.joined p = true

/-- The state in which a request has been taken on its tag, and nothing else has changed (R179). -/
def taken (p : Port) (t : Tag) (s : State) : State :=
  { s with ports := putAt s.ports p { s.ports.get p with busy := putAt (s.ports.get p).busy t true } }

/-- The state in which a request has been taken on its tag and answered, and nothing else has changed. -/
def answered (p : Port) (t : Tag) (code : Byte) (outcome : AnswerOutcome) (body : AnswerBody) (s : State) : State :=
  { s with
    ports := putAt s.ports p
      { s.ports.get p with
        busy := putAt (s.ports.get p).busy t true
        answers := (s.ports.get p).answers ++ [⟨t, code, outcome, s.generation, body⟩] } }

/-- The state in which a durable request has been taken and stands at the end of its change queue, and nothing else has
changed (R141). -/
def queued (r : Request) (p : Port) (t : Tag) (s : State) : State :=
  (taken p t s).setQueue r.queue
    { s.queue r.queue with waiting := (s.queue r.queue).waiting ++ [⟨r, some ⟨p, t⟩⟩] }

/-- The state in which a request that waited has been answered on its port and tag, and nothing else has changed. -/
def told (p : Port) (t : Tag) (code : Byte) (outcome : AnswerOutcome) (body : AnswerBody) (s : State) : State :=
  { s with
    ports := putAt s.ports p
      { s.ports.get p with answers := (s.ports.get p).answers ++ [⟨t, code, outcome, s.generation, body⟩] } }

/-- No change queue but this one differs. -/
def otherQueues (q : QueueId) (s u : State) : Prop := ∀ x, x ≠ q → u.queue x = s.queue x

/-- The front of a change queue has formed an intent, which waits for its log slot and holds the front in flight (R142). -/
def forms (rest : List Item) (flight : Flight) (i : Intent) (s u : State) : Prop :=
  u.queue i.queue = ⟨some flight, rest⟩ ∧ otherQueues i.queue s u ∧ u.logWait = s.logWait ++ [i]

/-- The front of a change queue has been answered at its validation, and nothing else has changed (R142). -/
def endsFront (q : QueueId) (rest : List Item) (p : Port) (t : Tag) (code : Byte) (outcome : AnswerOutcome)
    (body : AnswerBody) (s u : State) : Prop :=
  u.queue q = ⟨none, rest⟩ ∧ otherQueues q s u ∧
  u = { told p t code outcome body s with queues := u.queues, shelf := u.shelf }

/-- A volume that passes the checks of R3. -/
def named (s : State) (v : Nat) : Prop :=
  v ≤ Config.lastVolume ∧ ((s.volume v).state = .active ∨ (s.volume v).state = .readOnly)

/-- Why a request that names this volume is refused at its arrival (R3). -/
def refusedVolume (s : State) (v : Nat) (r : Reason) : Prop :=
  (4095 < v ∧ r = .badForm) ∨ (v ≤ 4095 ∧ (s.volume v).state = .absent ∧ r = .noVolume) ∨
  (v ≤ 4095 ∧ (s.volume v).state = .deleting ∧ r = .volumeState)

/-- The paused deletions that releases have served between two states, and nothing more of the list, the promises and the
deletions that are due (R114): those at its front, in order, each with its promise. -/
def serves (granted : List Nat) (s u : State) : Prop :=
  s.admissionWait = granted ++ u.admissionWait ∧ u.deletionsDue = s.deletionsDue ++ granted ∧
  u.promises = s.promises + granted.length

/-- A volume record after the paused deletions that were granted admission go on (R24, R114). -/
def unpaused (granted : List Nat) (v : Nat) (r : Volume) : Volume :=
  if v ∈ granted then { r with deletion := r.deletion.map (fun d => { d with paused := false }) } else r

/-- The watches that name a volume have been judged again (R170): each with a differing item has left the list and been answered
CHANGED, with its items as they are then; every other stays. -/
def rejudged (v : Nat) (s u : State) : Prop :=
  u.watches = s.watches.filter (fun w => !watchHit u v w) ∧
  ∀ w ∈ s.watches, watchHit u v w = true → s.linkUp w.port = true →
    ⟨w.tag, 0x60, .changed, u.generation, .watched (w.items.map (watchReport u))⟩ ∈ (u.ports.get w.port).answers

/-- The sweep takes this cell (R44): an entry of a volume that is not ABSENT, placed within a registered span, on an extent that no
earlier cell of the sweep is placed on. -/
def sweepTakes (m : MapStore) (v i : Nat) (e : Entry) : Prop :=
  (Table.getD .absent m.volumes v).state ≠ .absent ∧ Table.get? (m.cellsOf v) i = some e ∧
  (m.spans.get e.placement.span).state ≠ .absent ∧ e.placement.index < (m.spans.get e.placement.span).length ∧
  ∀ w j x, w < v ∨ w = v ∧ j < i → (Table.getD .absent m.volumes w).state ≠ .absent →
    Table.get? (m.cellsOf w) j = some x → x.placement ≠ e.placement

/-- The state after a corrected read of an entry cell (R159, R160): the fault is recorded, and the value is written back unless
the part is FROZEN, recovery has stopped writing, or its write-back is under way. -/
def cellCorrected (v i : Nat) (s : State) : State :=
  { s with
    faults := s.faults.put .mapStore (s.faults.mapStore.take .corrected (.store (.entry v i) s.faultsMet))
    faultsMet := s.faultsMet + 1
    writeBacks := if s.mode = .frozen ∨ s.recovery.writesStopped = true ∨ .entry v i ∈ s.writeBacks then s.writeBacks
      else s.writeBacks ++ [.entry v i] }

/-- An event leaves a port's link, tags and the frame on its line, and only adds answers at the end of its queue; its
notice set may change. -/
def HeadPort.grows (a b : HeadPort) : Prop :=
  b.linkUp = a.linkUp ∧ b.busy = a.busy ∧ b.line = a.line ∧ ∃ rest, b.answers = a.answers ++ rest

/-- An event only adds answers and notices at the ports. -/
def portsGrow (s u : State) : Prop := ∀ p : Port, (s.ports.get p).grows (u.ports.get p)

/-- Nothing of a former member is left: no lease, no place in a waiter queue, no STAGED grant, no watch. -/
def gone (p : Port) (u : State) : Prop :=
  (∀ v, (u.lease v).heldBy p = false ∧ ∀ w ∈ (u.lease v).waiters, w.port ≠ p) ∧
  (∀ e ∈ u.grants, ¬ (e.2.isStaged = true ∧ e.2.owner = p)) ∧
  (∀ w ∈ u.watches, w.port ≠ p)

/-! What an event that drops STAGED grants, or ends a membership, has done between two states. -/

/-- The STAGED grants that meet `f`, ascending. -/
def stagedBy (f : Grant → Bool) (s : State) : Table Grant := s.grants.filter (fun e => e.2.isStaged && f e.2)

/-- The extents of several grants. -/
def extentsOf (l : Table Grant) : Nat := (l.map (fun e => e.2.extents.length)).sum

/-- The run counts of the allocation grants among several. -/
def pendingOf (l : Table Grant) : Nat := ((l.filter (fun e => decide (e.2.kind = .allocate))).map (fun e => e.2.count)).sum

/-- One event has dropped the STAGED grants that meet `f`, ascending, and no other grant has changed (R65, R66, R135): each has raised
G by one and sent its extents, in a batch of its own with that tag, to the newest end of the grace list, which has since lost
batches at its oldest end alone; the reserved counts of the pools and the pending counts of the volumes and tenants have fallen. -/
def drops (f : Grant → Bool) (granted : List Nat) (s u : State) : Prop :=
  u.grants = s.grants.filter (fun e => !(e.2.isStaged && f e.2)) ∧
  u.generation = s.generation + BitVec.ofNat 64 (stagedBy f s).length ∧
  (∃ released, s.grace ++ (stagedBy f s).zipIdx.map (fun e => ⟨s.generation + BitVec.ofNat 64 (e.2 + 1),
    (s.volume e.1.2.volume).pool, e.1.2.extents.map Prod.snd⟩) = released ++ u.grace) ∧
  (∀ k, (u.pools.get k).reserved = (s.pools.get k).reserved -
    extentsOf ((stagedBy f s).filter (fun e => decide ((s.volume e.2.volume).pool = k)))) ∧
  (∀ v, u.volume v = unpaused granted v { s.volume v with
    pending := (s.volume v).pending - pendingOf ((stagedBy f s).filter (fun e => decide (e.2.volume = v))) }) ∧
  (∀ t, u.tenant t = { s.tenant t with
    pending := (s.tenant t).pending -
      pendingOf ((stagedBy f s).filter (fun e => decide ((s.volume e.2.volume).tenant = t))) })

/-- The leases after a member has departed (R79, R82, R85, R86): one that it held without a waiter has this hold at its epoch; one
with a waiter has passed to the first, whose Claim is answered GRANTED with this orphan flag; every other keeps its holder and epoch
and has lost the member's waiter, a recall with no mark left withdrawn; one at which it did not wait stands. -/
def leasesLeft (p : Port) (left : Hold) (orphan : Bool) (s u : State) : Prop :=
  (∀ v, (s.lease v).heldBy p = true → (s.lease v).waiters = [] → u.lease v = ⟨left, (s.lease v).epoch, []⟩) ∧
  (∀ v w rest, (s.lease v).heldBy p = true → (s.lease v).waiters = w :: rest →
    u.lease v = ⟨if rest.any Waiter.marked then .recalling w.port s.timing.recallTicks else .held w.port,
      (s.lease v).epoch + 1, rest⟩ ∧
    (s.linkUp w.port = true →
      ⟨w.tag, 0x10, .granted, u.generation, .leased v ((s.lease v).epoch + 1) (!rest.isEmpty) orphan⟩ ∈
        (u.ports.get w.port).answers)) ∧
  (∀ v, (s.lease v).heldBy p = false →
    (u.lease v).hold.holder? = (s.lease v).hold.holder? ∧ (u.lease v).epoch = (s.lease v).epoch ∧
    (u.lease v).waiters = (s.lease v).waiters.filter (fun w => decide (w.port ≠ p)) ∧
    (u.lease v).hold.isRecalling = (u.lease v).waiters.any Waiter.marked ∧
    ((u.lease v).hold.isRecalling = true → (u.lease v).hold = (s.lease v).hold) ∧
    ((∀ w ∈ (s.lease v).waiters, w.port ≠ p) → u.lease v = s.lease v))

/-- The watches after a member has departed (R170, R172): those that name a lease it held and differ there have been answered CHANGED,
its others have ended with this reason, and every other stands. -/
def watchesLeft (p : Port) (r : Reason) (s u : State) : Prop :=
  u.watches = s.watches.filter (fun w => decide (w.port ≠ p) && !(heldVolumes s p).any (fun v => watchHit u v w)) ∧
  ∀ w ∈ s.watches, s.linkUp w.port = true →
    ((heldVolumes s p).any (fun v => watchHit u v w) = true →
      ∃ a ∈ (u.ports.get w.port).answers, a.tag = w.tag ∧ a.code = 0x60#8 ∧ a.outcome = .changed) ∧
    (w.port = p → (heldVolumes s p).any (fun v => watchHit u v w) = false →
      ⟨w.tag, 0x60, .refused r, u.generation, .empty⟩ ∈ (u.ports.get p).answers)

/-- A member has departed, by a Leave or a lapse (R101, R102): nothing of it is left; its STAGED grants have been dropped, its leases
lost, its waiting Claims and watches answered with this reason; the grants, leases, waiters and watches of others stand. -/
def departs (p : Port) (left : Hold) (orphan : Bool) (r : Reason) (granted : List Nat) (s u : State) : Prop :=
  gone p u ∧ drops (fun g => decide (g.owner = p)) granted s u ∧ leasesLeft p left orphan s u ∧ watchesLeft p r s u ∧
  (∀ v, ∀ w ∈ (s.lease v).waiters, w.port = p → s.linkUp p = true →
    ⟨w.tag, 0x10, .refused r, u.generation, .empty⟩ ∈ (u.ports.get p).answers)

/-- A head that is not JOINED is sent no notice (R174). -/
def noNotice (p : Port) (s u : State) : Prop :=
  (u.ports.get p).notices = (s.ports.get p).notices ∧ (u.ports.get p).lost = (s.ports.get p).lost

/-- A JOINED head has lapsed (R102), and what the lapse leaves unchanged. HEAD_LAPSED is pending at every other JOINED head whose
notice set has room for all that the lapse adds. -/
def lapses (p : Port) (m : Member) (granted : List Nat) (s u : State) : Prop :=
  serves granted s u ∧ u.heads = putAt s.heads p (.lapsed m.incarnation) ∧ u.fences = putAt s.fences p .asserted ∧
  departs p .orphaned true .notJoined granted s u ∧
  (∀ q, q ≠ p → s.joined q = true →
    (s.ports.get q).notices.length + (s.leases.filter (fun e => !e.2.waiters.isEmpty)).length +
      3 * (stagedOf s p).length + s.grace.length < 64 →
    .headLapsed p m.incarnation ∈ (u.ports.get q).notices) ∧
  (∀ q, q = p ∨ s.joined q = false → noNotice q s u) ∧ portsGrow s u ∧
  u = { s with
    heads := u.heads, fences := u.fences, ports := u.ports, watches := u.watches, volumes := u.volumes,
    tenants := u.tenants, spans := u.spans, pools := u.pools, grants := u.grants, leases := u.leases,
    generation := u.generation, grace := u.grace, stall := u.stall,
    promises := u.promises, admissionWait := u.admissionWait, deletionsDue := u.deletionsDue }

/-- The eviction has met this head (R122): in stage DUE it has lapsed, else nothing has changed. -/
def evicts (p : Port) (s u : State) : Prop :=
  (∀ m, s.heads.get p = .joined m → m.due = true → ∃ granted, lapses p m granted s u) ∧
  ((s.heads.get p).isDue = false → u = s)

/-! What an intent that is DONE answers. -/

/-- No answer is sent at DONE of this intent: it has lost its port and tag, or the port is DOWN (R150, R151). -/
def unanswered (i : Intent) (s : State) : Prop := ∀ o, i.origin = some o → s.linkUp o.port = false

/-- At DONE this intent is answered and nothing more, but that a configuration comes into force (Table 8-5): the kind code and the
body of its answer. -/
def plainAnswer (s : State) (i : Intent) (code : Byte) (body : AnswerBody) : Prop :=
  (i.kind = .volumeCreate ∧ code = 0x20#8 ∧ body = .empty) ∨
  (∃ a b, i.kind = .volumeResize a b ∧ code = 0x22#8 ∧ body = .resized a b) ∨
  (∃ m, i.kind = .volumeMode m ∧ code = 0x23#8 ∧ body = .modeSet m) ∨
  (∃ v x e, i.kind = .note x ∧ i.queue = .volume v ∧ s.entry? v x = some e ∧ code = 0x31#8 ∧
    body = .noted e.unwritten (s.lease v).wanted) ∨
  (∃ te, i.kind = .tenant te ∧ code = 0x25#8 ∧ body = .tenantSet te (s.tenant te).quota) ∨
  (∃ n k, i.kind = .span .add n k ∧ code = 0x50#8 ∧
    body = .spanAdded n (s.spans.get n).pool (s.spans.get n).length (s.pools.get k).capacity s.registeredTotal) ∨
  (∃ n k, i.kind = .span .drain n k ∧ code = 0x51#8 ∧ body = .spanDrained (s.spans.get n).state (s.spans.get n).freeCount) ∨
  (∃ n k, i.kind = .span .remove n k ∧ code = 0x52#8 ∧ body = .spanRemoved (s.pools.get k).capacity s.registeredTotal) ∨
  (∃ k, i.kind = .pool k ∧ code = 0x53#8 ∧ body = .poolSet (s.pools.get k).settings (s.pools.get k).level) ∨
  (∃ timing, i.kind = .config timing ∧ code = 0x04#8 ∧ body = .configured timing)

/-- The first check of R60 that fails for the follow-on of a Bind, and the reason it gives: grant `n`, `g` has just been bound by the
head `p`, and the run starts below the size of the volume. -/
def followOnFails (p : Port) (n : Nat) (g : Grant) (r : Reason) (s : State) : Prop :=
  let f := g.first + g.count
  let c := min g.count ((s.volume g.volume).size - f)
  let pool := s.pools.get (s.volume g.volume).pool
  (s.joined p = false ∧ r = .notJoined) ∨
  (s.joined p = true ∧ (s.lease g.volume).heldBy p = false ∧ r = .notHolder) ∨
  (s.joined p = true ∧ (s.lease g.volume).heldBy p = true ∧
    (((s.volume g.volume).state ≠ .active ∧ r = .volumeState) ∨
      ((s.volume g.volume).state = .active ∧
        (((∃ i, f ≤ i ∧ i < f + c ∧ s.entry? g.volume i ≠ none) ∧ r = .alreadyMapped) ∨
          ((∀ i, f ≤ i → i < f + c → s.entry? g.volume i = none) ∧
            (((∃ i, f ≤ i ∧ i < f + c ∧ (s.freeGrant n).allocationOf g.volume i ≠ none) ∧ r = .inGrant) ∨
              ((∀ i, f ≤ i → i < f + c → (s.freeGrant n).allocationOf g.volume i = none) ∧
                ((3072 ≤ s.admission ∧ r = .graceFull) ∨
                  (s.admission < 3072 ∧ (s.freeGrant n).freeRecord? = none ∧ r = .noGrantSlot) ∨
                  (s.admission < 3072 ∧ (s.freeGrant n).freeRecord? ≠ none ∧
                    (((pool.allocatable < pool.settings.floor + c ∨ pool.level = .critical) ∧ r = .poolFull) ∨
                      (pool.settings.floor + c ≤ pool.allocatable ∧ pool.level ≠ .critical ∧
                        (s.tenant (s.volume g.volume).tenant).quotaAllows c = false ∧ r = .quota)))))))))))

/-- The volatile state that no reset leaves (R4, R67, R73, R92, R110, R141, R165, R172, R178). -/
def lostAtReset (u : State) : Prop :=
  u.mode = .recovering ∧ u.freezeCause = none ∧ u.poison = [] ∧
  (∀ p, u.heads.get p = .absent ∧ u.fences.get p = .asserted ∧ u.ports.get p = .down) ∧
  u.watches = [] ∧ u.grants = [] ∧ u.serial = 0 ∧ u.leases = [] ∧
  u.grace = [] ∧ u.promises = 0 ∧ u.admissionWait = [] ∧ u.deletionsDue = [] ∧ u.stall = .stopped ∧
  u.queues = [] ∧ u.shelf = .empty ∧ u.logWait = [] ∧ u.log = []

/-- Between two states the port's answer queue has gained this answer, in front of any that the same event added after it. -/
def gains (p : Port) (a : Answer) (s u : State) : Prop :=
  ∃ rest, (u.ports.get p).answers = (s.ports.get p).answers ++ a :: rest

/-- The newest answer that waits at a port. -/
def lastAnswer (p : Port) (a : Answer) (u : State) : Prop := (u.ports.get p).answers.getLast? = some a

/-- The port, tag and kind code of a request frame (Table 11-1); none for any other command. -/
def requestOf : Instr → Option (Port × Tag × Byte)
  | .join p t _ => some (p, t, 0x01)
  | .renew p t _ _ => some (p, t, 0x02)
  | .leave p t => some (p, t, 0x03)
  | .configure p t _ _ _ _ _ => some (p, t, 0x04)
  | .queryPart p t => some (p, t, 0x05)
  | .queryFaults p t => some (p, t, 0x06)
  | .clearFault p t _ => some (p, t, 0x07)
  | .claim p t _ _ _ => some (p, t, 0x10)
  | .release p t _ => some (p, t, 0x11)
  | .createVolume p t _ _ _ _ _ => some (p, t, 0x20)
  | .deleteVolume p t _ => some (p, t, 0x21)
  | .resizeVolume p t _ _ => some (p, t, 0x22)
  | .setVolumeMode p t _ _ => some (p, t, 0x23)
  | .queryVolume p t _ _ => some (p, t, 0x24)
  | .setTenant p t _ _ => some (p, t, 0x25)
  | .queryTenant p t _ => some (p, t, 0x26)
  | .resolve p t _ _ _ _ => some (p, t, 0x30)
  | .noteWritten p t _ _ _ _ => some (p, t, 0x31)
  | .unmap p t _ _ _ => some (p, t, 0x32)
  | .reserve p t _ _ _ _ => some (p, t, 0x40)
  | .bind p t _ _ _ _ _ => some (p, t, 0x41)
  | .abandon p t _ _ => some (p, t, 0x42)
  | .relocate p t _ _ _ => some (p, t, 0x43)
  | .completeRelocate p t _ _ _ => some (p, t, 0x44)
  | .addSpan p t _ _ _ => some (p, t, 0x50)
  | .drainSpan p t _ _ => some (p, t, 0x51)
  | .removeSpan p t _ => some (p, t, 0x52)
  | .setPool p t _ _ _ _ => some (p, t, 0x53)
  | .queryPool p t _ => some (p, t, 0x54)
  | .watch p t _ _ => some (p, t, 0x60)
  | .unknownRequestKind _ _ _ _ => none
  | .frameDamaged _ _ => none
  | .powerOn _ => none
  | .lineReset _ => none
  | .linkUp _ => none
  | .linkDown _ => none
  | .answerSent _ => none
  | .noticeDelivered _ => none
  | .tick => none
  | .livenessExpiry => none
  | .grantExpiry => none
  | .recallExpiry => none
  | .stallExpiryQuiet => none
  | .stallExpiryWarned => none
  | .watchTimeout => none
  | .validate _ _ => none
  | .logSlotTaken => none
  | .logWriteAck _ => none
  | .applyStart => none
  | .effectWriteAck _ => none
  | .retireAck _ => none
  | .storeWriteFailed _ => none
  | .recoveryReplayIntent _ => none
  | .recoverySweep _ => none
  | .recoveryEnd => none
  | .deletionAdmitted _ => none
  | .effectReadUncorrectable => none

/-- What the map store reported for the reads of a request; no bytes of its frame (log 6). -/
def readsOf : Instr → Reads
  | .resolve _ _ _ _ _ r => r
  | .noteWritten _ _ _ _ _ r => r
  | .reserve _ _ _ _ _ r => r
  | .relocate _ _ _ _ r => r
  | _ => []

/-- The command is one of the two resets (R153). -/
def isReset : Instr → Bool
  | .powerOn _ => true
  | .lineReset _ => true
  | _ => false

end Sys2Proof.Machine
end

