-- ==== Sys2Proof/Certificates/Slice0/Obligations.lean ====
section
/-! DEFINITION. The statements for the provers. A statement about one command gives its hypotheses on the state and the
operands alone and concludes that exec answers a next state: either written out, or one u with what it holds and, as a record
update, what it leaves unchanged. -/

open Sys2Proof
open Sys2Proof.Machine
open Sys2Proof.Machine.State

/-! ## The block -/

/-- A step takes the command at the front of the queue and runs it on the state with the queue's rest. -/
def Obligations.StepTakesFrontCommand : Prop :=
  ∀ (c : Instr) (rest : List Instr) (s : State), s.pending = c :: rest →
    step s = exec c { s with pending := rest }

/-- No command ends the machine, and no command changes the queue of the commands that wait (the model's: a command whose event
cannot occur changes nothing, log 5). -/
def Obligations.EveryCommandAnswersNext : Prop :=
  ∀ (c : Instr) (s : State), ∃ u, exec c s = .next u ∧ u.pending = s.pending

/-! ## Laws that every step keeps -/

/-- A port's fence line stays asserted exactly when its head is not JOINED (R94). -/
def Obligations.FenceLawKept : Prop :=
  ∀ s u : State, fenceLaw s → step s = .next u → fenceLaw u

/-- While the part is FROZEN no step but a reset leaves FROZEN, changes the freeze cause, or lets a volume's map gain, lose or
change an entry (R158, R161). -/
def Obligations.FrozenKeepsMaps : Prop :=
  ∀ s u : State, s.mode = .frozen → (∀ c rest, s.pending = c :: rest → isReset c = false) → step s = .next u →
    u.mode = .frozen ∧ u.freezeCause = s.freezeCause ∧ u.maps = s.maps

/-- The sparse tables, of the part and of the map store, and the inner tables of the maps, stay in the one canonical form, the
model's own: keys strictly rising, and nothing listed at a value that an unlisted key has. -/
def Obligations.TablesStayInOrder : Prop :=
  ∀ s u : State, tablesLaw s → step s = .next u → tablesLaw u

/-- A lease keeps at most one holder; its waiters stay distinct ports, never the holder, and none without a holder; it stays
RECALLING exactly while a waiter carries a recall mark (R70, R79, R82). -/
def Obligations.LeaseLawKept : Prop :=
  ∀ s u : State, tablesLaw s → leaseLaw s → step s = .next u → leaseLaw u

/-- Every STAGED grant stays with the head that holds its volume's lease, at the lease's epoch (R48). It rests on the law of the
volumes, which every step keeps too: a volume that is to be created is ABSENT, a STAGED grant names a volume that exists, and
none is left on a volume whose deletion is past its mark (R18, R22 to R25, R142). -/
def Obligations.StagedGrantLawKept : Prop :=
  ∀ s u : State, tablesLaw s → leaseLaw s → volumeLaw s → stagedLaw s → step s = .next u → stagedLaw u ∧ volumeLaw u

/-- A notice set never holds more than 64 notices (R174, R175); the admission count and the live grants are never more than 4096
together, every forming batch keeps its promise, and a deletion stays paused only at the admission limit (R113 to R115). -/
def Obligations.NoticeSetsStayBounded : Prop :=
  ∀ s u : State, step s = .next u →
    (noticeLaw s → noticeLaw u) ∧ (tablesLaw s → volumeLaw s → admissionLaw s → admissionLaw u)

/-- No grace batch is released while any JOINED head's acknowledged generation is below its tag (R112): a batch that a step
takes from the grace list has a tag that every head JOINED after the step has acknowledged. The port of a Join is left out,
since the new member takes the current G (R96), and a reset loses the list (R110). The tags of the list keep rising, none above
G, and no acknowledged generation is above G (R99, R110), as long as G does not wrap, which no part lives to see. -/
def Obligations.NoReleaseBeforeAcknowledgement : Prop :=
  ∀ s u : State, step s = .next u →
    (∀ (b : Batch) (p : Port) (m : Member),
      (∀ c rest, s.pending = c :: rest → isReset c = false ∧ ∀ t i, c ≠ .join p t i) →
      b ∈ s.grace → b ∉ u.grace → u.heads.get p = .joined m → b.tag.toNat ≤ m.ack.toNat) ∧
    (tablesLaw s → generationLaw s → s.generation.toNat + batchBound s < 2 ^ 64 → generationLaw u)

/-- Right after the first power-on: RECOVERING, boot count 1, cause POWER, the fault records CLEAR, every head ABSENT behind an
asserted fence line, every port DOWN, nothing volatile left, the factory configuration; and the laws hold (log 3). -/
def Obligations.ResetState : Prop :=
  lostAtReset State.reset ∧ State.reset.bootCount = 1 ∧ State.reset.resetCause = .power ∧
  State.reset.faults = .clear ∧ State.reset.generation = 0 ∧ State.reset.timing = ⟨.ms1, 3000, 500, 1000, 10000⟩ ∧
  (∀ n, State.reset.spans.get n = .absent) ∧
  fenceLaw State.reset ∧ tablesLaw State.reset ∧ leaseLaw State.reset ∧ stagedLaw State.reset ∧ noticeLaw State.reset ∧
  volumeLaw State.reset ∧ generationLaw State.reset ∧ admissionLaw State.reset ∧ poolLaw State.reset

/-! ## Frames -/

/-- Request frames are read back: the part reads, from the bytes that a head sends for any request of Table 11-4, that request with
every operand at every value, and beside the frame what the map store reports for its reads (the model's, log 6); from a malformed
body its kind code and body, as an UNKNOWN_REQUEST_KIND (the model's, log 23); and anything that fails the frame check, the length,
the type or the tag is a damaged frame (R180, R182, R184). -/
def Obligations.RequestFramesReadBack : Prop :=
  (∀ (c : Instr) (p : Port) (t : Tag) (code : Byte), requestOf c = some (p, t, code) → c.wf = true →
    ∃ f, frameOf c = some f ∧ frameCommand p f (readsOf c) = c) ∧
  (∀ (p : Port) (t : Tag) (code : Byte) (body : List Byte) (reads : Reads),
    body.length < 65536 → malformed code body = true →
    frameCommand p (sealRequest t code body) reads = .unknownRequestKind p t code body) ∧
  (∀ (p : Port) (f : List Byte) (reads : Reads), (frameSound f && frameNamesTag f) = false →
    frameCommand p f reads = .frameDamaged p f)

/-- The frames that the part sends (Table 11-1): an answer of body length L is 17 + L bytes, a notice 17 bytes; type, tag, kind,
outcome, reason, G and length stand at their offsets, and the last two bytes are the check of all before them. -/
def Obligations.SentFrameLayouts : Prop :=
  (∀ a : Answer, a.body.bytes.length < 65536 →
    (answerFrame a).length = 17 + a.body.bytes.length ∧
    (answerFrame a).take 5 = [0x02, BitVec.ofNat 8 a.tag.val, a.code, a.outcome.code, a.outcome.reasonByte] ∧
    ofLeBytes (((answerFrame a).drop 5).take 8) = a.g.toNat ∧
    ofLeBytes (((answerFrame a).drop 13).take 2) = a.body.bytes.length ∧
    ((answerFrame a).drop 15).take a.body.bytes.length = a.body.bytes ∧
    ofLeBytes ((answerFrame a).drop (15 + a.body.bytes.length)) =
      (checkWord 65535#16 ((answerFrame a).take (15 + a.body.bytes.length))).toNat) ∧
  (∀ (lost : Bool) (n : Notice), n.subject < 2 ^ 32 →
    (noticeFrame lost n).length = 17 ∧
    (noticeFrame lost n).take 3 = [0x03, BitVec.ofNat 8 n.code, if lost then 1 else 0] ∧
    ofLeBytes (((noticeFrame lost n).drop 3).take 4) = n.subject ∧
    ((noticeFrame lost n).drop 7).take 8 = n.valueBytes ∧
    ofLeBytes ((noticeFrame lost n).drop 15) = (checkWord 65535#16 ((noticeFrame lost n).take 15)).toNat)

/-! ## Computations -/

/-- The check generator (R53): bytes in order, bits from the least significant, shift, compare, combine. -/
def Obligations.CheckGenerator : Prop :=
  (∀ g : BitVec 16, checkWord g [] = g) ∧
  (∀ (g : BitVec 16) (b : Byte) (l : List Byte), checkWord g (b :: l) = checkWord (checkByte g b) l) ∧
  (∀ (g : BitVec 16) (b : Byte), checkByte g b =
    checkBit (checkBit (checkBit (checkBit (checkBit (checkBit (checkBit (checkBit g
      (b.getLsbD 0)) (b.getLsbD 1)) (b.getLsbD 2)) (b.getLsbD 3)) (b.getLsbD 4)) (b.getLsbD 5)) (b.getLsbD 6))
      (b.getLsbD 7)) ∧
  (∀ (g : BitVec 16) (b : Bool), checkBit g b = if g.getLsbD 0 = b then g >>> 1 else (g >>> 1) ^^^ 0xA001#16) ∧
  (∀ k : Nat, k < 16 → ((0xA001#16).getLsbD k = true ↔ k = 15 ∨ k = 13 ∨ k = 0)) ∧
  (∀ n v : Nat, leBytes (n + 1) v = BitVec.ofNat 8 v :: leBytes n (v / 256)) ∧
  (∀ e : Extent, extentBytes e = leBytes 4 (extentWord e).toNat)

/-- A fault reaches its record (R159): a CLEAR record is HELD without overflow; a HELD CORRECTED gives way to UNCORRECTABLE
and WRITE_FAILED; every other HELD fault stays; the flag is then true. No other record and nothing else changes, in any mode. -/
def Obligations.FaultRecordTakes : Prop :=
  ∀ (src : FaultSource) (kind : FaultKind) (place : FaultPlace) (s : State),
    ((s.faults.get src).held = none →
      (recordFault src kind place s).faults.get src = ⟨some (kind, place), false⟩) ∧
    (∀ old, (s.faults.get src).held = some (.corrected, old) → kind = .uncorrectable ∨ kind = .writeFailed →
      (recordFault src kind place s).faults.get src = ⟨some (kind, place), true⟩) ∧
    (∀ held old, (s.faults.get src).held = some (held, old) →
      ¬ (held = .corrected ∧ (kind = .uncorrectable ∨ kind = .writeFailed)) →
      (recordFault src kind place s).faults.get src = ⟨some (held, old), true⟩) ∧
    (∀ other, other ≠ src → (recordFault src kind place s).faults.get other = s.faults.get other) ∧
    recordFault src kind place s = { s with faults := (recordFault src kind place s).faults } ∧
    (∀ m : PartMode, (recordFault src kind place { s with mode := m }).faults = (recordFault src kind place s).faults)

/-- Extent selection (R31, R32): the extent chosen lies in the lowest ONLINE span of the pool that has one free and is not
passed over; within it it is the first free one from the cursor upward, wrapping; it leaves the free set, the free count falls by
one, and the cursor goes behind it. -/
def Obligations.SelectionTakesFirstFree : Prop :=
  (∀ (spans : Vector Span 16) (pool : PoolId) (skip : Option SpanId) (e : Extent),
    FreeSet.wf (spans.get e.span).free = true → chooseExtent spans pool skip = some e →
      (spans.get e.span).state = .online ∧ (spans.get e.span).pool = pool ∧ some e.span ≠ skip ∧
      FreeSet.mem e.index (spans.get e.span).free = true ∧
      (∀ n, n < e.span → (spans.get n).state = .online → (spans.get n).pool = pool → some n ≠ skip →
        (spans.get n).freeCount ≠ 0 → ∀ i, FreeSet.mem i (spans.get n).free = false) ∧
      (∀ i, FreeSet.mem i (spans.get e.span).free = true →
        ((spans.get e.span).cursor ≤ e.index → i < (spans.get e.span).cursor ∨ e.index ≤ i) ∧
        (e.index < (spans.get e.span).cursor → i < (spans.get e.span).cursor ∧ e.index ≤ i))) ∧
  (∀ (spans : Vector Span 16) (pool : PoolId) (skip : Option SpanId) (k : Nat) (e : Extent),
    chooseExtent spans pool skip = some e →
      chooseRun pool skip (k + 1) spans =
        (e :: (chooseRun pool skip k (takeExtent spans e)).1, (chooseRun pool skip k (takeExtent spans e)).2)) ∧
  (∀ (spans : Vector Span 16) (e : Extent),
    ((takeExtent spans e).get e.span).freeCount = (spans.get e.span).freeCount - 1 ∧
    ((takeExtent spans e).get e.span).cursor =
      (if e.index + 1 = (spans.get e.span).length then 0 else e.index + 1) ∧
    (∀ i, FreeSet.mem i ((takeExtent spans e).get e.span).free =
      (FreeSet.mem i (spans.get e.span).free && decide (i ≠ e.index))) ∧
    (∀ n, n ≠ e.span → (takeExtent spans e).get n = spans.get n))

/-- The pools: in every step each pool's counts stay in balance, capacity = free + reserved + used + grace, and its level stays the
judged one (R35, R37). The level is what the allocatable count gives; a judgement that gives another level is taken and sent to
every JOINED head whose notice set has room, one that gives the same level changes nothing. -/
def Obligations.PoolLevelJudged : Prop :=
  (∀ s u : State, poolLaw s → step s = .next u → poolLaw u) ∧
  (∀ r : Pool, (r.allocatable ≤ r.settings.critical → r.judged = .critical) ∧
    (r.settings.critical < r.allocatable → r.allocatable ≤ r.settings.warn → r.judged = .low) ∧
    (r.settings.critical < r.allocatable → r.settings.warn < r.allocatable → r.judged = .normal)) ∧
  (∀ (n : PoolId) (s : State), (s.pools.get n).judged = (s.pools.get n).level → judgeLevel n s = s) ∧
  (∀ (n : PoolId) (s : State), (s.pools.get n).judged ≠ (s.pools.get n).level →
    (judgeLevel n s).pools = putAt s.pools n { s.pools.get n with level := (s.pools.get n).judged } ∧
    portsGrow s (judgeLevel n s) ∧
    (∀ p, s.joined p = true → (s.ports.get p).notices.length < Config.noticePlaces →
      Notice.poolLevel n (s.pools.get n).judged ∈ ((judgeLevel n s).ports.get p).notices) ∧
    (∀ p, s.joined p = false → (judgeLevel n s).ports.get p = s.ports.get p) ∧
    judgeLevel n s = { s with ports := (judgeLevel n s).ports, pools := (judgeLevel n s).pools })

/-- A notice is added (R174): nothing for a head that is not JOINED; a pending notice of its kind and subject takes the new
value in its place; an INVALIDATE raises a pending INVALIDATE_ALL; else it is appended while the set holds fewer than 64. -/
def Obligations.NoticeSetAdds : Prop :=
  (∀ (p : Port) (n : Notice) (s : State), s.joined p = false → addNotice p n s = s) ∧
  (∀ (g : Gen) (n m : Notice) (before after : List Notice) (lost : Bool),
    (∀ x ∈ before, n.same x = false) → n.same m = true →
    addToSet g n (before ++ m :: after) lost = (before ++ n :: after, lost)) ∧
  (∀ (g h old : Gen) (v : Nat) (before after : List Notice) (lost : Bool),
    (∀ x ∈ before, x.isInvalidateAll = false) →
    (∀ x ∈ before ++ Notice.invalidateAll old :: after, (Notice.invalidate v h).same x = false) →
    addToSet g (.invalidate v h) (before ++ .invalidateAll old :: after) lost =
      (before ++ .invalidateAll h :: after, lost)) ∧
  (∀ (g : Gen) (n : Notice) (set : List Notice) (lost : Bool),
    (∀ x ∈ set, n.same x = false) → (n.isInvalidate = true → ∀ x ∈ set, x.isInvalidateAll = false) →
    set.length < Config.noticePlaces → addToSet g n set lost = (set ++ [n], lost))

/-- A full notice set (R175): an INVALIDATE that finds INVALIDATEs pending is absorbed with all of them into one INVALIDATE_ALL at
the current G, without a loss; another notice that finds two or more is appended at a place so freed; one that finds a single
INVALIDATE turns it into the INVALIDATE_ALL, which frees no place; without a free place the oldest advisory notice gives
its place, or else the oldest LEASE_LOST, and the lost indication is true. -/
def Obligations.NoticeSetFull : Prop :=
  (∀ (g h : Gen) (v : Nat) (set : List Notice) (lost : Bool),
    Config.noticePlaces ≤ set.length → (∀ x ∈ set, (Notice.invalidate v h).same x = false) →
    (∀ x ∈ set, x.isInvalidateAll = false) → (∃ x ∈ set, x.isInvalidate = true) →
    (addToSet g (.invalidate v h) set lost).2 = lost ∧
    Notice.invalidateAll g ∈ (addToSet g (.invalidate v h) set lost).1 ∧
    (∀ x ∈ (addToSet g (.invalidate v h) set lost).1, x.isInvalidate = false) ∧
    (∀ x ∈ set, x.isInvalidate = false → x ∈ (addToSet g (.invalidate v h) set lost).1)) ∧
  (∀ (g : Gen) (n : Notice) (set : List Notice) (lost : Bool),
    set.length = Config.noticePlaces → n.isInvalidate = false → (∀ x ∈ set, n.same x = false) →
    (∀ x ∈ set, x.isInvalidateAll = false) → 2 ≤ (set.filter Notice.isInvalidate).length →
    (addToSet g n set lost).2 = lost ∧ n ∈ (addToSet g n set lost).1 ∧
    Notice.invalidateAll g ∈ (addToSet g n set lost).1 ∧
    (∀ x ∈ (addToSet g n set lost).1, x.isInvalidate = false)) ∧
  (∀ (g old : Gen) (v : Nat) (n x : Notice) (before after older newer : List Notice) (lost : Bool),
    Config.noticePlaces ≤ (before ++ Notice.invalidate v old :: after).length → n.isInvalidate = false →
    (∀ y ∈ before ++ Notice.invalidate v old :: after, n.same y = false ∧ y.isInvalidateAll = false) →
    (∀ y ∈ before ++ after, y.isInvalidate = false) →
    before ++ Notice.invalidateAll g :: after = older ++ x :: newer →
    (x.isAdvisory = true ∧ ∀ y ∈ older, y.isAdvisory = false) ∨
      (x.isLeaseLost = true ∧ (∀ y ∈ older ++ newer, y.isAdvisory = false) ∧ ∀ y ∈ older, y.isLeaseLost = false) →
    addToSet g n (before ++ .invalidate v old :: after) lost = (older ++ newer ++ [n], true)) ∧
  (∀ (g h : Gen) (v : Nat) (x : Notice) (before after : List Notice) (lost : Bool),
    Config.noticePlaces ≤ (before ++ x :: after).length →
    (∀ y ∈ before ++ x :: after, y.isInvalidate = false ∧ y.isInvalidateAll = false) →
    (x.isAdvisory = true ∧ ∀ y ∈ before, y.isAdvisory = false) ∨
      (x.isLeaseLost = true ∧ (∀ y ∈ before ++ after, y.isAdvisory = false) ∧ ∀ y ∈ before, y.isLeaseLost = false) →
    addToSet g (.invalidate v h) (before ++ x :: after) lost = (before ++ after ++ [.invalidateAll g], true)) ∧
  (∀ (g : Gen) (n x : Notice) (before after : List Notice) (lost : Bool),
    Config.noticePlaces ≤ (before ++ x :: after).length → n.isInvalidate = false →
    (∀ y ∈ before ++ x :: after, n.same y = false ∧ y.isInvalidate = false) →
    (∀ y ∈ before, y.isAdvisory = false) → x.isAdvisory = true →
    addToSet g n (before ++ x :: after) lost = (before ++ after ++ [n], true)) ∧
  (∀ (g : Gen) (n x : Notice) (before after : List Notice) (lost : Bool),
    Config.noticePlaces ≤ (before ++ x :: after).length → n.isInvalidate = false →
    (∀ y ∈ before ++ x :: after, n.same y = false ∧ y.isInvalidate = false ∧ y.isAdvisory = false) →
    (∀ y ∈ before, y.isLeaseLost = false) → x.isLeaseLost = true →
    addToSet g n (before ++ x :: after) lost = (before ++ after ++ [n], true))

/-! ## Resets and recovery -/

/-- Power-on and line reset start a recovery (R153): the volatile state is lost, the boot count is raised (from 0 where it
cannot be read) and written back, the cause set. Power-on leaves the fault records CLEAR (log 12), a line reset keeps them
(R158). Nothing else of the map store changes, even where a store write is under way at the reset (the model's, log 37). -/
def Obligations.ResetsRestart : Prop :=
  ∀ (s : State) (boot : Option ReadFault) (count : BitVec 32), settled s →
    count = (if boot = some .uncorrectable then 0 else s.store.bootCount) + 1 →
    (∃ u, exec (.powerOn boot) s = .next u ∧ lostAtReset u ∧ u.resetCause = .power ∧ u.bootCount = count ∧
      u.store = { s.store with bootCount := count } ∧ u.faults = .clear ∧ u.pending = s.pending ∧
      u.recovery.stage = .booted) ∧
    (∃ u, exec (.lineReset boot) s = .next u ∧ lostAtReset u ∧ u.resetCause = .line ∧ u.bootCount = count ∧
      u.store = { s.store with bootCount := count } ∧ u.pending = s.pending ∧ u.recovery.stage = .booted ∧
      (boot = none → u.faults = s.faults) ∧
      (boot = some .uncorrectable → u.recovery.firstFault = some ⟨.mapStore, .uncorrectable⟩))

/-- Replay (R154, R157): the next whole intent has every effect written to its store record in order and is then retired; behind
an unreadable slot its effects are written and nothing is retired; with the last of them the sequence counter is set to the
retired mark (0 where that could not be read, R157). What is read first of all keeps of the log only the whole images after the
retired mark; these are replayed in forward order of sequence number (the place of an unreadable slot among them is log 16), the
first of them by the command that reads the log; with none of them replay has ended. -/
def Obligations.ReplayWritesEffects : Prop :=
  (∀ (s : State) (slot : Nat) (image : SlotImage) (rest : List ReplayItem),
    s.mode = .recovering → s.recovery.stage = .replaying → s.recovery.writesStopped = false →
    s.recovery.blocked = false → s.recovery.todo = ⟨slot, true⟩ :: rest →
    Table.get? s.store.slots slot = some image →
    exec (.recoveryReplayIntent []) s = .next { s with
      store := (image.effects.foldl (fun m e => m.write e) s.store).retire slot image.seq
      sequence := if rest.any ReplayItem.readable then s.sequence
        else if s.recovery.markUnreadable then 0 else image.seq
      recovery := { s.recovery with todo := rest } }) ∧
  (∀ (s : State) (lost slot : Nat) (image : SlotImage) (rest : List ReplayItem),
    s.mode = .recovering → s.recovery.stage = .replaying → s.recovery.writesStopped = false →
    s.recovery.todo = ⟨lost, false⟩ :: ⟨slot, true⟩ :: rest →
    Table.get? s.store.slots slot = some image →
    exec (.recoveryReplayIntent []) s = .next { s with
      store := image.effects.foldl (fun m e => m.write e) s.store
      sequence := if rest.any ReplayItem.readable then s.sequence
        else if s.recovery.markUnreadable then 0 else s.store.retired
      recovery := { s.recovery with todo := rest, blocked := true } }) ∧
  (∀ s : State, s.mode = .recovering → s.recovery.stage = .booted → s.recovery.writesStopped = false → tablesLaw s →
    ∃ items read, (∀ i ∈ items, i.readable = true) ∧ (items.map ReplayItem.slot).Nodup ∧
      (∀ n, ⟨n, true⟩ ∈ items ↔ ∃ image, Table.get? s.store.slots n = some image ∧ image.whole = true ∧
        1 ≤ (image.seq - s.store.retired).toNat ∧ (image.seq - s.store.retired).toNat ≤ 512) ∧
      items.Pairwise (fun a b => ∀ x y, Table.get? s.store.slots a.slot = some x → Table.get? s.store.slots b.slot = some y →
        (x.seq - s.store.retired).toNat ≤ (y.seq - s.store.retired).toNat) ∧
      read = { s with
        store := { s.store with slots := s.store.slots.filter (fun e => decide (⟨e.1, true⟩ ∈ items)) }
        recovery := { s.recovery with stage := .replaying, todo := items, markUnreadable := false } } ∧
      exec (.recoveryReplayIntent []) s = exec (.recoveryReplayIntent []) read ∧
      (items = [] → exec (.recoveryReplayIntent []) s = .next { read with sequence := s.store.retired }) ∧
      (∀ slot rest, items = ⟨slot, true⟩ :: rest → ∃ u, exec (.recoveryReplayIntent []) s = .next u ∧
        u.mode = .recovering ∧ u.recovery.stage = .replaying ∧ u.recovery.todo = rest))

/-- The sweep (R4, R5, R34, R35, R44, R107, R155). With every read good the tables take the persistent fields; latches are 1,
pending counts 0, no deletion runs; replay has ended, so the sequence counter is the retired mark (R154; 0 where that could not be
read, R157). The maps hold exactly the entries that the sweep takes: those placed within a registered span on an extent that no
earlier entry has (R44); that an entry at or beyond the size of its volume is among them is the model's (log 34); every other
cell is poisoned. A free set lacks exactly the placements taken and its
free count is the number of its members; a volume's mapped count and its tenant's used count are the numbers of entries taken; a
pool's capacity, free and allocatable counts are the sums over its spans, its used count the number of entries placed in them;
levels are judged; the store is only read. With other reads, a volume record that cannot be read is taken as ABSENT, a cell that
cannot be read is poisoned and its entry not taken, and the recovery has met a freezing fault. -/
def Obligations.SweepRebuildsTables : Prop :=
  (∀ s : State, s.mode = .recovering → s.recovery.stage = .replaying → s.recovery.todo = [] → tablesLaw s →
    ∃ u, exec (.recoverySweep []) s = .next u ∧ u.recovery.stage = .swept ∧ u.timing = s.store.timing ∧
      u.sequence = (if s.recovery.markUnreadable then 0 else s.store.retired) ∧
      (∀ v, (u.volume v).state = (Table.getD .absent s.store.volumes v).state ∧
        (u.volume v).tenant = (Table.getD .absent s.store.volumes v).tenant ∧
        (u.volume v).pool = (Table.getD .absent s.store.volumes v).pool ∧
        (u.volume v).size = (Table.getD .absent s.store.volumes v).size ∧
        (u.volume v).pending = 0 ∧ (u.volume v).latch = true ∧ (u.volume v).deletion = none ∧
        (u.volume v).mapped = (u.mapOf v).length) ∧
      (∀ v i e, u.entry? v i = some e ↔ sweepTakes s.store v i e) ∧
      (∀ v i, (v, i) ∈ u.poison ↔ (v, i) ∈ s.poison ∨
        ∃ e, Table.get? (s.store.cellsOf v) i = some e ∧ (Table.getD .absent s.store.volumes v).state ≠ .absent ∧
          ¬ sweepTakes s.store v i e) ∧
      (∀ t, (u.tenant t).quota = Table.get? s.store.quotas t ∧ (u.tenant t).pending = 0 ∧
        (u.tenant t).used =
          ((u.volumes.filter (fun e => decide (e.2.tenant = t))).map (fun e => e.2.mapped)).sum) ∧
      (∀ n, (u.spans.get n).state = (s.store.spans.get n).state ∧ (u.spans.get n).cursor = 0 ∧
        ((s.store.spans.get n).state ≠ .absent → (u.spans.get n).pool = (s.store.spans.get n).pool ∧
          (u.spans.get n).length = (s.store.spans.get n).length) ∧
        (∀ i, FreeSet.mem i (u.spans.get n).free = true ↔
          (s.store.spans.get n).state ≠ .absent ∧ i < (s.store.spans.get n).length ∧
            ∀ v j e, u.entry? v j = some e → e.placement ≠ ⟨n, i⟩) ∧
        (u.spans.get n).freeCount = FreeSet.count (u.spans.get n).free) ∧
      (∀ k, (u.pools.get k).settings = s.store.pools.get k ∧
        (u.pools.get k).capacity = ((allSpans.filter (fun n =>
          decide ((u.spans.get n).state ≠ .absent ∧ (u.spans.get n).pool = k))).map (fun n => (u.spans.get n).length)).sum ∧
        (u.pools.get k).free = ((allSpans.filter (fun n =>
          decide ((u.spans.get n).state ≠ .absent ∧ (u.spans.get n).pool = k))).map (fun n => (u.spans.get n).freeCount)).sum ∧
        (u.pools.get k).allocatable = ((allSpans.filter (fun n =>
          decide ((u.spans.get n).state = .online ∧ (u.spans.get n).pool = k))).map (fun n => (u.spans.get n).freeCount)).sum ∧
        (u.pools.get k).used = ((u.maps.flatMap Prod.snd).filter (fun e =>
          decide ((u.spans.get e.2.placement.span).pool = k))).length ∧
        (u.pools.get k).reserved = 0 ∧ (u.pools.get k).grace = 0 ∧ (u.pools.get k).level = (u.pools.get k).judged) ∧
      ((∀ v i e, Table.get? (s.store.cellsOf v) i = some e → (Table.getD .absent s.store.volumes v).state ≠ .absent →
          sweepTakes s.store v i e) →
        u.faults = s.faults ∧ u.recovery.firstFault = s.recovery.firstFault) ∧
      u = { s with
        timing := u.timing, sequence := u.sequence, volumes := u.volumes, tenants := u.tenants, maps := u.maps,
        spans := u.spans, pools := u.pools, poison := u.poison, faults := u.faults, faultsMet := u.faultsMet,
        recovery := u.recovery }) ∧
  (∀ (s : State) (reads : Reads), s.mode = .recovering → s.recovery.stage = .replaying → s.recovery.todo = [] →
    tablesLaw s → reads.wf = true →
    ∃ u, exec (.recoverySweep reads) s = .next u ∧ u.recovery.stage = .swept ∧ u.store = s.store ∧ u.mode = s.mode ∧
      u.sequence = (if s.recovery.markUnreadable then 0 else s.store.retired) ∧
      (∀ v, (.volume v, .uncorrectable) ∈ reads → u.volume v = .absent ∧ u.mapOf v = []) ∧
      (∀ v, (.volume v, .uncorrectable) ∉ reads → (u.volume v).state = (Table.getD .absent s.store.volumes v).state) ∧
      (∀ v i, (.entry v i, .uncorrectable) ∈ reads → (.volume v, .uncorrectable) ∉ reads →
        (Table.getD .absent s.store.volumes v).state ≠ .absent → i < (Table.getD .absent s.store.volumes v).size →
        (v, i) ∈ u.poison ∧ u.entry? v i = none ∧ u.recovery.firstFault ≠ none) ∧
      (∀ v, (.volume v, .uncorrectable) ∈ reads → u.recovery.firstFault ≠ none))

/-- Recovery ends (R24, R25, R27, R156, R161): SERVING without a freezing fault, FROZEN with the first fault of the run as its
freeze cause; G is 1, the sequence counter stays as replay has left it (R154); notice sets and watches are empty, and of the tag
tables only the slots of answers that have not left stay BUSY (R156, R179; how the two meet is the model's, log 35). When SERVING,
each volume that is DELETING has its deletion resumed, with no requester, at the front of its queue, in ascending volume id:
REMOVING with the promise of its first removal batch, or ENDING when it has no entry. The first of them forms its intent next,
inside the event (the model's due step, log 28): its lowest entries, at most 4096, or its end. -/
def Obligations.RecoveryEnds : Prop :=
  ∀ s : State, s.mode = .recovering → s.recovery.stage = .swept → tablesLaw s →
    ∃ u, exec .recoveryEnd s = .next u ∧ u.generation = 1 ∧
      u.watches = [] ∧ u.recovery.stage = .ended ∧
      (∀ p, (∀ t, (u.ports.get p).busy.get t = true ↔ ∃ a ∈ (s.ports.get p).answers, a.tag = t) ∧
        u.ports.get p = { s.ports.get p with busy := (u.ports.get p).busy, notices := [], lost := false }) ∧
      (∀ c, s.recovery.firstFault = some c →
        u = { s with
          mode := .frozen, freezeCause := some c, generation := u.generation, ports := u.ports, watches := u.watches,
          recovery := u.recovery }) ∧
      (s.recovery.firstFault = none → u.mode = .serving ∧
        (∀ v, (s.volume v).state ≠ .deleting → u.volume v = s.volume v ∧ u.queue (.volume v) = s.queue (.volume v)) ∧
        (s.admission = 0 → s.admissionWait = [] → (deletingVolumes s).length ≤ 3072 →
          u.deletionsDue = s.deletionsDue ++ deletingVolumes s ∧ u.admissionWait = [] ∧
          u.promises = ((deletingVolumes s).filter (fun v => decide (0 < (s.volume v).mapped))).length ∧
          ∀ v, (s.volume v).state = .deleting →
            u.volume v = { s.volume v with
              deletion := some ⟨none, if 0 < (s.volume v).mapped then .removing else .ending, false⟩ } ∧
            u.queue (.volume v) = { s.queue (.volume v) with flight := some .deletion }) ∧
        (∀ v rest, u.deletionsDue = v :: rest → u.logWait = [] → (u.volume v).deletion = some ⟨none, .removing, false⟩ →
          due? u = some .removal ∧ (takeDue .removal u).deletionsDue = rest ∧
          (takeDue .removal u).logWait = [⟨.deleteBatch, .volume v, none, none,
            ((s.mapOf v).take 4096).map (fun e => .removeEntry v e.1), some ⟨(s.volume v).pool, []⟩⟩]) ∧
        (∀ v rest, u.deletionsDue = v :: rest → u.logWait = [] → (u.volume v).deletion = some ⟨none, .ending, false⟩ →
          due? u = some .ending ∧ (takeDue .ending u).deletionsDue = rest ∧
          (takeDue .ending u).logWait = [⟨.deleteEnd, .volume v, none, none, [.setVolume v .absent 0 0 0], none⟩]) ∧
        u = { s with
          mode := .serving, generation := u.generation, ports := u.ports, watches := u.watches,
          recovery := u.recovery, volumes := u.volumes, queues := u.queues, promises := u.promises,
          admissionWait := u.admissionWait, deletionsDue := u.deletionsDue })

/-! ## The arrival of requests -/

/-- A request on a BUSY tag is dropped without an answer and recorded as TAG_REUSE at its kind code, one of an unknown kind or of a
wrong body length too, since step 3 of R180 comes before step 6; on a DOWN link no frame is received (R178, R180 step 3). That such
a malformed request comes by the row UNKNOWN_REQUEST_KIND is log 23. -/
def Obligations.BusyOrDownIsDropped : Prop :=
  (∀ (c : Instr) (p : Port) (t : Tag) (code : Byte) (s : State), requestOf c = some (p, t, code) → settled s →
    s.linkUp p = true → (s.ports.get p).busy.get t = true →
    exec c s = .next { s with
      faults := s.faults.put (.port p) ((s.faults.get (.port p)).take .tagReuse (.frame (some code))) }) ∧
  (∀ (p : Port) (t : Tag) (code : Byte) (body : List Byte) (s : State), settled s → s.linkUp p = true →
    (s.ports.get p).busy.get t = true → malformed code body = true →
    exec (.unknownRequestKind p t code body) s = .next { s with
      faults := s.faults.put (.port p) ((s.faults.get (.port p)).take .tagReuse (.frame (some code))) }) ∧
  (∀ (c : Instr) (p : Port) (t : Tag) (code : Byte) (s : State), requestOf c = some (p, t, code) → settled s →
    s.linkUp p = false → exec c s = .next s) ∧
  (∀ (p : Port) (t : Tag) (code : Byte) (body frame : List Byte) (s : State), settled s → s.linkUp p = false →
    exec (.unknownRequestKind p t code body) s = .next s ∧ exec (.frameDamaged p frame) s = .next s)

/-- While the part is RECOVERING every request but QueryPart is refused STARTING; otherwise every request but Join,
QueryPart and QueryFaults is refused NOT_JOINED to a head that is not JOINED; either refusal changes nothing else
(R95, R180 step 5). -/
def Obligations.StartingAndNotJoined : Prop :=
  (∀ (c : Instr) (p : Port) (t : Tag) (code : Byte) (s : State), requestOf c = some (p, t, code) → hears s p t →
    s.mode = .recovering → code ≠ 0x05#8 →
    exec c s = .next (answered p t code (.refused .starting) .empty s)) ∧
  (∀ (c : Instr) (p : Port) (t : Tag) (code : Byte) (s : State), requestOf c = some (p, t, code) → hears s p t →
    s.mode ≠ .recovering → s.joined p = false → code ≠ 0x01#8 → code ≠ 0x05#8 → code ≠ 0x06#8 →
    exec c s = .next (answered p t code (.refused .notJoined) .empty s))

/-- While the part is FROZEN the requests that would change the map store are refused FROZEN, and change nothing else (R164). For
the requests whose own rule makes another check first, the operands pass it (the place of the check in the span and pool
requests is log 19). -/
def Obligations.FrozenRefusals : Prop :=
  ∀ (s : State) (p : Port) (t : Tag), admits s p t → s.mode = .frozen →
    (∀ tp l g r gr, exec (.configure p t tp l g r gr) s = .next (answered p t 0x04 (.refused .frozen) .empty s)) ∧
    (∀ v f c, exec (.unmap p t v f c) s = .next (answered p t 0x32 (.refused .frozen) .empty s)) ∧
    (∀ v f c r, exec (.reserve p t v f c r) s = .next (answered p t 0x40 (.refused .frozen) .empty s)) ∧
    (∀ n k x a w, exec (.bind p t n k x a w) s = .next (answered p t 0x41 (.refused .frozen) .empty s)) ∧
    (∀ v i r, exec (.relocate p t v i r) s = .next (answered p t 0x43 (.refused .frozen) .empty s)) ∧
    (∀ n k x, exec (.completeRelocate p t n k x) s = .next (answered p t 0x44 (.refused .frozen) .empty s)) ∧
    (∀ v, named s v.toNat → exec (.deleteVolume p t v) s = .next (answered p t 0x21 (.refused .frozen) .empty s)) ∧
    (∀ v size, named s v.toNat → 1 ≤ size.toNat → size.toNat ≤ 16777216 →
      exec (.resizeVolume p t v size) s = .next (answered p t 0x22 (.refused .frozen) .empty s)) ∧
    (∀ v m, named s v.toNat → m = 1#8 ∨ m = 2#8 →
      exec (.setVolumeMode p t v m) s = .next (answered p t 0x23 (.refused .frozen) .empty s)) ∧
    (∀ v i w r, named s v.toNat →
      exec (.noteWritten p t v i w r) s = .next (answered p t 0x31 (.refused .frozen) .empty s)) ∧
    (∀ v te k size m, v.toNat ≤ 4095 → (s.volume v.toNat).state ≠ .deleting → te.toNat ≤ 255 → k.toNat ≤ 7 →
      m = 1#8 ∨ m = 2#8 → 1 ≤ size.toNat → size.toNat ≤ 16777216 →
      exec (.createVolume p t v te k size m) s = .next (answered p t 0x20 (.refused .frozen) .empty s)) ∧
    (∀ te q, te.toNat ≤ 255 → q = 0xFFFFFFFF#32 ∨ q.toNat ≤ 33554432 →
      exec (.setTenant p t te q) s = .next (answered p t 0x25 (.refused .frozen) .empty s)) ∧
    (∀ n k l, n.toNat ≤ 15 → k.toNat ≤ 7 → 1 ≤ l.toNat → l.toNat ≤ 16777216 →
      exec (.addSpan p t n k l) s = .next (answered p t 0x50 (.refused .frozen) .empty s)) ∧
    (∀ n b, n.toNat ≤ 15 → b = 0#8 ∨ b = 1#8 →
      exec (.drainSpan p t n b) s = .next (answered p t 0x51 (.refused .frozen) .empty s)) ∧
    (∀ n, n.toNat ≤ 15 → exec (.removeSpan p t n) s = .next (answered p t 0x52 (.refused .frozen) .empty s)) ∧
    (∀ k w c f, k.toNat ≤ 7 → w.toNat ≤ 33554432 → c.toNat ≤ w.toNat → f.toNat ≤ 33554432 →
      exec (.setPool p t k w c f) s = .next (answered p t 0x53 (.refused .frozen) .empty s))

/-- A frame of an unknown kind or of a wrong body length is refused BAD_FORM (STARTING while RECOVERING, but for QueryPart's kind
code), whatever the state of its head; a damaged frame is dropped and recorded at its third byte (R180). -/
def Obligations.BadFrames : Prop :=
  (∀ (p : Port) (t : Tag) (code : Byte) (body : List Byte) (s : State), hears s p t → malformed code body = true →
    (s.mode ≠ .recovering ∨ code = 0x05#8 →
      exec (.unknownRequestKind p t code body) s = .next (answered p t code (.refused .badForm) .empty s)) ∧
    (s.mode = .recovering → code ≠ 0x05#8 →
      exec (.unknownRequestKind p t code body) s = .next (answered p t code (.refused .starting) .empty s))) ∧
  (∀ (p : Port) (f : List Byte) (s : State), settled s → s.linkUp p = true → damaged f = true →
    exec (.frameDamaged p f) s = .next { s with
      faults := s.faults.put (.port p) ((s.faults.get (.port p)).take .frameDamaged (.frame f[2]?)) })

/-! ## Membership -/

/-- Join (R96 to R98): an ABSENT head, or a LAPSED one with another incarnation, joins at the current G behind a released fence
line, with its notice set emptied; a JOINED head with its own incarnation has its countdown loaded again and keeps the rest; a
LAPSED head with the lapsed incarnation is refused STALE_INCARNATION. -/
def Obligations.JoinMakesMember : Prop :=
  ∀ (p : Port) (t : Tag) (i : BitVec 32) (s : State), hears s p t → s.mode ≠ .recovering →
    (s.heads.get p = .absent ∨ (∃ old, s.heads.get p = .lapsed old ∧ old ≠ i) →
      exec (.join p t i) s = .next { s with
        heads := putAt s.heads p (.joined ⟨i, s.generation, s.timing.live, false⟩)
        fences := putAt s.fences p .released
        ports := putAt s.ports p { s.ports.get p with
          busy := putAt (s.ports.get p).busy t true
          notices := []
          lost := false
          answers := (s.ports.get p).answers ++ [⟨t, 0x01, .joined, s.generation,
            .joined p i s.bootCount s.resetCause s.mode s.generation s.timing s.timing.live⟩] } }) ∧
    (∀ m, s.heads.get p = .joined m → m.incarnation = i →
      exec (.join p t i) s = .next { answered p t 0x01 .joined
          (.joined p i s.bootCount s.resetCause s.mode s.generation s.timing s.timing.live) s with
        heads := putAt s.heads p (.joined { m with liveness := s.timing.live })
        fences := putAt s.fences p .released }) ∧
    (s.heads.get p = .lapsed i →
      exec (.join p t i) s = .next
        (answered p t 0x01 (.refused .staleIncarnation) (.stale i s.bootCount s.generation) s))

/-- A Join with a new incarnation from a JOINED head (R97): the old incarnation lapses in full (R102), then the new one joins at the G
that the lapse left, behind a released fence line, with an empty notice set, and its JOINED answer is the last of the event. What
the lapse does is `lapses`: nothing of the old one is left; its STAGED grants are dropped; a lease it held without a waiter is
ORPHANED at its epoch, one with a waiter has passed to the first with the orphan flag (that its answer names the volume is the
model's choice, log 44); its waiting Claims have ended NOT_JOINED, and so have its watches but for those that name a lease it lost;
HEAD_LAPSED is pending at every other JOINED head whose notice set has room for all that the event adds; the grants, leases, waiters
and watches of others stand; the releases serve paused deletions (R114). -/
def Obligations.JoinNewIncarnation : Prop :=
  ∀ (p : Port) (t : Tag) (i : BitVec 32) (m : Member) (s : State),
    hears s p t → s.mode ≠ .recovering → tablesLaw s → leaseLaw s →
    s.heads.get p = .joined m → m.incarnation ≠ i →
    ∃ u granted, lapses p m granted (taken p t s) u ∧
      exec (.join p t i) s = .next { u with
        heads := putAt u.heads p (.joined ⟨i, u.generation, s.timing.live, false⟩)
        fences := putAt u.fences p .released
        ports := putAt u.ports p { u.ports.get p with
          notices := []
          lost := false
          answers := (u.ports.get p).answers ++ [⟨t, 0x01, .joined, u.generation,
            .joined p i s.bootCount s.resetCause s.mode u.generation s.timing s.timing.live⟩] } }

/-- Renew (R99): a wrong incarnation and an acknowledgement above G are refused and change nothing; a Renew that passes loads
the countdown; a higher value is recorded, ends stage DUE when it reaches the warned tag (R122), and lets the oldest
batches go that every JOINED head has now acknowledged (R112), each release serving the paused deletions (R114). -/
def Obligations.RenewAcknowledges : Prop :=
  ∀ (p : Port) (t : Tag) (i : BitVec 32) (a : Gen) (m : Member) (s : State), admits s p t → s.heads.get p = .joined m →
    (m.incarnation ≠ i →
      exec (.renew p t i a) s = .next (answered p t 0x02 (.refused .staleIncarnation) .empty s)) ∧
    (m.incarnation = i → s.generation.toNat < a.toNat →
      exec (.renew p t i a) s = .next (answered p t 0x02 (.refused .range) .empty s)) ∧
    (m.incarnation = i → a.toNat ≤ s.generation.toNat → a.toNat ≤ m.ack.toNat →
      exec (.renew p t i a) s = .next { answered p t 0x02 .done
          (.renewed m.ack s.timing.live m.due (s.grace.head?.map Batch.tag) s.generation) s with
        heads := putAt s.heads p (.joined { m with liveness := s.timing.live })
        fences := putAt s.fences p .released }) ∧
    (m.incarnation = i → a.toNat ≤ s.generation.toNat → m.ack.toNat < a.toNat →
      ∃ u due granted, exec (.renew p t i a) s = .next u ∧
        (∀ c tag, s.stall = .warned c tag → due = (m.due && decide (a.toNat < tag.toNat))) ∧
        ((∀ c tag, s.stall ≠ .warned c tag) → due = m.due) ∧
        u.heads = putAt s.heads p (.joined ⟨i, a, s.timing.live, due⟩) ∧
        u.fences = putAt s.fences p .released ∧
        u.grace = s.grace.dropWhile (fun b => acknowledged u b.tag) ∧
        lastAnswer p ⟨t, 0x02, .done, s.generation,
          .renewed a s.timing.live due (u.grace.head?.map Batch.tag) s.generation⟩ u ∧
        serves granted s u ∧ (∀ v, u.volume v = unpaused granted v (s.volume v)) ∧
        (u.grace ≠ s.grace → u.admissionWait = [] ∨ 3072 ≤ u.admission) ∧
        portsGrow (taken p t s) u ∧
        u = { s with
          heads := u.heads, fences := u.fences, ports := u.ports, spans := u.spans, pools := u.pools,
          grace := u.grace, stall := u.stall, promises := u.promises, admissionWait := u.admissionWait,
          deletionsDue := u.deletionsDue, volumes := u.volumes })

/-- Leave (R101): the head is ABSENT behind an asserted fence line and nothing of it is left: its STAGED grants are dropped; a lease it
held without a waiter is FREE, one with a waiter has passed to the first with a clear orphan flag (that its answer names the volume
is the model's choice, log 44); its waiting Claims and its watches are answered CANCELLED, but for the watches that name a lease it
lost, which are answered CHANGED before (R86, R170, R172). The grants, leases, waiters and watches of others stand, and no head is
sent HEAD_LAPSED; the releases serve paused deletions (R114); the Leave is answered DONE, last, with the G that the drops left. -/
def Obligations.LeaveEndsMembership : Prop :=
  ∀ (p : Port) (t : Tag) (s : State), admits s p t → tablesLaw s → leaseLaw s →
    ∃ u granted, exec (.leave p t) s = .next u ∧ serves granted s u ∧
      u.heads = putAt s.heads p .absent ∧ u.fences = putAt s.fences p .asserted ∧
      departs p .free false .cancelled granted s u ∧
      (∀ q, q = p ∨ s.joined q = false → noNotice q s u) ∧
      (∀ q, ∀ x ∈ (u.ports.get q).notices, x.code = 7 → x ∈ (s.ports.get q).notices) ∧
      lastAnswer p ⟨t, 0x03, .done, u.generation, .empty⟩ u ∧ portsGrow (taken p t s) u ∧
      u = { s with
        heads := u.heads, fences := u.fences, ports := u.ports, watches := u.watches, volumes := u.volumes,
        tenants := u.tenants, spans := u.spans, pools := u.pools, grants := u.grants, leases := u.leases,
        generation := u.generation, grace := u.grace, stall := u.stall,
        promises := u.promises, admissionWait := u.admissionWait, deletionsDue := u.deletionsDue }

/-- QueryPart is answered to any port in every mode, QueryFaults outside RECOVERING; both report the state and change none
(R105, R166; that their outcome is DONE is the model's choice, log 43). -/
def Obligations.QueriesOfThePart : Prop :=
  ∀ (p : Port) (t : Tag) (s : State), hears s p t →
    exec (.queryPart p t) s = .next (answered p t 0x05 .done
      (.part s.mode s.bootCount s.resetCause s.generation s.timing
        [⟨s.linkUp 0, s.heads.get 0, s.fences.get 0⟩, ⟨s.linkUp 1, s.heads.get 1, s.fences.get 1⟩,
          ⟨s.linkUp 2, s.heads.get 2, s.fences.get 2⟩, ⟨s.linkUp 3, s.heads.get 3, s.fences.get 3⟩]
        s.grace.length (s.grace.head?.map Batch.tag) s.grants.length) s) ∧
    (s.mode ≠ .recovering →
      exec (.queryFaults p t) s = .next (answered p t 0x06 .done
        (.faults s.mode s.freezeCause s.bootCount s.resetCause s.faults s.poison.length (s.poison.take 16)) s))

/-- ClearFault (R167): the named record becomes CLEAR without overflow when it was HELD, and the answer carries it as it stood; a
source that names none of the six is refused BAD_FORM; nothing else changes. -/
def Obligations.ClearFaultClears : Prop :=
  ∀ (p : Port) (t : Tag) (b : Byte) (s : State), admits s p t →
    (∀ src, FaultSource.code src = b.toNat → (s.faults.get src).held ≠ none →
      exec (.clearFault p t b) s = .next { answered p t 0x07 .done (.fault (s.faults.get src)) s with
        faults := s.faults.put src ⟨none, false⟩ }) ∧
    (∀ src, FaultSource.code src = b.toNat → (s.faults.get src).held = none →
      exec (.clearFault p t b) s = .next (answered p t 0x07 .done (.fault (s.faults.get src)) s)) ∧
    (5 < b.toNat → exec (.clearFault p t b) s = .next (answered p t 0x07 (.refused .badForm) .empty s))

/-! ## Requests that join a change queue -/

/-- Configure, SetTenant, AddSpan, DrainSpan, RemoveSpan and SetPool with values in their ranges join the end of the shelf
change queue, and nothing else changes; with a number or a setting that has none of its values they are refused BAD_FORM, and else
with a quantity out of its range RANGE (R6, R38, R40 to R42, R107, R141). -/
def Obligations.ShelfRequestsQueue : Prop :=
  ∀ (p : Port) (t : Tag) (s : State), admits s p t → s.mode = .serving →
    (∀ (b : Byte) (tp : TickPeriod) (l g r gr : BitVec 32), periodOf b = some tp → 100 ≤ l.toNat → l.toNat ≤ 60000 →
      10 ≤ g.toNat → g.toNat ≤ 10000 → 10 ≤ r.toNat → r.toNat ≤ 60000 → 100 ≤ gr.toNat → gr.toNat ≤ 600000 →
      exec (.configure p t b l g r gr) s =
        .next (queued (.configure ⟨tp, l.toNat, g.toNat, r.toNat, gr.toNat⟩) p t s)) ∧
    (∀ (te : BitVec 16) (q : BitVec 32), te.toNat ≤ 255 → q.toNat ≤ 33554432 →
      exec (.setTenant p t te q) s = .next (queued (.setTenant te.toNat (some q.toNat)) p t s)) ∧
    (∀ te : BitVec 16, te.toNat ≤ 255 →
      exec (.setTenant p t te 0xFFFFFFFF#32) s = .next (queued (.setTenant te.toNat none) p t s)) ∧
    (∀ (n : SpanId) (k : PoolId) (l : BitVec 32), 1 ≤ l.toNat → l.toNat ≤ 16777216 →
      exec (.addSpan p t (BitVec.ofNat 8 n.val) (BitVec.ofNat 8 k.val) l) s =
        .next (queued (.addSpan n k l.toNat) p t s)) ∧
    (∀ (n : SpanId) (on : Bool),
      exec (.drainSpan p t (BitVec.ofNat 8 n.val) (if on then 1 else 0)) s = .next (queued (.drainSpan n on) p t s)) ∧
    (∀ n : SpanId, exec (.removeSpan p t (BitVec.ofNat 8 n.val)) s = .next (queued (.removeSpan n) p t s)) ∧
    (∀ (k : PoolId) (w c f : BitVec 32), w.toNat ≤ 33554432 → c.toNat ≤ w.toNat → f.toNat ≤ 33554432 →
      exec (.setPool p t (BitVec.ofNat 8 k.val) w c f) s =
        .next (queued (.setPool k ⟨w.toNat, c.toNat, f.toNat⟩) p t s)) ∧
    (∀ (b : Byte) (l g r gr : BitVec 32) (reason : Reason),
      (2 < b.toNat ∧ reason = .badForm) ∨
        (b.toNat ≤ 2 ∧ reason = .range ∧
          (l.toNat < 100 ∨ 60000 < l.toNat ∨ g.toNat < 10 ∨ 10000 < g.toNat ∨ r.toNat < 10 ∨ 60000 < r.toNat ∨
            gr.toNat < 100 ∨ 600000 < gr.toNat)) →
      exec (.configure p t b l g r gr) s = .next (answered p t 0x04 (.refused reason) .empty s)) ∧
    (∀ (te : BitVec 16) (q : BitVec 32) (reason : Reason),
      (255 < te.toNat ∧ reason = .badForm) ∨
        (te.toNat ≤ 255 ∧ q ≠ 0xFFFFFFFF#32 ∧ 33554432 < q.toNat ∧ reason = .range) →
      exec (.setTenant p t te q) s = .next (answered p t 0x25 (.refused reason) .empty s)) ∧
    (∀ (n k : Byte) (l : BitVec 32) (reason : Reason),
      ((15 < n.toNat ∨ 7 < k.toNat) ∧ reason = .badForm) ∨
        (n.toNat ≤ 15 ∧ k.toNat ≤ 7 ∧ (l.toNat = 0 ∨ 16777216 < l.toNat) ∧ reason = .range) →
      exec (.addSpan p t n k l) s = .next (answered p t 0x50 (.refused reason) .empty s)) ∧
    (∀ n b : Byte, 15 < n.toNat ∨ 1 < b.toNat →
      exec (.drainSpan p t n b) s = .next (answered p t 0x51 (.refused .badForm) .empty s)) ∧
    (∀ n : Byte, 15 < n.toNat →
      exec (.removeSpan p t n) s = .next (answered p t 0x52 (.refused .badForm) .empty s)) ∧
    (∀ (k : Byte) (w c f : BitVec 32) (reason : Reason),
      (7 < k.toNat ∧ reason = .badForm) ∨
        (k.toNat ≤ 7 ∧ reason = .range ∧
          (33554432 < w.toNat ∨ 33554432 < c.toNat ∨ 33554432 < f.toNat ∨ w.toNat < c.toNat)) →
      exec (.setPool p t k w c f) s = .next (answered p t 0x53 (.refused reason) .empty s))

/-- CreateVolume, DeleteVolume, ResizeVolume, SetVolumeMode, NoteWritten of some sub-block and Unmap that pass their arrival
checks join the end of the change queue of the volume they name, and nothing else changes; NoteWritten of no sub-block is answered
at once with the entry's unwritten set (on a READ_ONLY volume and on an ORPHANED lease too, the model's, log 38; with the wanted
indication to a head without the lease too, the model's, log 47), or refused RANGE
or NOT_MAPPED. Every request that names a volume is refused BAD_FORM above id 4095, NO_VOLUME when it is ABSENT, VOLUME_STATE when
it is DELETING, with the exceptions of CreateVolume and QueryVolume (R3, R16, R18 to R20, R22, R116, R141). -/
def Obligations.VolumeRequestsQueue : Prop :=
  ∀ (p : Port) (t : Tag) (v : BitVec 16) (s : State), admits s p t → s.mode = .serving →
    (∀ (te : BitVec 16) (k : PoolId) (size : BitVec 32), v.toNat ≤ 4095 → (s.volume v.toNat).state ≠ .deleting →
      te.toNat ≤ 255 → 1 ≤ size.toNat → size.toNat ≤ 16777216 →
      exec (.createVolume p t v te (BitVec.ofNat 8 k.val) size 1) s =
        .next (queued (.createVolume v.toNat te.toNat k size.toNat .active) p t s) ∧
      exec (.createVolume p t v te (BitVec.ofNat 8 k.val) size 2) s =
        .next (queued (.createVolume v.toNat te.toNat k size.toNat .readOnly) p t s)) ∧
    (named s v.toNat →
      exec (.deleteVolume p t v) s = .next (queued (.deleteVolume v.toNat) p t s) ∧
      (∀ size : BitVec 32, 1 ≤ size.toNat → size.toNat ≤ 16777216 →
        exec (.resizeVolume p t v size) s = .next (queued (.resizeVolume v.toNat size.toNat) p t s)) ∧
      exec (.setVolumeMode p t v 1) s = .next (queued (.setVolumeMode v.toNat .active) p t s) ∧
      exec (.setVolumeMode p t v 2) s = .next (queued (.setVolumeMode v.toNat .readOnly) p t s) ∧
      (∀ (i : BitVec 32) (w : Mask) (r : Reads), w ≠ 0 →
        exec (.noteWritten p t v i w r) s = .next (queued (.noteWritten v.toNat i.toNat w) p t s)) ∧
      (∀ (i : BitVec 32) (e : Entry), i.toNat < (s.volume v.toNat).size → s.entry? v.toNat i.toNat = some e →
        exec (.noteWritten p t v i 0 []) s =
          .next (answered p t 0x31 .done (.noted e.unwritten (s.lease v.toNat).wanted) s)) ∧
      (∀ (f : BitVec 32) (c : BitVec 16), 1 ≤ c.toNat → c.toNat ≤ 4096 →
        exec (.unmap p t v f c) s = .next (queued (.unmap v.toNat f.toNat c.toNat) p t s)) ∧
      (∀ size : BitVec 32, size.toNat = 0 ∨ 16777216 < size.toNat →
        exec (.resizeVolume p t v size) s = .next (answered p t 0x22 (.refused .range) .empty s)) ∧
      (∀ m : Byte, m ≠ 1#8 → m ≠ 2#8 →
        exec (.setVolumeMode p t v m) s = .next (answered p t 0x23 (.refused .badForm) .empty s)) ∧
      (∀ i : BitVec 32, (s.volume v.toNat).size ≤ i.toNat →
        exec (.noteWritten p t v i 0 []) s = .next (answered p t 0x31 (.refused .range) .empty s)) ∧
      (∀ i : BitVec 32, i.toNat < (s.volume v.toNat).size → s.entry? v.toNat i.toNat = none →
        exec (.noteWritten p t v i 0 []) s = .next (answered p t 0x31 (.refused .notMapped) .empty s)) ∧
      (∀ (f : BitVec 32) (c : BitVec 16), c.toNat = 0 ∨ 4096 < c.toNat →
        exec (.unmap p t v f c) s = .next (answered p t 0x32 (.refused .badForm) .empty s))) ∧
    (∀ r, refusedVolume s v.toNat r →
      exec (.deleteVolume p t v) s = .next (answered p t 0x21 (.refused r) .empty s) ∧
      (∀ size, exec (.resizeVolume p t v size) s = .next (answered p t 0x22 (.refused r) .empty s)) ∧
      (∀ m, exec (.setVolumeMode p t v m) s = .next (answered p t 0x23 (.refused r) .empty s)) ∧
      (∀ i w reads, exec (.noteWritten p t v i w reads) s = .next (answered p t 0x31 (.refused r) .empty s)) ∧
      (∀ f c, exec (.unmap p t v f c) s = .next (answered p t 0x32 (.refused r) .empty s)) ∧
      (∀ f c reads, exec (.resolve p t v f c reads) s = .next (answered p t 0x30 (.refused r) .empty s)) ∧
      (∀ f c reads, exec (.reserve p t v f c reads) s = .next (answered p t 0x40 (.refused r) .empty s)) ∧
      (∀ i reads, exec (.relocate p t v i reads) s = .next (answered p t 0x43 (.refused r) .empty s)) ∧
      (∀ w d, exec (.claim p t v w d) s = .next (answered p t 0x10 (.refused r) .empty s)) ∧
      exec (.release p t v) s = .next (answered p t 0x11 (.refused r) .empty s)) ∧
    (∀ (te : BitVec 16) (k m : Byte) (size : BitVec 32) (r : Reason),
      (4095 < v.toNat ∧ r = .badForm) ∨ (v.toNat ≤ 4095 ∧ (s.volume v.toNat).state = .deleting ∧ r = .volumeState) ∨
        (v.toNat ≤ 4095 ∧ (s.volume v.toNat).state ≠ .deleting ∧
          (((255 < te.toNat ∨ 7 < k.toNat ∨ (m ≠ 1#8 ∧ m ≠ 2#8)) ∧ r = .badForm) ∨
            (te.toNat ≤ 255 ∧ k.toNat ≤ 7 ∧ (m = 1#8 ∨ m = 2#8) ∧ (size.toNat = 0 ∨ 16777216 < size.toNat) ∧
              r = .range))) →
      exec (.createVolume p t v te k size m) s = .next (answered p t 0x20 (.refused r) .empty s)) ∧
    (∀ (b : Byte) (r : Reason),
      (4095 < v.toNat ∧ r = .badForm) ∨ (v.toNat ≤ 4095 ∧ (s.volume v.toNat).state = .absent ∧ r = .noVolume) →
      exec (.queryVolume p t v b) s = .next (answered p t 0x24 (.refused r) .empty s))

/-! ## Queries -/

/-- QueryTenant (R7): quota, used, pending and headroom as they stand; a tenant above 255 is refused BAD_FORM; nothing else
changes (that its outcome is DONE is the model's choice, log 43). -/
def Obligations.QueryTenantReports : Prop :=
  ∀ (p : Port) (t : Tag) (te : BitVec 16) (s : State), admits s p t →
    (255 < te.toNat → exec (.queryTenant p t te) s = .next (answered p t 0x26 (.refused .badForm) .empty s)) ∧
    (te.toNat ≤ 255 → (s.tenant te.toNat).quota = none →
      exec (.queryTenant p t te) s = .next (answered p t 0x26 .done
        (.tenant none (s.tenant te.toNat).used (s.tenant te.toNat).pending none) s)) ∧
    (∀ q, te.toNat ≤ 255 → (s.tenant te.toNat).quota = some q →
      (s.tenant te.toNat).used + (s.tenant te.toNat).pending ≤ q →
      exec (.queryTenant p t te) s = .next (answered p t 0x26 .done
        (.tenant (some q) (s.tenant te.toNat).used (s.tenant te.toNat).pending
          (some (q - ((s.tenant te.toNat).used + (s.tenant te.toNat).pending)))) s)) ∧
    (∀ q, te.toNat ≤ 255 → (s.tenant te.toNat).quota = some q →
      q < (s.tenant te.toNat).used + (s.tenant te.toNat).pending →
      exec (.queryTenant p t te) s = .next (answered p t 0x26 .done
        (.tenant (some q) (s.tenant te.toNat).used (s.tenant te.toNat).pending (some 0)) s))

/-- QueryPool (R43): settings, counts, level, registered total and the pool's spans as they stand; a number above 7 is refused
BAD_FORM; nothing else changes (that its outcome is DONE is the model's choice, log 43). -/
def Obligations.QueryPoolReports : Prop :=
  ∀ (p : Port) (t : Tag) (s : State), admits s p t →
    (∀ b : Byte, 7 < b.toNat →
      exec (.queryPool p t b) s = .next (answered p t 0x54 (.refused .badForm) .empty s)) ∧
    (∀ k : PoolId, ∃ spans : List SpanReport,
      exec (.queryPool p t (BitVec.ofNat 8 k.val)) s = .next (answered p t 0x54 .done
        (.pool (s.pools.get k).settings (s.pools.get k).capacity (s.pools.get k).free (s.pools.get k).allocatable
          (s.pools.get k).reserved (s.pools.get k).used (s.pools.get k).grace (s.pools.get k).level
          s.registeredTotal spans) s) ∧
      spans.length ≤ 16 ∧ (spans.map SpanReport.span).Pairwise (· < ·) ∧
      ∀ r : SpanReport, r ∈ spans ↔
        (s.spans.get r.span).state ≠ .absent ∧ (s.spans.get r.span).pool = k ∧
          r = ⟨r.span, (s.spans.get r.span).state, (s.spans.get r.span).length, (s.spans.get r.span).freeCount⟩)

/-- QueryVolume (R3, R12, R21): an existing volume, a DELETING one included, is reported as it stands; clear latch 1 then clears
its latch, at which the watches that name the volume are judged again (R170), and touches nothing else (another byte than 0 and 1 is
log 18, the outcome DONE log 43). -/
def Obligations.QueryVolumeReports : Prop :=
  ∀ (p : Port) (t : Tag) (v : BitVec 16) (body : AnswerBody) (s : State), admits s p t →
    v.toNat ≤ 4095 → (s.volume v.toNat).state ≠ .absent →
    body = .volume (s.volume v.toNat).state (s.volume v.toNat).tenant (s.volume v.toNat).pool (s.volume v.toNat).size
      (s.volume v.toNat).mapped (s.volume v.toNat).pending (s.volume v.toNat).latch (s.lease v.toNat).hold.view
      (s.lease v.toNat).epoch (s.lease v.toNat).wanted ((s.volume v.toNat).deletion.map Deletion.paused) →
    exec (.queryVolume p t v 0) s = .next (answered p t 0x24 .done body s) ∧
    (∀ b : Byte, 1 < b.toNat →
      exec (.queryVolume p t v b) s = .next (answered p t 0x24 (.refused .badForm) .empty s)) ∧
    ((s.volume v.toNat).latch = false →
      exec (.queryVolume p t v 1) s = .next (answered p t 0x24 .done body s)) ∧
    ((s.volume v.toNat).latch = true → ∃ u, exec (.queryVolume p t v 1) s = .next u ∧
      u.volume v.toNat = { s.volume v.toNat with latch := false } ∧
      (∀ x, x ≠ v.toNat → u.volume x = s.volume x) ∧
      gains p ⟨t, 0x24, .done, s.generation, body⟩ s u ∧ portsGrow (taken p t s) u ∧ rejudged v.toNat s u ∧
      u = { s with ports := u.ports, volumes := u.volumes, watches := u.watches })

/-- Resolve with every read good (R13, R14): one report for each index of the run, by the first row of Table 1-4 that holds, and
the volume's state, size, holder, epoch and wanted indication; a count outside 1 to 64 is refused BAD_FORM, a run beyond
the size RANGE; nothing changes (that the outcome is DONE is the model's choice, log 43). -/
def Obligations.ResolveReports : Prop :=
  (∀ (p : Port) (t : Tag) (v : BitVec 16) (f : BitVec 32) (c : Byte) (s : State), admits s p t → named s v.toNat →
    (c.toNat = 0 ∨ 64 < c.toNat →
      exec (.resolve p t v f c []) s = .next (answered p t 0x30 (.refused .badForm) .empty s)) ∧
    (1 ≤ c.toNat → c.toNat ≤ 64 → (s.volume v.toNat).size ≤ f.toNat + c.toNat - 1 →
      exec (.resolve p t v f c []) s = .next (answered p t 0x30 (.refused .range) .empty s)) ∧
    (1 ≤ c.toNat → c.toNat ≤ 64 → f.toNat + c.toNat - 1 < (s.volume v.toNat).size →
      exec (.resolve p t v f c []) s = .next (answered p t 0x30 .done
        (.resolved ((List.range c.toNat).map (fun k => indexReport s v.toNat (f.toNat + k)))
          (s.volume v.toNat).state (s.volume v.toNat).size (s.lease v.toNat).hold.view (s.lease v.toNat).epoch
          (s.lease v.toNat).wanted) s))) ∧
  (∀ (s : State) (v i : Nat),
    ((v, i) ∈ s.poison → indexReport s v i = .poisoned) ∧
    (∀ e n g x rest, (v, i) ∉ s.poison → s.entry? v i = some e → s.relocationOf v i = some (n, g) →
      g.extents = x :: rest →
      indexReport s v i = .moving e.placement x.2 e.unwritten (decide (g.state = .binding))) ∧
    (∀ e, (v, i) ∉ s.poison → s.entry? v i = some e → s.relocationOf v i = none →
      indexReport s v i = .mapped e.placement e.unwritten) ∧
    (∀ n g, (v, i) ∉ s.poison → s.entry? v i = none → s.allocationOf v i = some (n, g) →
      indexReport s v i = .pending (decide (g.state = .binding)) g.owner) ∧
    ((v, i) ∉ s.poison → s.entry? v i = none → s.allocationOf v i = none → indexReport s v i = .unmapped))

/-- A Resolve that meets an uncorrectable entry cell in its run (R15, R160, R162, R165): the index is poisoned and reported
POISONED in the answer, the fault is recorded, and a part that is SERVING is FROZEN by it; no map changes (the outcome DONE is
log 43; that this answer is the last of the event, with the G and the lease that the freeze left, is the model's choice, log 8). -/
def Obligations.ResolvePoisons : Prop :=
  ∀ (p : Port) (t : Tag) (v : BitVec 16) (f : BitVec 32) (c : Byte) (i : Nat) (s : State), admits s p t →
    named s v.toNat → 1 ≤ c.toNat → c.toNat ≤ 64 → f.toNat + c.toNat - 1 < (s.volume v.toNat).size →
    f.toNat ≤ i → i < f.toNat + c.toNat →
    ∃ u reports, exec (.resolve p t v f c [(.entry v.toNat i, .uncorrectable)]) s = .next u ∧
      u.mode = .frozen ∧ (v.toNat, i) ∈ u.poison ∧
      u.faults.mapStore = s.faults.mapStore.take .uncorrectable (.store (.entry v.toNat i) s.faultsMet) ∧
      (s.mode = .serving → u.freezeCause = some ⟨.mapStore, .uncorrectable⟩) ∧
      (s.mode = .frozen → u.freezeCause = s.freezeCause) ∧
      reports.length = c.toNat ∧ reports[i - f.toNat]? = some .poisoned ∧
      lastAnswer p ⟨t, 0x30, .done, u.generation,
        .resolved reports (s.volume v.toNat).state (s.volume v.toNat).size (u.lease v.toNat).hold.view
          (u.lease v.toNat).epoch (u.lease v.toNat).wanted⟩ u ∧
      u.maps = s.maps ∧ u.heads = s.heads ∧ u.fences = s.fences ∧ u.grants = s.grants ∧ u.store = s.store

/-! ## Leases -/

/-- Claim, the answers at once (R74 to R77): on a FREE or ORPHANED lease the requester is the holder, at the next epoch, with
the orphan flag of an ORPHANED record; the holder is answered GRANTED and a waiter, or another head that will not wait, is
refused CONTENDED, and the record does not change; the watches that name a volume whose holder changes are judged again (R170);
a flag out of its values, or recall without wait, is refused BAD_FORM. That the holder's GRANTED names the volume is the model's
choice (log 44), and that CONTENDED carries no epoch (log 45). -/
def Obligations.ClaimAnsweredAtOnce : Prop :=
  ∀ (p : Port) (t : Tag) (v : BitVec 16) (w d : Byte) (s : State), admits s p t → named s v.toNat →
    (1 < w.toNat ∨ 1 < d.toNat ∨ w = 0#8 ∧ d = 1#8 →
      exec (.claim p t v w d) s = .next (answered p t 0x10 (.refused .badForm) .empty s)) ∧
    (w.toNat ≤ 1 → d.toNat ≤ w.toNat →
      ((s.lease v.toNat).hold = .free ∨ (s.lease v.toNat).hold = .orphaned →
        ∃ u, exec (.claim p t v w d) s = .next u ∧
          u.lease v.toNat = ⟨.held p, (s.lease v.toNat).epoch + 1, []⟩ ∧
          (∀ x, x ≠ v.toNat → u.lease x = s.lease x) ∧
          gains p ⟨t, 0x10, .granted, s.generation, .leased v.toNat ((s.lease v.toNat).epoch + 1) false
            (decide ((s.lease v.toNat).hold = .orphaned))⟩ s u ∧
          rejudged v.toNat s u ∧ portsGrow (taken p t s) u ∧
          u = { s with ports := u.ports, leases := u.leases, watches := u.watches }) ∧
      ((s.lease v.toNat).hold.holder? = some p →
        exec (.claim p t v w d) s = .next (answered p t 0x10 .granted
          (.leased v.toNat (s.lease v.toNat).epoch (s.lease v.toNat).wanted false) s)) ∧
      (∀ h, (s.lease v.toNat).hold.holder? = some h → h ≠ p →
        w = 0#8 ∨ (∃ x ∈ (s.lease v.toNat).waiters, x.port = p) →
        exec (.claim p t v w d) s = .next (answered p t 0x10 (.refused .contended)
          (.contended h (s.lease v.toNat).hold.isRecalling (s.lease v.toNat).waiters.length) s)))

/-- A Claim with wait 1 by a head that neither holds nor waits (R77, R78, R91): it stands last in the waiter queue with its recall
mark and is not answered; with recall 1 a HELD record is RECALLING with RECALL_TICKS, a running countdown is kept; the
holder, if JOINED, is sent LEASE_WANTED. -/
def Obligations.ClaimWaits : Prop :=
  ∀ (p : Port) (t : Tag) (v : BitVec 16) (demand : Bool) (h : Port) (hold : Hold) (s : State), admits s p t →
    named s v.toNat → (s.lease v.toNat).hold.holder? = some h → h ≠ p →
    (∀ x ∈ (s.lease v.toNat).waiters, x.port ≠ p) →
    hold = (if demand = true ∧ (s.lease v.toNat).hold = .held h then .recalling h s.timing.recallTicks
      else (s.lease v.toNat).hold) →
    ∃ u, exec (.claim p t v 1 (if demand then 1 else 0)) s = .next u ∧
      u.lease v.toNat = ⟨hold, (s.lease v.toNat).epoch, (s.lease v.toNat).waiters ++ [⟨p, t, demand⟩]⟩ ∧
      (∀ x, x ≠ v.toNat → u.lease x = s.lease x) ∧
      (s.joined h = true → (s.ports.get h).notices.length < Config.noticePlaces →
        Notice.leaseWanted v.toNat hold.isRecalling ∈ (u.ports.get h).notices) ∧
      (∀ q, (u.ports.get q).answers = (s.ports.get q).answers) ∧
      (∀ q, q ≠ h → u.ports.get q = (taken p t s).ports.get q) ∧ portsGrow (taken p t s) u ∧
      u = { s with ports := u.ports, leases := u.leases }

/-- Release by the holder (R79, R80): its STAGED grants on the volume are dropped, each in a batch of its own, and every other grant
stands, its own on other volumes, those of other heads and the BINDING ones; without a waiter the lease is FREE at its epoch;
with one it passes to the first, at the next epoch, RECALLING while a later mark remains, and that head's waiting Claim is
answered GRANTED (that it names the volume is the model's choice, log 44); the Release is answered DONE with the new holder and
epoch. The watches that name the volume are judged again (R170), and the releases serve paused deletions (R114). -/
def Obligations.ReleaseByHolder : Prop :=
  ∀ (p : Port) (t : Tag) (v : BitVec 16) (s : State), admits s p t → named s v.toNat → tablesLaw s → leaseLaw s →
    (s.lease v.toNat).heldBy p = true →
    ∃ u granted, exec (.release p t v) s = .next u ∧ serves granted s u ∧ rejudged v.toNat s u ∧
      drops (fun g => decide (g.owner = p ∧ g.volume = v.toNat)) granted s u ∧
      ((s.lease v.toNat).waiters = [] → u.lease v.toNat = ⟨.free, (s.lease v.toNat).epoch, []⟩) ∧
      (∀ w rest, (s.lease v.toNat).waiters = w :: rest →
        u.lease v.toNat = ⟨if rest.any Waiter.marked then .recalling w.port s.timing.recallTicks else .held w.port,
          (s.lease v.toNat).epoch + 1, rest⟩ ∧
        (s.linkUp w.port = true → gains w.port ⟨w.tag, 0x10, .granted, u.generation,
          .leased v.toNat ((s.lease v.toNat).epoch + 1) (!rest.isEmpty) false⟩ s u)) ∧
      (∀ x, x ≠ v.toNat → u.lease x = s.lease x) ∧
      lastAnswer p ⟨t, 0x11, .done, u.generation, .released (u.lease v.toNat).hold.view (u.lease v.toNat).epoch⟩ u ∧
      portsGrow (taken p t s) u ∧
      u = { s with
        ports := u.ports, watches := u.watches, volumes := u.volumes, tenants := u.tenants, spans := u.spans,
        pools := u.pools, grants := u.grants, leases := u.leases, generation := u.generation, grace := u.grace,
        stall := u.stall, promises := u.promises, admissionWait := u.admissionWait, deletionsDue := u.deletionsDue }

/-- Release by a waiter (R81, R82): it leaves the queue, its waiting Claim is answered CANCELLED and then the Release DONE;
holder and epoch stay; a recall without a mark left is withdrawn. A Release by a head that neither holds nor waits is refused
NOT_HOLDER and changes nothing. That the DONE answer carries the holder and epoch is the model's choice (log 42). -/
def Obligations.ReleaseByOthers : Prop :=
  ∀ (p : Port) (t : Tag) (v : BitVec 16) (s : State), admits s p t → named s v.toNat → tablesLaw s → leaseLaw s →
    (s.lease v.toNat).heldBy p = false →
    ((∀ w ∈ (s.lease v.toNat).waiters, w.port ≠ p) →
      exec (.release p t v) s = .next (answered p t 0x11 (.refused .notHolder) .empty s)) ∧
    (∀ w ∈ (s.lease v.toNat).waiters, w.port = p →
      ∃ u, exec (.release p t v) s = .next u ∧
        (u.lease v.toNat).waiters = (s.lease v.toNat).waiters.filter (fun x => decide (x.port ≠ p)) ∧
        (u.lease v.toNat).hold.holder? = (s.lease v.toNat).hold.holder? ∧
        (u.lease v.toNat).hold.isRecalling = (u.lease v.toNat).waiters.any Waiter.marked ∧
        (u.lease v.toNat).epoch = (s.lease v.toNat).epoch ∧
        (∀ x, x ≠ v.toNat → u.lease x = s.lease x) ∧
        (u.ports.get p).answers = (s.ports.get p).answers ++
          [⟨w.tag, 0x10, .refused .cancelled, s.generation, .empty⟩,
            ⟨t, 0x11, .done, s.generation, .released (u.lease v.toNat).hold.view (u.lease v.toNat).epoch⟩] ∧
        portsGrow (taken p t s) u ∧ u = { s with ports := u.ports, leases := u.leases })

/-! ## Grants -/

/-- Reserve by the holder of the lease of an ACTIVE volume, on unmapped and ungranted indices of an existing run, with
admission, a FREE record, space and quota (R50 to R52): the lowest FREE record holds a STAGED grant on the selected extents with
the next serial and its check word; the counts move; the pool's level is judged; the grant is answered. Each check of Table 3-3,
when those before it pass, refuses with its reason and its values, and changes nothing. -/
def Obligations.ReserveMakesGrant : Prop :=
  (∀ (p : Port) (t : Tag) (v : BitVec 16) (f : BitVec 32) (c : Byte) (n : Nat) (k : PoolId) (s : State), admits s p t →
    s.mode = .serving → v.toNat ≤ 4095 → (s.volume v.toNat).state = .active → 1 ≤ c.toNat → c.toNat ≤ 16 →
    (s.lease v.toNat).heldBy p = true → f.toNat + c.toNat - 1 < reserveSize s v.toNat →
    (∀ i, f.toNat ≤ i → i < f.toNat + c.toNat → s.entry? v.toNat i = none ∧ s.allocationOf v.toNat i = none) →
    s.admission < 3072 → s.freeRecord? = some n → (s.volume v.toNat).pool = k →
    (s.pools.get k).settings.floor + c.toNat ≤ (s.pools.get k).allocatable →
    (∀ q, (s.tenant (s.volume v.toNat).tenant).quota = some q →
      (s.tenant (s.volume v.toNat).tenant).used + (s.tenant (s.volume v.toNat).tenant).pending + c.toNat ≤ q) →
    ∃ u extents check, exec (.reserve p t v f c []) s = .next u ∧
      extents = (chooseRun k none c.toNat s.spans).1 ∧ u.spans = (chooseRun k none c.toNat s.spans).2 ∧
      check = checkWord 0 (leBytes 2 v.toNat ++ leBytes 4 f.toNat ++ leBytes 1 c.toNat ++
        leBytes 4 (s.lease v.toNat).epoch.toNat ++ leBytes 2 (s.serial + 1).toNat ++ extents.flatMap extentBytes) ∧
      u.serial = s.serial + 1 ∧
      u.grants = Table.insert n
        { state := .staged s.timing.grant, serial := s.serial + 1, kind := .allocate, owner := p, volume := v.toNat,
          epoch := (s.lease v.toNat).epoch, first := f.toNat, count := c.toNat,
          extents := (runIndices f.toNat c.toNat).zip extents, check := check } s.grants ∧
      u.volume v.toNat = { s.volume v.toNat with pending := (s.volume v.toNat).pending + c.toNat } ∧
      u.tenant (s.volume v.toNat).tenant = { s.tenant (s.volume v.toNat).tenant with
        pending := (s.tenant (s.volume v.toNat).tenant).pending + c.toNat } ∧
      (u.pools.get k).free = (s.pools.get k).free - c.toNat ∧
      (u.pools.get k).allocatable = (s.pools.get k).allocatable - c.toNat ∧
      (u.pools.get k).reserved = (s.pools.get k).reserved + c.toNat ∧
      (u.pools.get k).level = (u.pools.get k).judged ∧
      (∀ j, j ≠ k → u.pools.get j = s.pools.get j) ∧ (∀ x, x ≠ v.toNat → u.volume x = s.volume x) ∧
      (∀ x, x ≠ (s.volume v.toNat).tenant → u.tenant x = s.tenant x) ∧
      lastAnswer p ⟨t, 0x40, .granted, s.generation, .allocation ⟨n, s.serial + 1, f.toNat, c.toNat,
        (s.lease v.toNat).wanted, check, s.timing.grant,
        ((runIndices f.toNat c.toNat).zip extents).map Prod.snd⟩⟩ u ∧
      portsGrow (taken p t s) u ∧
      u = { s with
        ports := u.ports, spans := u.spans, serial := u.serial, grants := u.grants, pools := u.pools,
        volumes := u.volumes, tenants := u.tenants }) ∧
  (∀ (p : Port) (t : Tag) (v : BitVec 16) (f : BitVec 32) (c : Byte) (k : PoolId) (tenant : Tenant) (reason : Reason)
      (body : AnswerBody) (s : State), admits s p t → s.mode = .serving → named s v.toNat →
    k = (s.volume v.toNat).pool → tenant = s.tenant (s.volume v.toNat).tenant →
    ((c.toNat = 0 ∨ 16 < c.toNat) ∧ reason = .badForm ∧ body = .empty) ∨
      (1 ≤ c.toNat ∧ c.toNat ≤ 16 ∧
        (((s.lease v.toNat).heldBy p = false ∧ reason = .notHolder ∧ body = .empty) ∨
          ((s.lease v.toNat).heldBy p = true ∧
            (((s.volume v.toNat).state = .readOnly ∧ reason = .volumeState ∧ body = .empty) ∨
              ((s.volume v.toNat).state = .active ∧
                ((reserveSize s v.toNat ≤ f.toNat + c.toNat - 1 ∧ reason = .range ∧ body = .empty) ∨
                  (f.toNat + c.toNat - 1 < reserveSize s v.toNat ∧
                    ((∃ i, f.toNat ≤ i ∧ i < f.toNat + c.toNat ∧ s.entry? v.toNat i ≠ none ∧
                        (∀ j, f.toNat ≤ j → j < i → s.entry? v.toNat j = none) ∧ reason = .alreadyMapped ∧
                        body = .index i) ∨
                      ((∀ j, f.toNat ≤ j → j < f.toNat + c.toNat → s.entry? v.toNat j = none) ∧
                        ((∃ i, f.toNat ≤ i ∧ i < f.toNat + c.toNat ∧ s.allocationOf v.toNat i ≠ none ∧
                            (∀ j, f.toNat ≤ j → j < i → s.allocationOf v.toNat j = none) ∧ reason = .inGrant ∧
                            body = .index i) ∨
                          ((∀ j, f.toNat ≤ j → j < f.toNat + c.toNat → s.allocationOf v.toNat j = none) ∧
                            ((3072 ≤ s.admission ∧ reason = .graceFull ∧ body = .empty) ∨
                              (s.admission < 3072 ∧ s.freeRecord? = none ∧ reason = .noGrantSlot ∧ body = .empty) ∨
                              (s.admission < 3072 ∧ s.freeRecord? ≠ none ∧
                                (((s.pools.get k).allocatable < (s.pools.get k).settings.floor + c.toNat ∧
                                    reason = .poolFull ∧ body = .poolFull (s.pools.get k).allocatable
                                      (s.pools.get k).settings.floor) ∨
                                  (∃ q, (s.pools.get k).settings.floor + c.toNat ≤ (s.pools.get k).allocatable ∧
                                    tenant.quota = some q ∧ q < tenant.used + tenant.pending + c.toNat ∧
                                    reason = .quota ∧
                                    body = .headroom (some (q - (tenant.used + tenant.pending)))))))))))))))))) →
    exec (.reserve p t v f c []) s = .next (answered p t 0x40 (.refused reason) body s))

/-- Bind and CompleteRelocate that pass their arrival checks (R55, R56, R129, R130): the grant is BINDING, its countdown gone,
the request stands at the end of its volume's queue, and a CompleteRelocate takes its promise with a forming batch in the
volume's pool; nothing else changes. Each check of R55, R129 and R62 (Abandon), when those before it pass, refuses with its
reason and leaves the grant as it finds it. -/
def Obligations.BindAndCompleteCommit : Prop :=
  (∀ (p : Port) (t : Tag) (n : BitVec 16) (g : Grant) (countdown : Nat) (s : State), admits s p t →
    s.mode = .serving → n.toNat ≤ 1023 → s.grant? n.toNat = some g → g.owner = p → g.state = .staged countdown →
    (s.volume g.volume).state ≠ .deleting →
    (∀ (adv : Bool) (w : List Mask), g.kind = .allocate → w.length = g.count → 1 ≤ w.length → w.length ≤ 16 →
      exec (.bind p t n g.serial g.check (if adv then 1 else 0) w) s =
        .next { queued (.bind g.volume n.toNat adv w) p t s with
          grants := Table.insert n.toNat { g with state := .binding } s.grants }) ∧
    (∀ (adv : Bool) (w : List Mask) (check : BitVec 16), g.kind = .allocate → check ≠ g.check → 1 ≤ w.length →
      w.length ≤ 16 → exec (.bind p t n g.serial check (if adv then 1 else 0) w) s =
        .next (answered p t 0x41 (.refused .checkMismatch) .empty s)) ∧
    (g.kind = .relocate → s.admission < 3072 →
      exec (.completeRelocate p t n g.serial g.check) s =
        .next { queued (.completeRelocate g.volume n.toNat ⟨(s.volume g.volume).pool, []⟩) p t s with
          promises := s.promises + 1
          grants := Table.insert n.toNat { g with state := .binding } s.grants })) ∧
  (∀ (p : Port) (t : Tag) (n serial check : BitVec 16) (adv : Byte) (w : List Mask) (reason : Reason) (s : State),
    admits s p t → s.mode = .serving →
    ((1 < adv.toNat ∨ 1023 < n.toNat ∨ w = [] ∨ 16 < w.length) ∧ reason = .badForm) ∨
      (adv.toNat ≤ 1 ∧ n.toNat ≤ 1023 ∧ w ≠ [] ∧ w.length ≤ 16 ∧
        (((∀ g, s.grant? n.toNat = some g → g.serial ≠ serial) ∧ reason = .grantExpired) ∨
          ∃ g, s.grant? n.toNat = some g ∧ g.serial = serial ∧
            ((g.owner ≠ p ∧ reason = .notHolder) ∨
              (g.owner = p ∧ (g.kind = .relocate ∨ g.isStaged = false) ∧ reason = .grantState) ∨
              (g.owner = p ∧ g.kind = .allocate ∧ g.isStaged = true ∧
                (((s.volume g.volume).state = .deleting ∧ reason = .volumeState) ∨
                  ((s.volume g.volume).state ≠ .deleting ∧
                    ((check ≠ g.check ∧ reason = .checkMismatch) ∨
                      (check = g.check ∧ w.length ≠ g.count ∧ reason = .range)))))))) →
    exec (.bind p t n serial check adv w) s = .next (answered p t 0x41 (.refused reason) .empty s)) ∧
  (∀ (p : Port) (t : Tag) (n serial check : BitVec 16) (reason : Reason) (s : State), admits s p t → s.mode = .serving →
    (1023 < n.toNat ∧ reason = .badForm) ∨
      (n.toNat ≤ 1023 ∧
        (((∀ g, s.grant? n.toNat = some g → g.serial ≠ serial) ∧ reason = .grantExpired) ∨
          ∃ g, s.grant? n.toNat = some g ∧ g.serial = serial ∧
            ((g.owner ≠ p ∧ reason = .notHolder) ∨
              (g.owner = p ∧ (g.kind = .allocate ∨ g.isStaged = false) ∧ reason = .grantState) ∨
              (g.owner = p ∧ g.kind = .relocate ∧ g.isStaged = true ∧
                (((s.volume g.volume).state = .deleting ∧ reason = .volumeState) ∨
                  ((s.volume g.volume).state ≠ .deleting ∧
                    ((check ≠ g.check ∧ reason = .checkMismatch) ∨
                      (check = g.check ∧ 3072 ≤ s.admission ∧ reason = .graceFull)))))))) →
    exec (.completeRelocate p t n serial check) s = .next (answered p t 0x44 (.refused reason) .empty s)) ∧
  (∀ (p : Port) (t : Tag) (n serial : BitVec 16) (reason : Reason) (s : State), admits s p t →
    (1023 < n.toNat ∧ reason = .badForm) ∨
      (n.toNat ≤ 1023 ∧
        (((∀ g, s.grant? n.toNat = some g → g.serial ≠ serial) ∧ reason = .grantExpired) ∨
          ∃ g, s.grant? n.toNat = some g ∧ g.serial = serial ∧
            ((g.owner ≠ p ∧ reason = .notHolder) ∨
              (g.owner = p ∧ g.isStaged = false ∧ reason = .grantState)))) →
    exec (.abandon p t n serial) s = .next (answered p t 0x42 (.refused reason) .empty s))

/-- A STAGED grant is dropped by the Abandon of its owner, and by its expiry, the lowest first (R62, R63, R65, R66, R111, R112,
R114, R135): its record is FREE, G rises by one, a batch of its extents tagged with the new G joins the newest end of the grace
list, from which the oldest batches may be released at once; the extents pass from reserved to grace, and those of the released
batches from grace to free; an allocation grant's pending counts fall. While some JOINED head has not acknowledged the new G,
the batch is the newest of the list. Every JOINED head but the originator, whose notice set has room for all that the event adds, has
GENERATION with the new G pending, and for a relocation grant INVALIDATE of the volume, or else the INVALIDATE_ALL that was pending,
with the new G; an allocation grant's drop adds no INVALIDATE. The originator, which an expiry has not, is the requester of the
Abandon: its notice set gains pool levels alone; a head that is not JOINED is sent nothing (R109, R124, R174). The Abandon is
answered DONE with the new G. -/
def Obligations.DropsReturnExtents : Prop :=
  ∀ (n : Nat) (g : Grant) (c : Instr) (k : PoolId) (s t : State),
    s.grant? n = some g → g.isStaged = true → settled s → k = (s.volume g.volume).pool →
    ((∃ (p : Port) (tag : Tag) (w : BitVec 16), c = .abandon p tag w g.serial ∧ w.toNat = n ∧ n ≤ 1023 ∧ g.owner = p ∧
        admits s p tag ∧ t = taken p tag s) ∨
      (c = .grantExpiry ∧ g.state = .staged 0 ∧ t = s ∧
        ∃ before after, s.grants = before ++ (n, g) :: after ∧ ∀ e ∈ before, e.2.state ≠ .staged 0)) →
    ∃ u released granted, exec c s = .next u ∧ u.grants = Table.erase n s.grants ∧ u.generation = s.generation + 1 ∧
      s.grace ++ [⟨s.generation + 1, k, g.extents.map Prod.snd⟩] = released ++ u.grace ∧
      (u.pools.get k).reserved = (s.pools.get k).reserved - g.extents.length ∧
      (∀ j, j ≠ k → (u.pools.get j).reserved = (s.pools.get j).reserved) ∧
      (∀ j, (u.pools.get j).grace = (s.pools.get j).grace + (if j = k then g.extents.length else 0) -
          (((released.filter (fun b => decide (b.pool = j))).map (fun b => b.extents.length)).sum : Nat) ∧
        (u.pools.get j).free = (s.pools.get j).free +
          (((released.filter (fun b => decide (b.pool = j))).map (fun b => b.extents.length)).sum : Nat)) ∧
      (∀ p m, s.heads.get p = .joined m → m.ack.toNat < (s.generation + 1).toNat →
        (∃ older, u.grace = older ++ [⟨s.generation + 1, k, g.extents.map Prod.snd⟩]) ∧
        (s.grace = [] → u.stall = .quiet s.timing.grace)) ∧
      serves granted s u ∧
      (g.kind = .allocate →
        u.volume g.volume = unpaused granted g.volume
          { s.volume g.volume with pending := (s.volume g.volume).pending - g.count } ∧
        u.tenant (s.volume g.volume).tenant = { s.tenant (s.volume g.volume).tenant with
          pending := (s.tenant (s.volume g.volume).tenant).pending - g.count }) ∧
      (∀ v, v ≠ g.volume → u.volume v = unpaused granted v (s.volume v)) ∧
      (∀ x, x ≠ (s.volume g.volume).tenant → u.tenant x = s.tenant x) ∧
      (g.kind = .relocate → u.volume g.volume = unpaused granted g.volume (s.volume g.volume) ∧ u.tenants = s.tenants) ∧
      (∀ p tag w x, c = .abandon p tag w x → lastAnswer p ⟨tag, 0x42, .done, u.generation, .empty⟩ u ∧
        ((s.ports.get p).notices.length + s.grace.length + 2 < 64 →
          ∀ y ∈ (u.ports.get p).notices, y ∈ (s.ports.get p).notices ∨ y.code = 8)) ∧
      (∀ q, s.joined q = true → (∀ tag w x, c ≠ .abandon q tag w x) →
        (s.ports.get q).notices.length + s.grace.length + 2 < 64 →
        Notice.generation (s.generation + 1) ∈ (u.ports.get q).notices ∧
        (g.kind = .relocate → (∀ y ∈ (s.ports.get q).notices, y.isInvalidateAll = false) →
          Notice.invalidate g.volume (s.generation + 1) ∈ (u.ports.get q).notices) ∧
        (g.kind = .relocate → (∃ y ∈ (s.ports.get q).notices, y.isInvalidateAll = true) →
          (∀ y ∈ (s.ports.get q).notices, y.isInvalidate = false) →
          Notice.invalidateAll (s.generation + 1) ∈ (u.ports.get q).notices) ∧
        (g.kind = .allocate → ∀ y ∈ (u.ports.get q).notices, y.isInvalidate = true ∨ y.isInvalidateAll = true →
          y ∈ (s.ports.get q).notices)) ∧
      (∀ q, s.joined q = false → noNotice q s u) ∧
      portsGrow t u ∧
      u = { s with
        ports := u.ports, grants := u.grants, generation := u.generation, grace := u.grace, stall := u.stall,
        volumes := u.volumes, tenants := u.tenants, spans := u.spans, pools := u.pools, promises := u.promises,
        admissionWait := u.admissionWait, deletionsDue := u.deletionsDue }

/-- Relocate by the holder of the lease, on an entry that is MAPPED and in no held range, with admission, a FREE record and a
destination in another ONLINE span (R126 to R128): a STAGED relocation grant on the selected destination, the pool's counts and
level, and the answer with source and destination; the relocation floor plays no part. Each check of Table 7-1, when those
before it pass, refuses with its reason and its values, and changes nothing. -/
def Obligations.RelocateMakesGrant : Prop :=
  (∀ (p : Port) (t : Tag) (v : BitVec 16) (i : BitVec 32) (n : Nat) (k : PoolId) (e : Entry) (x : Extent) (s : State),
    admits s p t → s.mode = .serving → named s v.toNat → (s.lease v.toNat).heldBy p = true →
    i.toNat < (s.volume v.toNat).size → s.entry? v.toNat i.toNat = some e → inHeldRange s v.toNat i.toNat = false →
    s.relocationOf v.toNat i.toNat = none → s.admission < 3072 → s.freeRecord? = some n →
    (s.volume v.toNat).pool = k → chooseExtent s.spans k (some e.placement.span) = some x →
    ∃ u check, exec (.relocate p t v i []) s = .next u ∧
      check = checkWord 0 (leBytes 2 v.toNat ++ leBytes 4 i.toNat ++ leBytes 4 (s.lease v.toNat).epoch.toNat ++
        leBytes 2 (s.serial + 1).toNat ++ extentBytes e.placement ++ extentBytes x) ∧
      u.spans = takeExtent s.spans x ∧ u.serial = s.serial + 1 ∧
      u.grants = Table.insert n
        { state := .staged s.timing.grant, serial := s.serial + 1, kind := .relocate, owner := p, volume := v.toNat,
          epoch := (s.lease v.toNat).epoch, first := i.toNat, count := 1, extents := [(i.toNat, x)],
          check := check } s.grants ∧
      (u.pools.get k).free = (s.pools.get k).free - 1 ∧
      (u.pools.get k).allocatable = (s.pools.get k).allocatable - 1 ∧
      (u.pools.get k).reserved = (s.pools.get k).reserved + 1 ∧ (u.pools.get k).level = (u.pools.get k).judged ∧
      (∀ j, j ≠ k → u.pools.get j = s.pools.get j) ∧
      lastAnswer p ⟨t, 0x43, .granted, s.generation, .relocation n (s.serial + 1) v.toNat i.toNat e.placement x check
        s.timing.grant e.unwritten (s.lease v.toNat).wanted⟩ u ∧
      portsGrow (taken p t s) u ∧
      u = { s with
        ports := u.ports, spans := u.spans, serial := u.serial, grants := u.grants, pools := u.pools }) ∧
  (∀ (p : Port) (t : Tag) (v : BitVec 16) (i : BitVec 32) (k : PoolId) (reason : Reason) (body : AnswerBody) (s : State),
    admits s p t → s.mode = .serving → named s v.toNat → k = (s.volume v.toNat).pool →
    ((s.lease v.toNat).heldBy p = false ∧ reason = .notHolder ∧ body = .empty) ∨
      ((s.lease v.toNat).heldBy p = true ∧
        (((s.volume v.toNat).size ≤ i.toNat ∧ reason = .range ∧ body = .empty) ∨
          (i.toNat < (s.volume v.toNat).size ∧
            (((s.entry? v.toNat i.toNat = none ∨ inHeldRange s v.toNat i.toNat = true) ∧ reason = .notMapped ∧
                body = .index i.toNat) ∨
              ∃ e, s.entry? v.toNat i.toNat = some e ∧ inHeldRange s v.toNat i.toNat = false ∧
                ((s.relocationOf v.toNat i.toNat ≠ none ∧ reason = .grantState ∧ body = .index i.toNat) ∨
                  (s.relocationOf v.toNat i.toNat = none ∧
                    ((3072 ≤ s.admission ∧ reason = .graceFull ∧ body = .admission s.admission) ∨
                      (s.admission < 3072 ∧ s.freeRecord? = none ∧ reason = .noGrantSlot ∧ body = .empty) ∨
                      (s.admission < 3072 ∧ s.freeRecord? ≠ none ∧
                        (∀ n, (s.spans.get n).state = .online → (s.spans.get n).pool = k → n ≠ e.placement.span →
                          (s.spans.get n).freeCount = 0) ∧
                        reason = .poolFull ∧
                        body = .poolFullSource (s.pools.get k).allocatable e.placement.span)))))))) →
    exec (.relocate p t v i []) s = .next (answered p t 0x43 (.refused reason) body s))

/-! ## Watches -/

/-- Watch (R169): it is answered CHANGED at once when an item differs, with a report of each item, and is held with its timeout
otherwise. A held watch whose countdown has run out is answered UNCHANGED, the lowest port and tag first (R171). A Watch with a
wrong number of items, a repeated volume or a value out of its field's is refused BAD_FORM, else with a wrong timeout RANGE,
else for the first item whose volume R3 refuses, with that volume's id (the model's, log 21). At a report on a volume (R170)
every held watch that names it and differs there, or finds it DELETING or ABSENT, is answered CHANGED and leaves the list; every
other stays. -/
def Obligations.WatchHeldOrAnswered : Prop :=
  (∀ (p : Port) (t : Tag) (timeout : BitVec 32) (items : List WatchItem) (es : List WatchExpect) (s : State),
    admits s p t → expectAll items = some es → es ≠ [] → es.length ≤ 16 → (es.map WatchExpect.volume).Nodup →
    1 ≤ timeout.toNat → timeout.toNat ≤ 60000 → (∀ e ∈ es, named s e.volume) →
    ((∃ e ∈ es, (s.lease e.volume).hold.view ≠ e.holder ∨ (s.volume e.volume).latch ≠ e.latch) →
      exec (.watch p t timeout items) s = .next (answered p t 0x60 .changed
        (.watched (es.map (fun e => ⟨e.volume, (s.volume e.volume).state, (s.lease e.volume).hold.view,
          (s.volume e.volume).latch, (s.lease e.volume).epoch,
          decide ((s.lease e.volume).hold.view ≠ e.holder ∨ (s.volume e.volume).latch ≠ e.latch)⟩))) s)) ∧
    ((∀ e ∈ es, (s.lease e.volume).hold.view = e.holder ∧ (s.volume e.volume).latch = e.latch) →
      exec (.watch p t timeout items) s = .next { taken p t s with
        watches := insertWatch ⟨p, t, timeout.toNat, es⟩ s.watches })) ∧
  (∀ (w : Watch) (s : State), settled s → s.watches.find? (fun x => decide (x.countdown = 0)) = some w →
    s.linkUp w.port = true →
    exec .watchTimeout s = .next { s with
      watches := s.watches.filter (fun x => decide (¬ (x.port = w.port ∧ x.tag = w.tag)))
      ports := putAt s.ports w.port { s.ports.get w.port with
        answers := (s.ports.get w.port).answers ++ [⟨w.tag, 0x60, .unchanged, s.generation,
          .watched (w.items.map (fun e => ⟨e.volume, (s.volume e.volume).state, (s.lease e.volume).hold.view,
            (s.volume e.volume).latch, (s.lease e.volume).epoch, itemDiffers s e⟩))⟩] } }) ∧
  (∀ (p : Port) (t : Tag) (timeout : BitVec 32) (items : List WatchItem) (s : State), admits s p t →
    (∃ it ∈ items, 1 < it.latch.toNat ∨ (3 < it.holder.toNat ∧ it.holder ≠ 0x10#8 ∧ it.holder ≠ 0x11#8)) ∨
      items = [] ∨ 16 < items.length ∨ ¬ (items.map WatchItem.volume).Nodup →
    exec (.watch p t timeout items) s = .next (answered p t 0x60 (.refused .badForm) .empty s)) ∧
  (∀ (p : Port) (t : Tag) (timeout : BitVec 32) (items : List WatchItem) (es : List WatchExpect) (s : State),
    admits s p t → expectAll items = some es → es ≠ [] → es.length ≤ 16 → (es.map WatchExpect.volume).Nodup →
    (timeout.toNat = 0 ∨ 60000 < timeout.toNat →
      exec (.watch p t timeout items) s = .next (answered p t 0x60 (.refused .range) .empty s)) ∧
    (∀ before e after r, 1 ≤ timeout.toNat → timeout.toNat ≤ 60000 → es = before ++ e :: after →
      (∀ x ∈ before, named s x.volume) → refusedVolume s e.volume r →
      exec (.watch p t timeout items) s = .next (answered p t 0x60 (.refused r) (.volumeNamed e.volume) s))) ∧
  (∀ (v : Nat) (s : State),
    (∀ w, w ∈ (reportVolume v s).watches ↔ w ∈ s.watches ∧ ∀ e ∈ w.items, e.volume = v →
      (s.volume v).state ≠ .deleting ∧ (s.volume v).state ≠ .absent ∧ (s.lease v).hold.view = e.holder ∧
        (s.volume v).latch = e.latch) ∧
    rejudged v s (reportVolume v s) ∧ portsGrow s (reportVolume v s) ∧
    reportVolume v s = { s with watches := (reportVolume v s).watches, ports := (reportVolume v s).ports })

/-! ## Time -/

/-- The tick (R63, R82, R100, R106, R107, R120, R171): every running countdown falls by one, the next period is the one in
force, and nothing else changes. That a countdown which is 0 stays 0, and that a tick which brings one to 0 does no more, its expiry
being a command of its own, is the model's choice (log 26). -/
def Obligations.TickLowersCountdowns : Prop :=
  ∀ s : State, settled s → ∃ u, exec .tick s = .next u ∧
    (∀ p m, s.heads.get p = .joined m → u.heads.get p = .joined { m with liveness := m.liveness - 1 }) ∧
    (∀ p, s.joined p = false → u.heads.get p = s.heads.get p) ∧
    (∀ n g c, s.grant? n = some g → g.state = .staged c → u.grant? n = some { g with state := .staged (c - 1) }) ∧
    (∀ n g, s.grant? n = some g → g.state = .binding → u.grant? n = some g) ∧
    (∀ n, s.grant? n = none → u.grant? n = none) ∧
    (∀ v h c, (s.lease v).hold = .recalling h c → u.lease v = { s.lease v with hold := .recalling h (c - 1) }) ∧
    (∀ v, (s.lease v).hold.isRecalling = false → u.lease v = s.lease v) ∧
    (s.stall = .stopped → u.stall = .stopped) ∧ (∀ c, s.stall = .quiet c → u.stall = .quiet (c - 1)) ∧
    (∀ c g, s.stall = .warned c g → u.stall = .warned (c - 1) g) ∧
    u.watches = s.watches.map (fun w => { w with countdown := w.countdown - 1 }) ∧
    u.runningPeriod = s.timing.period ∧
    u = { s with
      heads := u.heads, grants := u.grants, leases := u.leases, stall := u.stall, watches := u.watches,
      runningPeriod := u.runningPeriod }

/-- The liveness countdown of the lowest head has run out (R100, R102, R106): the head is LAPSED with its incarnation behind an
asserted fence line, and nothing of it is left: its STAGED grants are dropped; a lease it held without a waiter is ORPHANED at its
epoch, one with a waiter has passed to the first with the orphan flag (that its answer names the volume is the model's choice,
log 44); on a port that is UP its waiting Claims are answered NOT_JOINED, and so are its watches but for those that name a lease it
lost; HEAD_LAPSED is pending at every other JOINED head whose notice set has room for all that the event adds. The other heads, and
their grants, leases, waiters and watches, stand; the releases serve paused deletions (R114). -/
def Obligations.LivenessExpiryLapses : Prop :=
  ∀ (p : Port) (m : Member) (s : State), settled s → tablesLaw s → leaseLaw s → s.heads.get p = .joined m → m.liveness = 0 →
    (∀ q, q < p → ∀ x, s.heads.get q = .joined x → x.liveness ≠ 0) →
    ∃ u granted, exec .livenessExpiry s = .next u ∧ lapses p m granted s u

/-- A recall has run out (R83), the lowest volume first: the former holder's STAGED grants on the volume are dropped, each in a
batch of its own, and every other grant stands, its own on other volumes, those of other heads and the BINDING ones; the lease has
passed to the first waiter, whose Claim is answered GRANTED with a clear orphan flag (that it names the volume is the model's
choice, log 44), the watches that name the volume are judged again (R170), the releases serve paused deletions (R114), and last of
all the former holder is sent LEASE_LOST. -/
def Obligations.RecallExpiryPasses : Prop :=
  ∀ (v : Nat) (h : Port) (w : Waiter) (rest : List Waiter) (s : State), settled s → tablesLaw s → leaseLaw s →
    (s.lease v).hold = .recalling h 0 → (s.lease v).waiters = w :: rest →
    (∀ x, x < v → ∀ q, (s.lease x).hold ≠ .recalling q 0) →
    ∃ u granted, exec .recallExpiry s = .next (addNotice h (.leaseLost v) u) ∧ serves granted s u ∧ rejudged v s u ∧
      drops (fun g => decide (g.owner = h ∧ g.volume = v)) granted s u ∧
      u.lease v = ⟨if rest.any Waiter.marked then .recalling w.port s.timing.recallTicks else .held w.port,
        (s.lease v).epoch + 1, rest⟩ ∧
      (∀ x, x ≠ v → u.lease x = s.lease x) ∧
      (s.linkUp w.port = true → gains w.port ⟨w.tag, 0x10, .granted, u.generation,
        .leased v ((s.lease v).epoch + 1) (!rest.isEmpty) false⟩ s u) ∧
      portsGrow s u ∧
      u = { s with
        ports := u.ports, watches := u.watches, volumes := u.volumes, tenants := u.tenants, spans := u.spans,
        pools := u.pools, grants := u.grants, leases := u.leases, generation := u.generation, grace := u.grace,
        stall := u.stall, promises := u.promises, admissionWait := u.admissionWait, deletionsDue := u.deletionsDue }

/-- The stall countdown has run out (R121, R122): in QUIET every JOINED head below the oldest tag is DUE and sent ACK_DUE, the
phase is WARNED with that tag and the countdown loaded; in WARNED every DUE head lapses, in ascending port, each lapse in full
before the next: the states between them are named, and what each does is `lapses`, with its NOT_JOINED answers, its HEAD_LAPSED to
the heads still JOINED then, and the grants, leases, waiters and watches that stand (that GRANTED names the volume is log 44). In
the end every head that was DUE is LAPSED behind an asserted fence line and nothing of it is left, no other head is touched, and
the releases have served paused deletions (R114). -/
def Obligations.StallExpiries : Prop :=
  (∀ (b : Batch) (rest : List Batch) (s : State), settled s → s.stall = .quiet 0 → s.grace = b :: rest →
    ∃ u, exec .stallExpiryQuiet s = .next u ∧ u.stall = .warned s.timing.grace b.tag ∧
      (∀ p m, s.heads.get p = .joined m →
        u.heads.get p = .joined { m with due := m.due || decide (m.ack.toNat < b.tag.toNat) } ∧
        (m.ack.toNat < b.tag.toNat → u.ports.get p = { s.ports.get p with
          notices := (addToSet s.generation (.ackDue b.tag) (s.ports.get p).notices (s.ports.get p).lost).1
          lost := (addToSet s.generation (.ackDue b.tag) (s.ports.get p).notices (s.ports.get p).lost).2 }) ∧
        (b.tag.toNat ≤ m.ack.toNat → u.ports.get p = s.ports.get p)) ∧
      (∀ p, s.joined p = false → u.heads.get p = s.heads.get p ∧ u.ports.get p = s.ports.get p) ∧
      u = { s with heads := u.heads, ports := u.ports, stall := u.stall }) ∧
  (∀ (tag : Gen) (s : State), settled s → tablesLaw s → leaseLaw s → s.stall = .warned 0 tag →
    ∃ u a b c granted, exec .stallExpiryWarned s = .next u ∧ evicts 0 s a ∧ evicts 1 a b ∧ evicts 2 b c ∧ evicts 3 c u ∧
      serves granted s u ∧
      (∀ p m, s.heads.get p = .joined m → m.due = true →
        u.heads.get p = .lapsed m.incarnation ∧ u.fences.get p = .asserted ∧ gone p u) ∧
      (∀ p, (s.heads.get p).isDue = false → u.heads.get p = s.heads.get p ∧ u.fences.get p = s.fences.get p) ∧
      portsGrow s u ∧
      u = { s with
        heads := u.heads, fences := u.fences, ports := u.ports, watches := u.watches, volumes := u.volumes,
        tenants := u.tenants, spans := u.spans, pools := u.pools, grants := u.grants, leases := u.leases,
        generation := u.generation, grace := u.grace, stall := u.stall,
        promises := u.promises, admissionWait := u.admissionWait, deletionsDue := u.deletionsDue })

/-! ## Links -/

/-- A DOWN link trains: the port is UP with every tag FREE and no answer, its notice set as it stood. The last byte of the
oldest answer leaves: its tag is FREE. With no answer waiting the oldest notice leaves, with the lost flag, and the lost
indication is false (R176, R178, R179, R181). -/
def Obligations.LinkEvents : Prop :=
  ∀ (p : Port) (s : State), settled s →
    (s.linkUp p = false →
      exec (.linkUp p) s = .next { s with ports := putAt s.ports p { s.ports.get p with
        linkUp := true, busy := Vector.replicate 16 false, answers := [] } }) ∧
    (∀ a rest, s.linkUp p = true → (s.ports.get p).answers = a :: rest →
      exec (.answerSent p) s = .next { s with ports := putAt s.ports p { s.ports.get p with
        answers := rest, busy := putAt (s.ports.get p).busy a.tag false, line := answerFrame a } }) ∧
    (∀ n rest, s.linkUp p = true → (s.ports.get p).answers = [] → (s.ports.get p).notices = n :: rest →
      exec (.noticeDelivered p) s = .next { s with ports := putAt s.ports p { s.ports.get p with
        notices := rest, lost := false, line := noticeFrame (s.ports.get p).lost n } }) ∧
    (∀ a rest, (s.ports.get p).answers = a :: rest → exec (.noticeDelivered p) s = .next s)

/-- A link goes DOWN (R26, R87, R104, R151, R172, R177, R178): the port is empty but for one INVALIDATE_ALL of a JOINED head; no
waiter, watch, queued request, intent or deletion names the port; a waiting Bind or CompleteRelocate stays without port and
tag; no lease changes its holder; every other item, intent and deletion, and of those named every other field, stands, and so do
every other field of the volumes, the head table, the fence lines and the grants. -/
def Obligations.LinkDownLosesPort : Prop :=
  ∀ (p : Port) (s : State), settled s → tablesLaw s → leaseLaw s → s.linkUp p = true →
    ∃ u, exec (.linkDown p) s = .next u ∧
      u.ports.get p = { HeadPort.down with
        notices := if s.joined p = true then [.invalidateAll s.generation] else [] } ∧
      (∀ v, (u.lease v).hold.holder? = (s.lease v).hold.holder? ∧ (u.lease v).epoch = (s.lease v).epoch ∧
        (u.lease v).waiters = (s.lease v).waiters.filter (fun w => decide (w.port ≠ p)) ∧
        (u.lease v).hold.isRecalling = (u.lease v).waiters.any Waiter.marked) ∧
      u.watches = s.watches.filter (fun w => decide (w.port ≠ p)) ∧
      (∀ q, (u.queue q).flight = (s.queue q).flight ∧
        (u.queue q).waiting = (s.queue q).waiting.filterMap (fun i =>
          if i.origin.map Origin.port ≠ some p then some i
          else if i.request.kind = .bind ∨ i.request.kind = .completeRelocate then some ⟨i.request, none⟩
          else none)) ∧
      u.logWait = s.logWait.map (fun i => if i.origin.map Origin.port = some p then { i with origin := none } else i) ∧
      u.log = s.log.map (fun l =>
        if l.intent.origin.map Origin.port = some p then { l with intent := { l.intent with origin := none } } else l) ∧
      (∀ v, u.volume v = { s.volume v with deletion := (s.volume v).deletion.map (fun d =>
        if d.requester.map Origin.port = some p then { d with requester := none } else d) }) ∧
      (∀ q, q ≠ p → (s.ports.get q).grows (u.ports.get q) ∧ (u.ports.get q).answers = (s.ports.get q).answers) ∧
      u = { s with
        ports := u.ports, leases := u.leases, watches := u.watches, queues := u.queues, shelf := u.shelf,
        logWait := u.logWait, log := u.log, volumes := u.volumes }

/-! ## The path of an intent -/

/-- VALIDATE (log 4), on the shelf change queue (R6, R38, R40 to R42, R107, R142): SetTenant, SetPool and Configure form their
intent; AddSpan one on an ABSENT span, within the registered total; DrainSpan one on a span in the other of its two states;
RemoveSpan one on a DRAINING span whose every extent is free; each of the other cases is answered, and nothing else changes. -/
def Obligations.ValidateShelfRequests : Prop :=
  ∀ (r : Request) (p : Port) (t : Tag) (rest : List Item) (reads : Reads) (s : State),
    due? s = some (.front .shelf) → s.shelf = ⟨none, ⟨r, some ⟨p, t⟩⟩ :: rest⟩ → s.linkUp p = true →
    (∀ kind e,
      ((∃ te q, r = .setTenant te q ∧ kind = .tenant te ∧ e = .setTenant te q) ∨
        (∃ k settings, r = .setPool k settings ∧ kind = .pool k ∧ e = .setPool k settings) ∨
        (∃ timing, r = .configure timing ∧ kind = .config timing ∧ e = .setConfig timing) ∨
        (∃ n k l, r = .addSpan n k l ∧ (s.spans.get n).state = .absent ∧ s.registeredTotal + l ≤ 33554432 ∧
          kind = .span .add n k ∧ e = .setSpan n .online k l) ∨
        (∃ n, r = .drainSpan n true ∧ (s.spans.get n).state = .online ∧ kind = .span .drain n (s.spans.get n).pool ∧
          e = .setSpan n .draining (s.spans.get n).pool (s.spans.get n).length) ∨
        (∃ n, r = .drainSpan n false ∧ (s.spans.get n).state = .draining ∧
          kind = .span .drain n (s.spans.get n).pool ∧
          e = .setSpan n .online (s.spans.get n).pool (s.spans.get n).length) ∨
        (∃ n, r = .removeSpan n ∧ (s.spans.get n).state = .draining ∧
          (s.spans.get n).freeCount = (s.spans.get n).length ∧ kind = .span .remove n (s.spans.get n).pool ∧
          e = .setSpan n .absent (s.spans.get n).pool (s.spans.get n).length)) →
      exec (.validate .shelf reads) s = .next { s with
        shelf := ⟨some .intent, rest⟩
        logWait := s.logWait ++ [⟨kind, .shelf, some ⟨p, t⟩, some p, [e], none⟩] }) ∧
    (∀ code outcome body,
      ((∃ n k l, r = .addSpan n k l ∧ (s.spans.get n).state ≠ .absent ∧ code = 0x50#8 ∧
          outcome = .refused .spanState ∧ body = .empty) ∨
        (∃ n k l, r = .addSpan n k l ∧ (s.spans.get n).state = .absent ∧ 33554432 < s.registeredTotal + l ∧
          code = 0x50#8 ∧ outcome = .refused .capacity ∧ body = .empty) ∨
        (∃ n on, r = .drainSpan n on ∧ (s.spans.get n).state = .absent ∧ code = 0x51#8 ∧
          outcome = .refused .spanState ∧ body = .empty) ∨
        (∃ n on, r = .drainSpan n on ∧ (s.spans.get n).state = (if on then .draining else .online) ∧ code = 0x51#8 ∧
          outcome = .done ∧ body = .spanDrained (s.spans.get n).state (s.spans.get n).freeCount) ∨
        (∃ n, r = .removeSpan n ∧
          ¬ ((s.spans.get n).state = .draining ∧ (s.spans.get n).freeCount = (s.spans.get n).length) ∧
          code = 0x52#8 ∧ outcome = .refused .spanState ∧ body = .empty)) →
      exec (.validate .shelf reads) s = .next { told p t code outcome body s with shelf := ⟨none, rest⟩ })

/-- VALIDATE (log 4), on a volume's change queue, with every read good (Table 8-1; R16, R18 to R20, R22, R57, R116, R117, R131):
the request at the front forms its intent or is answered. A DeleteVolume makes its volume DELETING, ends the watches that name
it and refuses the requests behind it; an Unmap takes a promise, the held entries, and the STAGED relocation grants in its
range, or is refused for an index in a grant or without admission. That a size or a mode already in force is answered DONE with the
fields of the answer at DONE is the model's choice (log 46). -/
def Obligations.ValidateVolumeRequests : Prop :=
  ∀ (r : Request) (v : Nat) (o : Option Origin) (rest : List Item) (s : State),
    due? s = some (.front (.volume v)) → s.queue (.volume v) = ⟨none, ⟨r, o⟩ :: rest⟩ →
    (∀ n adv w g, r = .bind v n adv w → s.grant? n = some g →
      ∃ u, exec (.validate (.volume v) []) s = .next u ∧
        forms rest .intent ⟨.bind n adv, .volume v, o, o.map Origin.port,
          (g.extents.zip w).map (fun e => .setEntry v e.1.1 e.1.2 (~~~e.2)), none⟩ s u ∧
        u = { s with queues := u.queues, logWait := u.logWait }) ∧
    (∀ n f g, r = .completeRelocate v n f → s.grant? n = some g →
      ∃ u, exec (.validate (.volume v) []) s = .next u ∧
        forms rest .intent ⟨.move n, .volume v, o, some g.owner,
          g.extents.map (fun e => .setPlacement v e.1 e.2), some f⟩ s u ∧
        u = { s with queues := u.queues, logWait := u.logWait }) ∧
    (∀ (p : Port) (t : Tag), o = some ⟨p, t⟩ → s.linkUp p = true →
      (∀ flight kind e,
        ((∃ te k size m, r = .createVolume v te k size m ∧ (s.volume v).state = .absent ∧ flight = .intent ∧
            kind = .volumeCreate ∧ e = .setVolume v m te k size) ∨
          ((s.lease v).hold.holder? = some p ∨ (s.lease v).hold.holder? = none) ∧
            ((∃ size, r = .resizeVolume v size ∧ kind = .volumeResize (s.volume v).size size ∧
                e = .setVolume v (s.volume v).state (s.volume v).tenant (s.volume v).pool size ∧
                (((s.volume v).size < size ∧ flight = .intent) ∨
                  (size < (s.volume v).size ∧ flight = .shrink size ∧ (∀ i, size ≤ i → s.entry? v i = none) ∧
                    ∀ g ∈ s.grants, g.2.volume = v → ∀ x ∈ g.2.extents, x.1 < size))) ∨
              (∃ m, r = .setVolumeMode v m ∧ (s.volume v).state ≠ m ∧ flight = .intent ∧ kind = .volumeMode m ∧
                e = .setVolume v m (s.volume v).tenant (s.volume v).pool (s.volume v).size)) ∨
          (∃ i w x, r = .noteWritten v i w ∧ (s.lease v).heldBy p = true ∧ (s.volume v).state = .active ∧
            i < (s.volume v).size ∧ s.entry? v i = some x ∧ x.unwritten &&& w ≠ 0 ∧ flight = .intent ∧
            kind = .note i ∧ e = .setMask v i (x.unwritten &&& ~~~w))) →
        ∃ u, exec (.validate (.volume v) []) s = .next u ∧
          forms rest flight ⟨kind, .volume v, o, some p, [e], none⟩ s u ∧
          u = { s with queues := u.queues, logWait := u.logWait }) ∧
      (∀ code outcome body,
        ((∃ te k size m, r = .createVolume v te k size m ∧
            ((s.volume v).state = .active ∨ (s.volume v).state = .readOnly) ∧ code = 0x20#8 ∧
            outcome = .refused .exists ∧ body = .empty) ∨
          ((∃ h, (s.lease v).hold.holder? = some h ∧ h ≠ p) ∧ outcome = .refused .notHolder ∧ body = .empty ∧
            (r = .deleteVolume v ∧ code = 0x21#8 ∨ (∃ size, r = .resizeVolume v size) ∧ code = 0x22#8 ∨
              (∃ m, r = .setVolumeMode v m) ∧ code = 0x23#8)) ∨
          ((s.lease v).heldBy p = false ∧ outcome = .refused .notHolder ∧ body = .empty ∧
            ((∃ i w, r = .noteWritten v i w) ∧ code = 0x31#8 ∨ (∃ f c, r = .unmap v f c) ∧ code = 0x32#8)) ∨
          (((s.lease v).hold.holder? = some p ∨ (s.lease v).hold.holder? = none) ∧
            ((r = .deleteVolume v ∧ (∃ e ∈ s.grants, e.2.volume = v ∧ e.2.state = .binding) ∧ code = 0x21#8 ∧
                outcome = .refused .busyVolume ∧ body = .empty) ∨
              (r = .resizeVolume v (s.volume v).size ∧ code = 0x22#8 ∧ outcome = .done ∧
                body = .resized (s.volume v).size (s.volume v).size) ∨
              (∃ size, r = .resizeVolume v size ∧ size < (s.volume v).size ∧
                ((∃ i x, size ≤ i ∧ s.entry? v i = some x) ∨
                  ∃ g ∈ s.grants, g.2.volume = v ∧ ∃ x ∈ g.2.extents, size ≤ x.1) ∧
                code = 0x22#8 ∧ outcome = .refused .mappedBeyond ∧ body = .empty) ∨
              (r = .setVolumeMode v (s.volume v).state ∧ code = 0x23#8 ∧ outcome = .done ∧
                body = .modeSet (s.volume v).state))) ∨
          ((s.lease v).heldBy p = true ∧
            ((∃ i w, r = .noteWritten v i w ∧ code = 0x31#8 ∧
                (((s.volume v).state ≠ .active ∧ outcome = .refused .volumeState ∧ body = .empty) ∨
                  ((s.volume v).state = .active ∧ (s.volume v).size ≤ i ∧ outcome = .refused .range ∧ body = .empty) ∨
                  ((s.volume v).state = .active ∧ i < (s.volume v).size ∧ s.entry? v i = none ∧
                    outcome = .refused .notMapped ∧ body = .empty) ∨
                  (∃ x, (s.volume v).state = .active ∧ i < (s.volume v).size ∧ s.entry? v i = some x ∧
                    x.unwritten &&& w = 0 ∧ outcome = .done ∧
                    body = .noted x.unwritten (s.lease v).wanted))) ∨
              (∃ f c, r = .unmap v f c ∧ code = 0x32#8 ∧
                (((s.volume v).state ≠ .active ∧ outcome = .refused .volumeState ∧ body = .empty) ∨
                  ((s.volume v).state = .active ∧ (s.volume v).size ≤ f + c - 1 ∧ outcome = .refused .range ∧
                    body = .empty) ∨
                  ((s.volume v).state = .active ∧ f + c - 1 < (s.volume v).size ∧
                    ((∃ i, f ≤ i ∧ i < f + c ∧
                        (∀ j, f ≤ j → j < i → s.allocationOf v j = none ∧
                          ∀ n g, s.relocationOf v j = some (n, g) → g.state ≠ .binding) ∧
                        (s.allocationOf v i ≠ none ∨ ∃ n g, s.relocationOf v i = some (n, g) ∧ g.state = .binding) ∧
                        outcome = .refused .inGrant ∧ body = .index i) ∨
                      ((∀ i, f ≤ i → i < f + c → s.allocationOf v i = none ∧
                          ∀ n g, s.relocationOf v i = some (n, g) → g.state ≠ .binding) ∧
                        (((∃ i e, f ≤ i ∧ i < f + c ∧ s.entry? v i = some e) ∧ 3072 ≤ s.admission ∧
                            outcome = .refused .graceFull ∧ body = .empty) ∨
                          ((∀ i, f ≤ i → i < f + c → s.entry? v i = none) ∧ outcome = .done ∧
                            body = .trimmed 0 0 (s.lease v).wanted)))))))))) →
        ∃ u, exec (.validate (.volume v) []) s = .next u ∧
          endsFront (.volume v) rest p t code outcome body s u) ∧
      (r = .deleteVolume v → (s.lease v).hold.holder? = some p ∨ (s.lease v).hold.holder? = none →
        (∀ e ∈ s.grants, e.2.volume = v → e.2.state ≠ .binding) →
        ∃ u, exec (.validate (.volume v) []) s = .next u ∧
          u.volume v = { s.volume v with state := .deleting, deletion := some ⟨some ⟨p, t⟩, .marking, false⟩ } ∧
          (∀ x, x ≠ v → u.volume x = s.volume x) ∧
          forms [] .deletion ⟨.deleteMark, .volume v, some ⟨p, t⟩, some p,
            [.setVolume v .deleting (s.volume v).tenant (s.volume v).pool (s.volume v).size], none⟩ s u ∧
          (∀ i ∈ rest, ∀ b, i.origin = some b → s.linkUp b.port = true →
            ⟨b.tag, i.request.kind.code, .refused .volumeState, s.generation, .empty⟩ ∈ (u.ports.get b.port).answers) ∧
          (∀ w, w ∈ u.watches ↔ w ∈ s.watches ∧ ∀ x ∈ w.items, x.volume ≠ v) ∧ portsGrow s u ∧
          u = { s with
            ports := u.ports, volumes := u.volumes, queues := u.queues, logWait := u.logWait,
            watches := u.watches }) ∧
      (∀ f c, r = .unmap v f c → tablesLaw s → (s.lease v).heldBy p = true → (s.volume v).state = .active →
        f + c - 1 < (s.volume v).size →
        (∀ i, f ≤ i → i < f + c → s.allocationOf v i = none ∧
          ∀ n g, s.relocationOf v i = some (n, g) → g.state ≠ .binding) →
        (∃ i e, f ≤ i ∧ i < f + c ∧ s.entry? v i = some e) → s.admission < 3072 →
        ∃ u held cancelled, exec (.validate (.volume v) []) s = .next u ∧
          (∀ i, i ∈ held ↔ f ≤ i ∧ i < f + c ∧ s.entry? v i ≠ none) ∧ held.Pairwise (· < ·) ∧
          cancelled = s.grants.filter (fun e => e.2.isStaged &&
            decide (e.2.kind = .relocate ∧ e.2.volume = v ∧ f ≤ e.2.first ∧ e.2.first < f + c)) ∧
          u.grants = s.grants.filter (fun e => decide (e ∉ cancelled)) ∧ u.promises = s.promises + 1 ∧
          forms rest (.trim held) ⟨.trim cancelled.length, .volume v, some ⟨p, t⟩, some p,
            held.map (fun i => .removeEntry v i),
            some ⟨(s.volume v).pool, cancelled.flatMap (fun e => e.2.extents.map Prod.snd)⟩⟩ s u ∧
          (u.pools.get (s.volume v).pool).reserved = (s.pools.get (s.volume v).pool).reserved -
            (cancelled.map (fun e => e.2.extents.length)).sum ∧
          (u.pools.get (s.volume v).pool).grace = (s.pools.get (s.volume v).pool).grace +
            (cancelled.map (fun e => e.2.extents.length)).sum ∧
          (∀ k, k ≠ (s.volume v).pool → u.pools.get k = s.pools.get k) ∧
          u = { s with
            grants := u.grants, promises := u.promises, pools := u.pools, queues := u.queues,
            logWait := u.logWait }))

/-- The log path (R112, R114, R145 to R148; log 4): the front of the log wait queue takes the lowest free slot and the next
sequence number; an acknowledged image makes its intent LOGGED (after a freeze only the image is whole, R162); the engine takes
the next LOGGED intent. The release of the oldest batch returns its extents to their free sets and its pool's counts and then
serves the paused deletions: those at the front of the wait list, in order, while the admission count is below 3072, each with
its promise and no longer paused. A deletion that has been granted admission forms its removal intent next (DELETION_ADMITTED);
where a listed entry cannot be read, it forms none and the part freezes (R160, R163; that the cells are read then is log 7). -/
def Obligations.LogPath : Prop :=
  (∀ (i : Intent) (rest : List Intent) (n : Nat) (s : State), s.mode = .serving → s.logWait = i :: rest → n < 512 →
    Table.get? s.store.slots n = none → (∀ m, m < n → Table.get? s.store.slots m ≠ none) →
    exec .logSlotTaken s = .next { s with
      logWait := rest
      sequence := s.sequence + 1
      log := s.log ++ [⟨n, s.sequence + 1, .writing, 0, true, i⟩]
      store := { s.store with
        slots := Table.insert n ⟨s.sequence + 1, false, i.kind.name, i.effects⟩ s.store.slots } }) ∧
  (∀ (l : LogIntent) (before after : List LogIntent) (image : SlotImage) (s : State), settled s →
    s.log = before ++ l :: after → (∀ x ∈ before ++ after, x.slot ≠ l.slot) → l.state = .writing → l.writeOut = true →
    Table.get? s.store.slots l.slot = some image →
    exec (.logWriteAck l.slot) s = .next { s with
      log := before ++ { l with state := if s.mode = .serving then .logged else .writing, writeOut := false } :: after
      store := { s.store with slots := Table.insert l.slot { image with whole := true } s.store.slots } }) ∧
  (∀ (l : LogIntent) (rest : List LogIntent) (s : State), due? s = some .apply → s.log = l :: rest →
    exec .applyStart s = .next { s with log := { l with state := .applying, writeOut := true } :: rest }) ∧
  (∀ (b : Batch) (rest : List Batch) (s : State), s.grace = b :: rest →
    ∃ granted, serves granted s (releaseOldest b rest s) ∧ (releaseOldest b rest s).grace = rest ∧
      granted.length = min s.admissionWait.length (3072 - (rest.length + s.promises)) ∧
      (∀ v, (releaseOldest b rest s).volume v = unpaused granted v (s.volume v)) ∧
      (rest = [] → (releaseOldest b rest s).stall = .stopped) ∧
      (rest ≠ [] → (releaseOldest b rest s).stall = .quiet s.timing.grace) ∧
      (∀ n i, FreeSet.wf (s.spans.get n).free = true →
        (FreeSet.mem i ((releaseOldest b rest s).spans.get n).free = true ↔
          FreeSet.mem i (s.spans.get n).free = true ∨ ⟨n, i⟩ ∈ b.extents)) ∧
      (∀ n, ((releaseOldest b rest s).spans.get n).freeCount =
        (s.spans.get n).freeCount + (b.extents.filter (fun e => decide (e.span = n))).length) ∧
      ((releaseOldest b rest s).pools.get b.pool).free = (s.pools.get b.pool).free + b.extents.length ∧
      ((releaseOldest b rest s).pools.get b.pool).grace = (s.pools.get b.pool).grace - b.extents.length ∧
      ((releaseOldest b rest s).pools.get b.pool).allocatable = (s.pools.get b.pool).allocatable +
        (b.extents.filter (fun e => decide ((s.spans.get e.span).state = .online))).length ∧
      ((releaseOldest b rest s).pools.get b.pool).level = ((releaseOldest b rest s).pools.get b.pool).judged ∧
      (∀ k, k ≠ b.pool → (releaseOldest b rest s).pools.get k = s.pools.get k) ∧ portsGrow s (releaseOldest b rest s)) ∧
  (∀ (v : Nat) (rest : List Nat) (s : State), due? s = some .removal → s.deletionsDue = v :: rest →
    ∃ u, exec (.deletionAdmitted []) s = .next u ∧ u.deletionsDue = rest ∧
      forms (s.queue (.volume v)).waiting .deletion ⟨.deleteBatch, .volume v, none, none,
        ((s.mapOf v).take 4096).map (fun e => .removeEntry v e.1), some ⟨(s.volume v).pool, []⟩⟩ s u ∧
      u = { s with
        deletionsDue := u.deletionsDue, queues := u.queues, logWait := u.logWait }) ∧
  (∀ (v : Nat) (rest : List Nat) (e : Nat × Entry) (s : State), due? s = some .removal → s.deletionsDue = v :: rest →
    e ∈ (s.mapOf v).take 4096 →
    ∃ u, exec (.deletionAdmitted [(.entry v e.1, .uncorrectable)]) s = .next u ∧ u.mode = .frozen ∧
      u.freezeCause = some ⟨.mapStore, .uncorrectable⟩ ∧ (v, e.1) ∈ u.poison ∧
      u.faults.mapStore = s.faults.mapStore.take .uncorrectable (.store (.entry v e.1) s.faultsMet) ∧
      u.logWait = [] ∧ u.deletionsDue = [] ∧ u.maps = s.maps ∧ u.store = s.store)

/-- The store acknowledges an effect (R148, Table 8-4; R10, R17, R58, R118, R132): it stands in the store and is applied to the
volatile tables, and the next write begins; a SET_SPAN makes its span ONLINE, DRAINING, ONLINE again or ABSENT and moves the
counts of its pool (R39 to R41); a configuration is not yet in force (R107). After a freeze it stands in the store only (R162).
A corrected read of the cell of a SET_PLACEMENT, SET_MASK or REMOVE_ENTRY is recorded first, and its write-back begins (R160;
which effects read is log 7; that none begins while one of the same cell is listed is the model's choice, log 10). -/
def Obligations.EffectsApply : Prop :=
  ∀ (l : LogIntent) (rest : List LogIntent) (e : Effect) (s : State), settled s → s.log = l :: rest →
    l.state = .applying → l.writeOut = true → l.intent.effects[l.applied]? = some e →
    (∀ v i, (∃ x, e = .setPlacement v i x) ∨ (∃ m, e = .setMask v i m) ∨ e = .removeEntry v i →
      exec (.effectWriteAck true) s = exec (.effectWriteAck false) (cellCorrected v i s)) ∧
    (e.readsCell = none → exec (.effectWriteAck true) s = exec (.effectWriteAck false) s) ∧
    (s.mode = .frozen → exec (.effectWriteAck false) s = .next { s with
      store := s.store.write e, log := { l with writeOut := false } :: rest }) ∧
    (s.mode = .serving →
      (∀ te q, e = .setTenant te q →
        ∃ u, exec (.effectWriteAck false) s = .next u ∧
          u.tenant te = { s.tenant te with quota := q } ∧ (∀ x, x ≠ te → u.tenant x = s.tenant x) ∧
          Table.get? u.store.quotas te = q ∧
          u = { s with
            store := s.store.write e, tenants := u.tenants, log := { l with applied := l.applied + 1 } :: rest }) ∧
      (∀ timing, e = .setConfig timing →
        exec (.effectWriteAck false) s = .next { s with
          store := { s.store with timing := timing }, log := { l with applied := l.applied + 1 } :: rest }) ∧
      (∀ k settings, e = .setPool k settings →
        ∃ u, exec (.effectWriteAck false) s = .next u ∧
          (u.pools.get k) = { s.pools.get k with settings := settings, level := (u.pools.get k).judged } ∧
          (∀ j, j ≠ k → u.pools.get j = s.pools.get j) ∧ portsGrow s u ∧
          u = { s with
            store := { s.store with pools := putAt s.store.pools k settings }, pools := u.pools, ports := u.ports,
            log := { l with applied := l.applied + 1 } :: rest }) ∧
      (∀ n k len, e = .setSpan n .online k len → (s.spans.get n).state = .absent →
        ∃ u, exec (.effectWriteAck false) s = .next u ∧
          u.spans = putAt s.spans n ⟨.online, k, len, FreeSet.full len, len, 0⟩ ∧
          (u.pools.get k).capacity = (s.pools.get k).capacity + len ∧ (u.pools.get k).free = (s.pools.get k).free + len ∧
          (u.pools.get k).allocatable = (s.pools.get k).allocatable + len ∧
          (u.pools.get k).level = (u.pools.get k).judged ∧ (∀ j, j ≠ k → u.pools.get j = s.pools.get j) ∧ portsGrow s u ∧
          u = { s with
            store := { s.store with spans := putAt s.store.spans n ⟨.online, k, len⟩ }, spans := u.spans,
            pools := u.pools, ports := u.ports, log := { l with applied := l.applied + 1 } :: rest }) ∧
      (∀ n k len st, e = .setSpan n st k len → (s.spans.get n).state = .online ∧ st = .draining ∨
          (s.spans.get n).state = .draining ∧ st = .online →
        ∃ u, exec (.effectWriteAck false) s = .next u ∧
          u.spans = putAt s.spans n { s.spans.get n with state := st } ∧
          (u.pools.get k) = { s.pools.get k with
            allocatable := (s.pools.get k).allocatable +
              (if st = .online then ((s.spans.get n).freeCount : Int) else -((s.spans.get n).freeCount : Int))
            level := (u.pools.get k).judged } ∧
          (∀ j, j ≠ k → u.pools.get j = s.pools.get j) ∧ portsGrow s u ∧
          u = { s with
            store := { s.store with spans := putAt s.store.spans n ⟨st, k, len⟩ }, spans := u.spans,
            pools := u.pools, ports := u.ports, log := { l with applied := l.applied + 1 } :: rest }) ∧
      (∀ n k len, e = .setSpan n .absent k len → (s.spans.get n).state = .draining →
        exec (.effectWriteAck false) s = .next { s with
          store := { s.store with spans := putAt s.store.spans n .absent }
          spans := putAt s.spans n .absent
          pools := putAt s.pools k { s.pools.get k with
            capacity := (s.pools.get k).capacity - len, free := (s.pools.get k).free - len }
          log := { l with applied := l.applied + 1 } :: rest }) ∧
      (∀ v i x m n adv g, e = .setEntry v i x m → l.intent.kind = .bind n adv → s.grant? n = some g →
        s.entry? v i = none →
        ∃ u, exec (.effectWriteAck false) s = .next u ∧ u.entry? v i = some ⟨x, m⟩ ∧
          (∀ w j, (w, j) ≠ (v, i) → u.entry? w j = s.entry? w j) ∧
          Table.get? (u.store.cellsOf v) i = some ⟨x, m⟩ ∧
          u.grants = Table.insert n { g with extents := g.extents.filter (fun y => decide (y.1 ≠ i)) } s.grants ∧
          u.pools = putAt s.pools (s.volume v).pool { s.pools.get (s.volume v).pool with
            reserved := (s.pools.get (s.volume v).pool).reserved - 1
            used := (s.pools.get (s.volume v).pool).used + 1 } ∧
          u.volume v = { s.volume v with
            mapped := (s.volume v).mapped + 1, pending := (s.volume v).pending - 1, latch := true } ∧
          (∀ w, w ≠ v → u.volume w = s.volume w) ∧ (∀ y, y ≠ (s.volume v).tenant → u.tenant y = s.tenant y) ∧
          u.tenant (s.volume v).tenant = { s.tenant (s.volume v).tenant with
            used := (s.tenant (s.volume v).tenant).used + 1
            pending := (s.tenant (s.volume v).tenant).pending - 1 } ∧
          u.log = { l with applied := l.applied + 1 } :: rest ∧ portsGrow s u ∧
          u = { s with
            store := s.store.write e, log := u.log, maps := u.maps, grants := u.grants, pools := u.pools,
            volumes := u.volumes, tenants := u.tenants, watches := u.watches, ports := u.ports }) ∧
      (∀ v i x n g f y, e = .setPlacement v i x → l.intent.kind = .move n → s.grant? n = some g →
        l.intent.forming = some f → s.entry? v i = some y →
        ∃ u, exec (.effectWriteAck false) s = .next u ∧ u.entry? v i = some { y with placement := x } ∧
          (∀ w j, (w, j) ≠ (v, i) → u.entry? w j = s.entry? w j) ∧
          u.grants = Table.insert n { g with extents := g.extents.filter (fun z => decide (z.1 ≠ i)) } s.grants ∧
          u.pools = putAt s.pools (s.volume v).pool { s.pools.get (s.volume v).pool with
            reserved := (s.pools.get (s.volume v).pool).reserved - 1
            grace := (s.pools.get (s.volume v).pool).grace + 1 } ∧
          u.volume v = { s.volume v with latch := true } ∧ (∀ w, w ≠ v → u.volume w = s.volume w) ∧
          u.log = { l with
            applied := l.applied + 1
            intent := { l.intent with forming := some ⟨f.pool, f.extents ++ [y.placement]⟩ } } :: rest ∧
          portsGrow s u ∧
          u = { s with
            store := s.store.write e, log := u.log, maps := u.maps, grants := u.grants, pools := u.pools,
            volumes := u.volumes, watches := u.watches, ports := u.ports }) ∧
      (∀ v i m y, e = .setMask v i m → s.entry? v i = some y →
        ∃ u, exec (.effectWriteAck false) s = .next u ∧ u.entry? v i = some { y with unwritten := m } ∧
          (∀ w j, (w, j) ≠ (v, i) → u.entry? w j = s.entry? w j) ∧
          u.volume v = { s.volume v with latch := decide (m ≠ y.unwritten) || (s.volume v).latch } ∧
          (∀ w, w ≠ v → u.volume w = s.volume w) ∧
          portsGrow s u ∧
          u = { s with
            store := s.store.write e, log := { l with applied := l.applied + 1 } :: rest, maps := u.maps,
            volumes := u.volumes, watches := u.watches, ports := u.ports }) ∧
      (∀ v i f y, e = .removeEntry v i → l.intent.forming = some f → s.entry? v i = some y →
        ∃ u, exec (.effectWriteAck false) s = .next u ∧ u.entry? v i = none ∧
          (∀ w j, (w, j) ≠ (v, i) → u.entry? w j = s.entry? w j) ∧ Table.get? (u.store.cellsOf v) i = none ∧
          u.pools = putAt s.pools (s.volume v).pool { s.pools.get (s.volume v).pool with
            used := (s.pools.get (s.volume v).pool).used - 1
            grace := (s.pools.get (s.volume v).pool).grace + 1 } ∧
          u.volume v = { s.volume v with mapped := (s.volume v).mapped - 1, latch := true } ∧
          (∀ w, w ≠ v → u.volume w = s.volume w) ∧ (∀ y, y ≠ (s.volume v).tenant → u.tenant y = s.tenant y) ∧
          u.tenant (s.volume v).tenant = { s.tenant (s.volume v).tenant with
            used := (s.tenant (s.volume v).tenant).used - 1 } ∧
          u.log = { l with
            applied := l.applied + 1
            intent := { l.intent with forming := some ⟨f.pool, f.extents ++ [y.placement]⟩ } } :: rest ∧
          portsGrow s u ∧
          u = { s with
            store := s.store.write e, log := u.log, maps := u.maps, pools := u.pools, volumes := u.volumes,
            tenants := u.tenants, watches := u.watches, ports := u.ports }) ∧
      (∀ v st te k size, tablesLaw s → e = .setVolume v st te k size →
        ∃ u granted, exec (.effectWriteAck false) s = .next u ∧ serves granted s u ∧
          (l.intent.kind = .volumeCreate →
            u.volume v = { s.volume v with
              state := st, tenant := te, pool := k, size := size, mapped := 0, pending := 0 } ∧
            u.lease v = ⟨.free, 0, []⟩ ∧ u.mapOf v = [] ∧
            (∀ x, x ≠ v → u.lease x = s.lease x ∧ u.mapOf x = s.mapOf x) ∧
            u = { s with
              store := s.store.write e, log := u.log, volumes := u.volumes, leases := u.leases, maps := u.maps,
              watches := u.watches, ports := u.ports }) ∧
          ((∃ a b, l.intent.kind = .volumeResize a b) ∨ l.intent.kind = .deleteMark →
            (∀ a b, l.intent.kind = .volumeResize a b → u.volume v = { s.volume v with size := size }) ∧
            (l.intent.kind = .deleteMark → u.volume v = { s.volume v with state := st }) ∧
            u = { s with store := s.store.write e, log := u.log, volumes := u.volumes }) ∧
          (l.intent.kind = .deleteEnd →
            u.volume v = { s.volume v with
              state := .absent, tenant := 0, pool := 0, size := 0, mapped := 0, pending := 0 } ∧
            u = { s with
              store := s.store.write e, log := u.log, volumes := u.volumes, watches := u.watches, ports := u.ports }) ∧
          (∀ m, l.intent.kind = .volumeMode m →
            u.volume v = unpaused granted v { s.volume v with
              state := st, tenant := te, pool := k, size := size, pending := (u.volume v).pending } ∧
            (st = .readOnly → u.grants = s.grants.filter (fun g =>
              !(g.2.isStaged && decide (g.2.volume = v ∧ g.2.kind = .allocate)))) ∧
            (st ≠ .readOnly → (u.volume v).pending = (s.volume v).pending ∧
              u = { s with store := s.store.write e, log := u.log, volumes := u.volumes }) ∧
            u = { s with
              store := s.store.write e, log := u.log, volumes := u.volumes, tenants := u.tenants, grants := u.grants,
              spans := u.spans, pools := u.pools, generation := u.generation, grace := u.grace, stall := u.stall,
              promises := u.promises, admissionWait := u.admissionWait, deletionsDue := u.deletionsDue,
              ports := u.ports }) ∧
          (∀ x, x ≠ v → u.volume x = unpaused granted x (s.volume x)) ∧
          u.store = s.store.write e ∧ u.log = { l with applied := l.applied + 1 } :: rest ∧ portsGrow s u))

/-- The store acknowledges a retirement (R149, Table 8-5): the retired mark takes the sequence number, the slot is free and goes
at once to the front of the log wait queue with the next sequence number (R146); then the intent is DONE, the front of its queue
is no longer in flight, its request is answered while it holds its port and tag and the port is UP, and its actions are the same
where no answer is sent (R150, R151; the wanted indication in a NoteWritten's is log 47); a configuration comes into force (R107);
a Bind's grant is FREE (R59), and with advance a follow-on grant is made (R60, R61), or BOUND carries the reason of the first
check of R60 that fails, `followOnFails`, and nothing else changes, or, on a cell that cannot be read, the part freezes, with the
slot that was given still held (R163), and the follow-on outcome is FROZEN (the model's, log 39); an Unmap and a relocation form
their batch, whose releases serve paused deletions (R118, R133; log 36). A deletion's mark drops the STAGED grants on the volume
and takes the lease from its holder, which is sent LEASE_LOST while JOINED (R23, R90), a removal batch forms its grace batch; with
entries left the deletion is then granted admission for its next batch or pauses (R24), with none it is ENDING (R25); the intent
that it forms next is due behind those of the deletions served before (R149 step 4; the model's due step, log 28); its end removes
the record (R25). After a freeze only the store changes (log 11). -/
def Obligations.RetirementsEnd : Prop :=
  (∀ (l : LogIntent) (rest : List LogIntent) (reads : Reads) (s : State), settled s → s.log = l :: rest → l.state = .applying →
    l.writeOut = true → l.applied = l.intent.effects.length →
    (s.mode = .frozen → exec (.retireAck reads) s = .next { s with
      store := { s.store with retired := l.seq, slots := Table.erase l.slot s.store.slots }
      log := { l with writeOut := false } :: rest }) ∧
    (s.mode = .serving →
      (s.logWait = [] → freeSlot l s = { s with
        store := { s.store with retired := l.seq, slots := Table.erase l.slot s.store.slots }
        log := rest }) ∧
      (∀ i w, s.logWait = i :: w → l.slot < 512 → freeSlot l s = { s with
        logWait := w
        sequence := s.sequence + 1
        log := rest ++ [⟨l.slot, s.sequence + 1, .writing, 0, true, i⟩]
        store := { s.store with
          retired := l.seq
          slots := Table.insert l.slot ⟨s.sequence + 1, false, i.kind.name, i.effects⟩
            (Table.erase l.slot s.store.slots) } })) ∧
    (s.mode = .serving → ∀ b, b = freeSlot l s → (∀ n, l.intent.kind = .bind n true → reads = []) →
      ∃ u granted, exec (.retireAck reads) s = .next u ∧ u.store = b.store ∧ u.log = b.log ∧
        u.logWait = b.logWait ∧ u.sequence = b.sequence ∧ portsGrow s u ∧
        (∀ code body, plainAnswer s l.intent code body →
          u.queue l.intent.queue = { s.queue l.intent.queue with flight := none } ∧
          otherQueues l.intent.queue s u ∧
          (∀ timing, l.intent.kind = .config timing → u.timing = timing) ∧
          ((∀ timing, l.intent.kind ≠ .config timing) → u.timing = s.timing) ∧
          (∀ p t, l.intent.origin = some ⟨p, t⟩ → s.linkUp p = true →
            u = { told p t code .done body b with queues := u.queues, shelf := u.shelf, timing := u.timing }) ∧
          (unanswered l.intent s → u = { b with queues := u.queues, shelf := u.shelf, timing := u.timing })) ∧
        (∀ n adv g, l.intent.kind = .bind n adv → s.grant? n = some g →
          u.queue l.intent.queue = { s.queue l.intent.queue with flight := none } ∧ otherQueues l.intent.queue s u ∧
          (unanswered l.intent s →
            u = { b with queues := u.queues, shelf := u.shelf, grants := Table.erase n s.grants }) ∧
          (∀ p t, l.intent.origin = some ⟨p, t⟩ → s.linkUp p = true →
            (adv = false ∨ (s.volume g.volume).size ≤ g.first + g.count →
              u = { told p t 0x41 .bound (.bound n g.serial g.first g.count (s.lease g.volume).wanted
                  (if adv then .endOfVolume else .notAttempted)) b with
                queues := u.queues, shelf := u.shelf, grants := Table.erase n s.grants }) ∧
            (∀ r, adv = true → g.first + g.count < (s.volume g.volume).size → followOnFails p n g r s →
              u = { told p t 0x41 .bound (.bound n g.serial g.first g.count (s.lease g.volume).wanted (.failed r)) b with
                queues := u.queues, shelf := u.shelf, grants := Table.erase n s.grants }) ∧
            (∀ f c k m, adv = true → f = g.first + g.count → c = min g.count ((s.volume g.volume).size - f) →
              f < (s.volume g.volume).size → s.joined p = true → (s.lease g.volume).heldBy p = true →
              (s.volume g.volume).state = .active → k = (s.volume g.volume).pool →
              (∀ i, f ≤ i → i < f + c → s.entry? g.volume i = none ∧ (s.freeGrant n).allocationOf g.volume i = none) →
              s.admission < 3072 → (s.freeGrant n).freeRecord? = some m →
              (s.pools.get k).settings.floor + c ≤ (s.pools.get k).allocatable → (s.pools.get k).level ≠ .critical →
              (s.tenant (s.volume g.volume).tenant).quotaAllows c = true →
              ∃ extents check, extents = (chooseRun k none c s.spans).1 ∧
                check = checkWord (BitVec.ofNat 16 f) (leBytes 2 (s.serial + 1).toNat ++ extents.flatMap extentBytes) ∧
                u.serial = s.serial + 1 ∧
                u.grants = Table.insert m
                  { state := .staged s.timing.grant, serial := s.serial + 1, kind := .allocate, owner := p,
                    volume := g.volume, epoch := (s.lease g.volume).epoch, first := f, count := c,
                    extents := (runIndices f c).zip extents, check := check } (Table.erase n s.grants) ∧
                (u.volume g.volume).pending = (s.volume g.volume).pending + c ∧
                lastAnswer p ⟨t, 0x41, .bound, s.generation, .bound n g.serial g.first g.count
                  (s.lease g.volume).wanted (.made ⟨m, s.serial + 1, f, c, (s.lease g.volume).wanted, check,
                    s.timing.grant, ((runIndices f c).zip extents).map Prod.snd⟩)⟩ u ∧
                u = { b with
                  queues := u.queues, shelf := u.shelf, serial := u.serial, grants := u.grants, spans := u.spans,
                  pools := u.pools, volumes := u.volumes, tenants := u.tenants,
                  ports := u.ports }))) ∧
        (∀ v f, l.intent.queue = .volume v → l.intent.forming = some f →
          (∃ c, l.intent.kind = .trim c) ∨
            (∃ n g e, l.intent.kind = .move n ∧ s.grant? n = some g ∧ s.entry? v g.first = some e) →
          u.generation = s.generation + 1 ∧ serves granted { s with promises := s.promises - 1 } u ∧
          (∀ x, u.volume x = unpaused granted x (s.volume x)) ∧
          (u.queue (.volume v)).flight = none ∧ (u.queue (.volume v)).waiting = (s.queue (.volume v)).waiting ∧
          (∀ q m, s.heads.get q = .joined m → m.ack.toNat < (s.generation + 1).toNat →
            (∃ older, u.grace = older ++ [⟨s.generation + 1, f.pool, f.extents⟩]) ∧
            (s.grace = [] → u.stall = .quiet s.timing.grace ∧
              ∀ h, s.joined h = true → l.intent.requester ≠ some h → (s.ports.get h).notices.length + 1 < 64 →
                (∀ x ∈ (s.ports.get h).notices, x.isInvalidateAll = false) →
                Notice.invalidate v (s.generation + 1) ∈ (u.ports.get h).notices ∧
                Notice.generation (s.generation + 1) ∈ (u.ports.get h).notices)) ∧
          (∀ c, l.intent.kind = .trim c → u.grants = s.grants ∧
            ∀ p t, l.intent.origin = some ⟨p, t⟩ → s.linkUp p = true → lastAnswer p ⟨t, 0x32, .done, u.generation,
              .trimmed l.intent.effects.length c (s.lease v).wanted⟩ u) ∧
          (∀ n g e, l.intent.kind = .move n → s.grant? n = some g → s.entry? v g.first = some e →
            u.grants = Table.erase n s.grants ∧
            ∀ p t, l.intent.origin = some ⟨p, t⟩ → s.linkUp p = true → lastAnswer p ⟨t, 0x44, .moved, u.generation,
              .moved n g.serial v g.first e.placement (f.extents.headD e.placement) e.unwritten (s.lease v).wanted⟩ u) ∧
          (unanswered l.intent s → ∀ q, (u.ports.get q).answers = (s.ports.get q).answers) ∧
          u = { b with
            queues := u.queues, ports := u.ports, grants := u.grants,
            generation := u.generation, grace := u.grace, stall := u.stall, spans := u.spans, pools := u.pools,
            volumes := u.volumes, promises := u.promises, admissionWait := u.admissionWait,
            deletionsDue := u.deletionsDue }) ∧
        (∀ v d, l.intent.queue = .volume v → (s.volume v).deletion = some d → v ∉ s.admissionWait →
          (l.intent.kind = .deleteMark →
            (tablesLaw s → u.grants = s.grants.filter (fun g => !(g.2.isStaged && decide (g.2.volume = v)))) ∧
            (∀ x, x ≠ v → u.lease x = s.lease x) ∧
            (∀ h, (s.lease v).hold.holder? = some h → s.joined h = true →
              (s.ports.get h).notices.length + 3 * (stagedBy (fun g => decide (g.volume = v)) s).length + s.grace.length < 64 →
              Notice.leaseLost v ∈ (u.ports.get h).notices) ∧
            u.lease v = ⟨.free, (s.lease v).epoch, []⟩ ∧
            (∀ w ∈ (s.lease v).waiters, s.linkUp w.port = true →
              ∃ a ∈ (u.ports.get w.port).answers, a.tag = w.tag ∧ a.code = 0x10#8 ∧
                a.outcome = .refused .noVolume ∧ a.body = .empty) ∧
            (u.volume v).state = (s.volume v).state ∧
            u = { b with
              ports := u.ports, grants := u.grants, leases := u.leases, watches := u.watches, generation := u.generation,
              grace := u.grace, stall := u.stall, spans := u.spans, pools := u.pools, volumes := u.volumes,
              tenants := u.tenants, promises := u.promises, admissionWait := u.admissionWait,
              deletionsDue := u.deletionsDue }) ∧
          (∀ f, l.intent.kind = .deleteBatch → l.intent.forming = some f →
            u.generation = s.generation + 1 ∧
            u = { b with
              ports := u.ports, generation := u.generation, grace := u.grace, stall := u.stall, spans := u.spans,
              pools := u.pools, volumes := u.volumes, promises := u.promises, admissionWait := u.admissionWait,
              deletionsDue := u.deletionsDue } ∧
            ∃ released, s.grace ++ [⟨s.generation + 1, f.pool, f.extents⟩] = released ++ u.grace ∧
              ∀ q m, s.heads.get q = .joined m → m.ack.toNat < (s.generation + 1).toNat →
                (⟨s.generation + 1, f.pool, f.extents⟩ : Batch) ∈ u.grace) ∧
          (∀ promises, (l.intent.kind = .deleteMark ∧ promises = s.promises) ∨
              (∃ f, l.intent.kind = .deleteBatch ∧ l.intent.forming = some f ∧ promises = s.promises - 1) →
            (u.queue (.volume v)) = s.queue (.volume v) ∧
            ((s.volume v).mapped = 0 →
              (u.volume v).deletion = some { d with stage := .ending } ∧
              s.admissionWait = granted ++ u.admissionWait ∧ u.deletionsDue = s.deletionsDue ++ granted ++ [v] ∧
              u.promises = promises + granted.length) ∧
            (0 < (s.volume v).mapped →
              ((u.volume v).deletion = some { d with stage := .removing, paused := false } ∧ u.admission ≤ 3072 ∧
                  s.admissionWait = granted ++ u.admissionWait ∧ u.deletionsDue = s.deletionsDue ++ granted ++ [v] ∧
                  u.promises = promises + granted.length + 1) ∨
                ((u.volume v).deletion = some { d with stage := .removing, paused := true } ∧ 3072 ≤ u.admission ∧
                  u.deletionsDue = s.deletionsDue ++ granted ∧ u.promises = promises + granted.length ∧
                  ∃ still, s.admissionWait = granted ++ still ∧ u.admissionWait = still ++ [v]))) ∧
          (l.intent.kind = .deleteEnd →
            u.volume v = { s.volume v with deletion := none } ∧ (u.queue (.volume v)).flight = none ∧
            (∀ p t, d.requester = some ⟨p, t⟩ → s.linkUp p = true →
              u = { told p t 0x21 .deleted .empty b with queues := u.queues, volumes := u.volumes }) ∧
            ((∀ o, d.requester = some o → s.linkUp o.port = false) →
              u = { b with queues := u.queues, volumes := u.volumes }))))) ∧
  (∀ (l : LogIntent) (rest : List LogIntent) (p : Port) (t : Tag) (n : Nat) (g : Grant) (f c i : Nat) (s : State), settled s →
    s.mode = .serving → s.log = l :: rest → l.state = .applying → l.writeOut = true →
    l.applied = l.intent.effects.length → l.intent.origin = some ⟨p, t⟩ → s.linkUp p = true →
    l.intent.kind = .bind n true → s.grant? n = some g → f = g.first + g.count →
    c = min g.count ((s.volume g.volume).size - f) → f < (s.volume g.volume).size → s.joined p = true →
    (s.lease g.volume).heldBy p = true → (s.volume g.volume).state = .active → f ≤ i → i < f + c →
    ∀ b, b = freeSlot l s →
    ∃ u, exec (.retireAck [(.entry g.volume i, .uncorrectable)]) s = .next u ∧ u.mode = .frozen ∧
      u.freezeCause = some ⟨.mapStore, .uncorrectable⟩ ∧ (g.volume, i) ∈ u.poison ∧
      u.faults.mapStore = s.faults.mapStore.take .uncorrectable (.store (.entry g.volume i) s.faultsMet) ∧
      u.grants = Table.erase n s.grants ∧ u.serial = s.serial ∧ u.maps = s.maps ∧
      u.store = b.store ∧ u.sequence = b.sequence ∧ u.logWait = [] ∧ u.queues = [] ∧ u.shelf = ⟨none, []⟩ ∧
      u.log = b.log.map (fun x => { x with intent := { x.intent with origin := none, forming := none } }) ∧
      (allForming b = [] → u.spans = s.spans ∧ u.pools = s.pools ∧ u.generation = s.generation ∧ u.grace = s.grace) ∧
      lastAnswer p ⟨t, 0x41, .bound, u.generation, .bound n g.serial g.first g.count (u.lease g.volume).wanted
        (.failed .frozen)⟩ u)

/-- A failed write and an uncorrectable read of an effect's cell (R157, R160, R162, R163, R165). While SERVING each is recorded
and freezes the part: the cause is set, the change queues and the log wait queue are empty, every waiting request is refused
FROZEN, no deletion runs, no map, grant or head changes, and the store is as it was. That those answers come before the forming
batches are settled, and so carry the G of before, is the model's choice (log 8). While FROZEN the uncorrectable read is
recorded and poisons its index, and nothing freezes anew (R159, R161, R165). A corrected read that came before an effect's
failed write is recorded first. During recovery the first fault is the cause of the FROZEN that ends it, and recovery stops
writing (write-backs are log 10, the place of a boot count failure is log 13, that of a retirement is log 41). -/
def Obligations.StoreFaultsFreeze : Prop :=
  (∀ (c : Instr) (source : FaultSource) (kind : FaultKind) (area : StoreArea) (s : State), settled s →
    s.mode = .serving →
    ((∃ l ∈ s.log, l.state = .writing ∧ l.writeOut = true ∧ c = .storeWriteFailed (.logImage l.slot) ∧
        source = .log ∧ kind = .writeFailed ∧ area = .logSlot l.slot) ∨
      (∃ l rest, s.log = l :: rest ∧ l.state = .applying ∧ l.writeOut = true ∧
        ((∃ e, l.intent.effects[l.applied]? = some e ∧ c = .storeWriteFailed (.effect false) ∧ source = .mapStore ∧
            kind = .writeFailed ∧ area = e.area) ∨
          (l.applied = l.intent.effects.length ∧ c = .storeWriteFailed .retirement ∧ source = .log ∧
            kind = .writeFailed ∧ area = .retiredMark) ∨
          (∃ e v i, l.intent.effects[l.applied]? = some e ∧ e.readsCell = some (v, i) ∧
            c = .effectReadUncorrectable ∧ source = .mapStore ∧ kind = .uncorrectable ∧ area = .entry v i))) ∨
      (area ∈ s.writeBacks ∧ c = .storeWriteFailed (.writeBack area) ∧ source = areaSource area ∧
        kind = .writeFailed)) →
    ∃ u, exec c s = .next u ∧ u.mode = .frozen ∧ u.freezeCause = some ⟨source, kind⟩ ∧
      u.faults = s.faults.put source ((s.faults.get source).take kind (.store area s.faultsMet)) ∧
      u.queues = [] ∧ u.shelf = ⟨none, []⟩ ∧ u.logWait = [] ∧ u.admissionWait = [] ∧ u.deletionsDue = [] ∧
      u.log.length = s.log.length ∧ (∀ l ∈ u.log, l.intent.origin = none) ∧
      (∀ v, (u.volume v).deletion = none ∧ (u.volume v).state = (s.volume v).state ∧
        (u.lease v).hold.holder? = (s.lease v).hold.holder? ∧ (u.lease v).epoch = (s.lease v).epoch) ∧
      (∀ q, ∀ i ∈ (s.queue q).waiting, ∀ b, i.origin = some b → s.linkUp b.port = true →
        ⟨b.tag, i.request.kind.code, .refused .frozen, s.generation, .empty⟩ ∈ (u.ports.get b.port).answers) ∧
      (allForming s = [] → u.generation = s.generation ∧ u.grace = s.grace ∧
        ∀ p, s.joined p = true → (s.ports.get p).notices.length < 64 →
          Notice.partFrozen ⟨source, kind⟩ ∈ (u.ports.get p).notices) ∧
      (∀ v i, (v, i) ∈ u.poison ↔ (v, i) ∈ s.poison ∨ kind = .uncorrectable ∧ area = .entry v i) ∧
      portsGrow s u ∧ u.maps = s.maps ∧ u.grants = s.grants ∧ u.heads = s.heads ∧ u.fences = s.fences ∧
      u.store = s.store ∧ u.watches = s.watches ∧ u.timing = s.timing) ∧
  (∀ (l : LogIntent) (rest : List LogIntent) (e : Effect) (v i : Nat) (s : State), settled s → s.log = l :: rest →
    l.state = .applying → l.writeOut = true → l.intent.effects[l.applied]? = some e → e.readsCell = some (v, i) →
    exec (.storeWriteFailed (.effect true)) s = exec (.storeWriteFailed (.effect false)) (cellCorrected v i s) ∧
    (s.mode = .frozen →
      ∃ u, exec .effectReadUncorrectable s = .next u ∧
        u.faults.mapStore = s.faults.mapStore.take .uncorrectable (.store (.entry v i) s.faultsMet) ∧
        (∀ w j, (w, j) ∈ u.poison ↔ (w, j) ∈ s.poison ∨ (w, j) = (v, i)) ∧
        u = { s with
          faults := u.faults, faultsMet := s.faultsMet + 1, poison := u.poison,
          log := { l with writeOut := false } :: rest })) ∧
  (∀ s : State, s.mode = .recovering → s.recovery.stage = .booted → s.recovery.writesStopped = false →
    exec (.storeWriteFailed .bootCount) s = .next { s with
      store := { s.store with bootCount := s.recovery.bootBefore }
      faultsMet := s.faultsMet + 1
      faults := s.faults.put .mapStore (s.faults.mapStore.take .writeFailed (.store .bootCount s.faultsMet))
      recovery := { s.recovery with
        writesStopped := true
        firstFault := some (s.recovery.firstFault.getD ⟨.mapStore, .writeFailed⟩) } }) ∧
  (∀ (s : State) (slot k : Nat) (image : SlotImage) (rest : List ReplayItem) (e : Effect), s.mode = .recovering →
    s.recovery.stage = .replaying → s.recovery.writesStopped = false → s.recovery.todo = ⟨slot, true⟩ :: rest →
    Table.get? s.store.slots slot = some image → image.effects[k]? = some e →
    exec (.storeWriteFailed (.replayEffect k [])) s = .next { s with
      store := (image.effects.take k).foldl (fun m x => m.write x) s.store
      faultsMet := s.faultsMet + 1
      faults := s.faults.put .mapStore (s.faults.mapStore.take .writeFailed (.store e.area s.faultsMet))
      recovery := { s.recovery with
        writesStopped := true
        firstFault := some (s.recovery.firstFault.getD ⟨.mapStore, .writeFailed⟩) } }) ∧
  (∀ (s : State) (slot : Nat) (image : SlotImage) (rest : List ReplayItem), s.mode = .recovering →
    s.recovery.stage = .replaying → s.recovery.writesStopped = false → s.recovery.blocked = false →
    s.recovery.todo = ⟨slot, true⟩ :: rest → Table.get? s.store.slots slot = some image →
    exec (.storeWriteFailed (.replayRetirement [])) s = .next { s with
      store := image.effects.foldl (fun m x => m.write x) s.store
      faultsMet := s.faultsMet + 1
      faults := s.faults.put .log (s.faults.log.take .writeFailed (.store .retiredMark s.faultsMet))
      recovery := { s.recovery with
        writesStopped := true
        firstFault := some (s.recovery.firstFault.getD ⟨.log, .writeFailed⟩) } })
end

