-- ==== Sys2Proof/Laws/Table.lean ====
section
/-! SUPPORT. Laws of the sparse tables, the free sets and the fixed tables: what a read gives after a write, and that every write keeps
the canonical form. -/

namespace Sys2Proof.Machine

/-! ## Fixed tables -/

@[simp] theorem putAt_get_self {α : Type} {n : Nat} (v : Vector α n) (i : Fin n) (a : α) : (putAt v i a).get i = a :=
  Vector.getElem_set_self i.isLt

theorem putAt_get_other {α : Type} {n : Nat} (v : Vector α n) (i j : Fin n) (a : α) (h : i ≠ j) :
    (putAt v i a).get j = v.get j := by
  exact Vector.getElem_set_ne i.isLt j.isLt (fun e => h (Fin.ext e))

theorem putAt_get {α : Type} {n : Nat} (v : Vector α n) (i j : Fin n) (a : α) :
    (putAt v i a).get j = if i = j then a else v.get j := by
  by_cases h : i = j
  · subst h; simp
  · simp [h, putAt_get_other v i j a h]

@[simp] theorem putAt_putAt {α : Type} {n : Nat} (v : Vector α n) (i : Fin n) (a b : α) :
    putAt (putAt v i a) i b = putAt v i b := by
  simp [putAt]

theorem putAt_self {α : Type} {n : Nat} (v : Vector α n) (i : Fin n) : putAt v i (v.get i) = v := by
  apply Vector.ext
  intro j hj
  refine (putAt_get v i ⟨j, hj⟩ (v.get i)).trans ?_
  split
  · rename_i h; subst h; rfl
  · rfl

@[simp] theorem mapAt_get {α β : Type} {n : Nat} (f : α → β) (v : Vector α n) (i : Fin n) :
    (mapAt f v).get i = f (v.get i) := by
  simp [mapAt]

/-- Two fixed tables with the same places are equal. -/
theorem vector_ext_get {α : Type} {n : Nat} (v w : Vector α n) (h : ∀ i : Fin n, v.get i = w.get i) : v = w := by
  apply Vector.ext
  intro i hi
  exact h ⟨i, hi⟩

@[simp] theorem replicate_get {α : Type} {n : Nat} (a : α) (i : Fin n) : (Vector.replicate n a).get i = a := by
  simp [Vector.get]

namespace Table

/-! ## Reading after writing -/

variable {α : Type}

@[simp] theorem get?_nil (n : Nat) : get? ([] : Table α) n = none := rfl

@[simp] theorem get?_insert_self (t : Table α) (n : Nat) (a : α) : get? (insert n a t) n = some a := by
  induction t with
  | nil => simp [insert, get?]
  | cons e t ih =>
    obtain ⟨k, b⟩ := e
    unfold insert
    by_cases h1 : n < k
    · simp [h1, get?]
    · by_cases h2 : n = k
      · simp [h2, get?]
      · have h3 : ¬ k = n := fun h => h2 h.symm
        simp [h1, h2, get?, h3, ih]

theorem get?_insert_other (t : Table α) (n m : Nat) (a : α) (h : n ≠ m) : get? (insert n a t) m = get? t m := by
  induction t with
  | nil => simp [insert, get?, h]
  | cons e t ih =>
    obtain ⟨k, b⟩ := e
    unfold insert
    by_cases h1 : n < k
    · simp [h1, get?, h]
    · by_cases h2 : n = k
      · subst h2; simp [get?, h]
      · rw [if_neg h1, if_neg h2]
        by_cases h3 : k = m
        · simp [get?, h3]
        · simp [get?, h3, ih]

@[simp] theorem get?_erase_self (t : Table α) (n : Nat) : get? (erase n t) n = none := by
  induction t with
  | nil => rfl
  | cons e t ih =>
    obtain ⟨k, b⟩ := e
    by_cases h : k = n
    · subst h; simpa [erase] using ih
    · simp only [erase, List.filter, ne_eq, h, not_false_eq_true, decide_true, get?, if_false]
      simpa [erase] using ih

theorem get?_erase_other (t : Table α) (n m : Nat) (h : n ≠ m) : get? (erase n t) m = get? t m := by
  induction t with
  | nil => rfl
  | cons e t ih =>
    obtain ⟨k, b⟩ := e
    by_cases hk : k = n
    · subst hk
      have : get? ((k, b) :: t) m = get? t m := by simp [get?, h]
      rw [this]; simpa [erase] using ih
    · by_cases hm : k = m
      · subst hm; simp [erase, hk, get?]
      · simp only [erase, List.filter, ne_eq, hk, not_false_eq_true, decide_true, get?, hm, if_false]
        simpa [erase] using ih

@[simp] theorem getD_setD_self [DecidableEq α] (d : α) (t : Table α) (n : Nat) (a : α) :
    getD d (setD d n a t) n = a := by
  by_cases h : a = d
  · simp [getD, setD, h]
  · simp [getD, setD, h]

theorem getD_setD_other [DecidableEq α] (d : α) (t : Table α) (n m : Nat) (a : α) (h : n ≠ m) :
    getD d (setD d n a t) m = getD d t m := by
  by_cases ha : a = d
  · simp [getD, setD, ha, get?_erase_other t n m h]
  · simp [getD, setD, ha, get?_insert_other t n m a h]

theorem getD_setD [DecidableEq α] (d : α) (t : Table α) (n m : Nat) (a : α) :
    getD d (setD d n a t) m = if n = m then a else getD d t m := by
  by_cases h : n = m
  · subst h; simp
  · simp [h, getD_setD_other d t n m a h]

/-- A change of every value, read back. -/
theorem get?_map {β : Type} (f : α → β) (t : Table α) (n : Nat) :
    get? (t.map (fun e => (e.1, f e.2))) n = (get? t n).map f := by
  induction t with
  | nil => rfl
  | cons e t ih =>
    obtain ⟨k, b⟩ := e
    by_cases h : k = n
    · simp [get?, h]
    · simp [get?, h, ih]

/-- What is listed at a key is an element of the table. -/
theorem mem_of_get? (t : Table α) (n : Nat) (a : α) (h : get? t n = some a) : (n, a) ∈ t := by
  induction t with
  | nil => simp at h
  | cons e t ih =>
    obtain ⟨k, b⟩ := e
    by_cases hk : k = n
    · subst hk; simp [get?] at h; simp [h]
    · simp only [get?, hk, if_false] at h
      exact List.mem_cons_of_mem _ (ih h)

/-! ## The canonical form -/

theorem mem_insert (t : Table α) (n : Nat) (a : α) (e : Nat × α) (h : e ∈ insert n a t) : e = (n, a) ∨ e ∈ t := by
  induction t with
  | nil => simp [insert] at h; exact Or.inl h
  | cons x t ih =>
    obtain ⟨k, b⟩ := x
    unfold insert at h
    split at h
    · rcases List.mem_cons.mp h with h | h
      · exact Or.inl h
      · exact Or.inr h
    · split at h
      · rcases List.mem_cons.mp h with h | h
        · exact Or.inl h
        · exact Or.inr (List.mem_cons_of_mem _ h)
      · rcases List.mem_cons.mp h with h | h
        · exact Or.inr (by simp [h])
        · rcases ih h with h | h
          · exact Or.inl h
          · exact Or.inr (List.mem_cons_of_mem _ h)

theorem wf_nil : wf ([] : Table α) = true := rfl

theorem wf_cons (k : Nat) (a : α) (t : Table α) :
    wf ((k, a) :: t) = true ↔ (∀ e ∈ t, k < e.1) ∧ wf t = true := by
  simp [wf]

theorem wf_insert (t : Table α) (n : Nat) (a : α) (h : wf t = true) : wf (insert n a t) = true := by
  induction t with
  | nil => simp [insert, wf]
  | cons x t ih =>
    obtain ⟨k, b⟩ := x
    rw [wf_cons] at h
    unfold insert
    split
    · rename_i hk
      rw [wf_cons]
      refine ⟨?_, by rw [wf_cons]; exact h⟩
      intro e he
      rcases List.mem_cons.mp he with he | he
      · subst he; exact hk
      · exact lt_trans hk (h.1 e he)
    · split
      · rename_i hk; subst hk
        rw [wf_cons]; exact h
      · rename_i h1 h2
        rw [wf_cons]
        refine ⟨?_, ih h.2⟩
        intro e he
        rcases mem_insert t n a e he with he | he
        · subst he; simp; omega
        · exact h.1 e he

theorem wf_erase (t : Table α) (n : Nat) (h : wf t = true) : wf (erase n t) = true := by
  simp only [wf, decide_eq_true_eq] at h ⊢
  exact h.sublist (List.filter_sublist.map Prod.fst)

theorem wfD_setD [DecidableEq α] (d : α) (t : Table α) (n : Nat) (a : α) (h : wfD d t = true) :
    wfD d (setD d n a t) = true := by
  simp only [wfD, Bool.and_eq_true, List.all_eq_true, decide_eq_true_eq] at h ⊢
  unfold setD
  split
  · refine ⟨wf_erase t n h.1, ?_⟩
    intro e he
    exact h.2 e (List.mem_of_mem_filter he)
  · rename_i ha
    refine ⟨wf_insert t n a h.1, ?_⟩
    intro e he
    rcases mem_insert t n a e he with he | he
    · subst he; exact ha
    · exact h.2 e he

end Table

/-! ## Free sets -/

namespace FreeSet

/-- A removal leaves every other member. -/
theorem mem_remove_other (f : FreeSet) (i j : Nat) (h : i ≠ j) : mem j (remove i f) = mem j f := by
  induction f with
  | nil => rfl
  | cons r t ih =>
    obtain ⟨lo, hi⟩ := r
    unfold remove
    split
    · rename_i hr
      simp only [mem, List.any_append, List.any_cons] at ih ⊢
      rw [ih]
      generalize (List.any t _) = rest
      rw [Bool.eq_iff_iff]
      cases rest <;> by_cases h1 : lo < i <;> by_cases h2 : i < hi <;> simp [h1, h2] <;> omega
    · simp only [mem, List.any_cons] at ih ⊢
      rw [ih]

/-- A removed index is no member. -/
theorem mem_remove_self (f : FreeSet) (i : Nat) : mem i (remove i f) = false := by
  induction f with
  | nil => rfl
  | cons r t ih =>
    obtain ⟨lo, hi⟩ := r
    unfold remove
    split
    · rename_i hr
      simp only [mem, List.any_append] at ih ⊢
      rw [ih]
      by_cases h1 : lo < i <;> by_cases h2 : i < hi <;> simp [h1, h2] <;> omega
    · rename_i hr
      simp only [mem, List.any_cons] at ih ⊢
      rw [ih]
      simp only [not_and] at hr
      simp
      omega

/-- The extent that a scan meets is a member. -/
theorem mem_of_next? (f : FreeSet) (c i : Nat) (h : next? c f = some i) : mem i f = true ∧ c ≤ i := by
  induction f with
  | nil => simp [next?] at h
  | cons r t ih =>
    obtain ⟨lo, hi⟩ := r
    unfold next? at h
    split at h
    · rename_i hr
      simp at h
      subst h
      simp [mem]
      omega
    · have := ih h
      simp only [mem, List.any_cons] at this ⊢
      simp [this]

end FreeSet

end Sys2Proof.Machine
end

