-- ==== Sys2Proof/Laws/State.lean ====
section
/-! SUPPORT. What each update of one record does to each field of the state, and what the readers of records give after it. -/

namespace Sys2Proof.Machine

open State

/-! ### setVolume -/

@[simp] theorem setVolume_mode (v : Nat) (r : Volume) (s : State) : (setVolume v r s).mode = s.mode := rfl
@[simp] theorem setVolume_bootCount (v : Nat) (r : Volume) (s : State) : (setVolume v r s).bootCount = s.bootCount := rfl
@[simp] theorem setVolume_resetCause (v : Nat) (r : Volume) (s : State) : (setVolume v r s).resetCause = s.resetCause := rfl
@[simp] theorem setVolume_freezeCause (v : Nat) (r : Volume) (s : State) : (setVolume v r s).freezeCause = s.freezeCause := rfl
@[simp] theorem setVolume_faults (v : Nat) (r : Volume) (s : State) : (setVolume v r s).faults = s.faults := rfl
@[simp] theorem setVolume_faultsMet (v : Nat) (r : Volume) (s : State) : (setVolume v r s).faultsMet = s.faultsMet := rfl
@[simp] theorem setVolume_poison (v : Nat) (r : Volume) (s : State) : (setVolume v r s).poison = s.poison := rfl
@[simp] theorem setVolume_writeBacks (v : Nat) (r : Volume) (s : State) : (setVolume v r s).writeBacks = s.writeBacks := rfl
@[simp] theorem setVolume_recovery (v : Nat) (r : Volume) (s : State) : (setVolume v r s).recovery = s.recovery := rfl
@[simp] theorem setVolume_timing (v : Nat) (r : Volume) (s : State) : (setVolume v r s).timing = s.timing := rfl
@[simp] theorem setVolume_runningPeriod (v : Nat) (r : Volume) (s : State) : (setVolume v r s).runningPeriod = s.runningPeriod := rfl
@[simp] theorem setVolume_heads (v : Nat) (r : Volume) (s : State) : (setVolume v r s).heads = s.heads := rfl
@[simp] theorem setVolume_fences (v : Nat) (r : Volume) (s : State) : (setVolume v r s).fences = s.fences := rfl
@[simp] theorem setVolume_ports (v : Nat) (r : Volume) (s : State) : (setVolume v r s).ports = s.ports := rfl
@[simp] theorem setVolume_watches (v : Nat) (r : Volume) (s : State) : (setVolume v r s).watches = s.watches := rfl
@[simp] theorem setVolume_volumes (v : Nat) (r : Volume) (s : State) : (setVolume v r s).volumes = Table.setD .absent v r s.volumes := rfl
@[simp] theorem setVolume_tenants (v : Nat) (r : Volume) (s : State) : (setVolume v r s).tenants = s.tenants := rfl
@[simp] theorem setVolume_maps (v : Nat) (r : Volume) (s : State) : (setVolume v r s).maps = s.maps := rfl
@[simp] theorem setVolume_spans (v : Nat) (r : Volume) (s : State) : (setVolume v r s).spans = s.spans := rfl
@[simp] theorem setVolume_pools (v : Nat) (r : Volume) (s : State) : (setVolume v r s).pools = s.pools := rfl
@[simp] theorem setVolume_grants (v : Nat) (r : Volume) (s : State) : (setVolume v r s).grants = s.grants := rfl
@[simp] theorem setVolume_serial (v : Nat) (r : Volume) (s : State) : (setVolume v r s).serial = s.serial := rfl
@[simp] theorem setVolume_leases (v : Nat) (r : Volume) (s : State) : (setVolume v r s).leases = s.leases := rfl
@[simp] theorem setVolume_generation (v : Nat) (r : Volume) (s : State) : (setVolume v r s).generation = s.generation := rfl
@[simp] theorem setVolume_grace (v : Nat) (r : Volume) (s : State) : (setVolume v r s).grace = s.grace := rfl
@[simp] theorem setVolume_promises (v : Nat) (r : Volume) (s : State) : (setVolume v r s).promises = s.promises := rfl
@[simp] theorem setVolume_admissionWait (v : Nat) (r : Volume) (s : State) : (setVolume v r s).admissionWait = s.admissionWait := rfl
@[simp] theorem setVolume_deletionsDue (v : Nat) (r : Volume) (s : State) : (setVolume v r s).deletionsDue = s.deletionsDue := rfl
@[simp] theorem setVolume_stall (v : Nat) (r : Volume) (s : State) : (setVolume v r s).stall = s.stall := rfl
@[simp] theorem setVolume_queues (v : Nat) (r : Volume) (s : State) : (setVolume v r s).queues = s.queues := rfl
@[simp] theorem setVolume_shelf (v : Nat) (r : Volume) (s : State) : (setVolume v r s).shelf = s.shelf := rfl
@[simp] theorem setVolume_logWait (v : Nat) (r : Volume) (s : State) : (setVolume v r s).logWait = s.logWait := rfl
@[simp] theorem setVolume_log (v : Nat) (r : Volume) (s : State) : (setVolume v r s).log = s.log := rfl
@[simp] theorem setVolume_sequence (v : Nat) (r : Volume) (s : State) : (setVolume v r s).sequence = s.sequence := rfl
@[simp] theorem setVolume_store (v : Nat) (r : Volume) (s : State) : (setVolume v r s).store = s.store := rfl
@[simp] theorem setVolume_pending (v : Nat) (r : Volume) (s : State) : (setVolume v r s).pending = s.pending := rfl

/-! ### updateTenant -/

@[simp] theorem updateTenant_mode (t : Nat) (f : Tenant → Tenant) (s : State) : (updateTenant t f s).mode = s.mode := rfl
@[simp] theorem updateTenant_bootCount (t : Nat) (f : Tenant → Tenant) (s : State) : (updateTenant t f s).bootCount = s.bootCount := rfl
@[simp] theorem updateTenant_resetCause (t : Nat) (f : Tenant → Tenant) (s : State) : (updateTenant t f s).resetCause = s.resetCause := rfl
@[simp] theorem updateTenant_freezeCause (t : Nat) (f : Tenant → Tenant) (s : State) : (updateTenant t f s).freezeCause = s.freezeCause := rfl
@[simp] theorem updateTenant_faults (t : Nat) (f : Tenant → Tenant) (s : State) : (updateTenant t f s).faults = s.faults := rfl
@[simp] theorem updateTenant_faultsMet (t : Nat) (f : Tenant → Tenant) (s : State) : (updateTenant t f s).faultsMet = s.faultsMet := rfl
@[simp] theorem updateTenant_poison (t : Nat) (f : Tenant → Tenant) (s : State) : (updateTenant t f s).poison = s.poison := rfl
@[simp] theorem updateTenant_writeBacks (t : Nat) (f : Tenant → Tenant) (s : State) : (updateTenant t f s).writeBacks = s.writeBacks := rfl
@[simp] theorem updateTenant_recovery (t : Nat) (f : Tenant → Tenant) (s : State) : (updateTenant t f s).recovery = s.recovery := rfl
@[simp] theorem updateTenant_timing (t : Nat) (f : Tenant → Tenant) (s : State) : (updateTenant t f s).timing = s.timing := rfl
@[simp] theorem updateTenant_runningPeriod (t : Nat) (f : Tenant → Tenant) (s : State) : (updateTenant t f s).runningPeriod = s.runningPeriod := rfl
@[simp] theorem updateTenant_heads (t : Nat) (f : Tenant → Tenant) (s : State) : (updateTenant t f s).heads = s.heads := rfl
@[simp] theorem updateTenant_fences (t : Nat) (f : Tenant → Tenant) (s : State) : (updateTenant t f s).fences = s.fences := rfl
@[simp] theorem updateTenant_ports (t : Nat) (f : Tenant → Tenant) (s : State) : (updateTenant t f s).ports = s.ports := rfl
@[simp] theorem updateTenant_watches (t : Nat) (f : Tenant → Tenant) (s : State) : (updateTenant t f s).watches = s.watches := rfl
@[simp] theorem updateTenant_volumes (t : Nat) (f : Tenant → Tenant) (s : State) : (updateTenant t f s).volumes = s.volumes := rfl
@[simp] theorem updateTenant_tenants (t : Nat) (f : Tenant → Tenant) (s : State) : (updateTenant t f s).tenants = Table.setD .fresh t (f (s.tenant t)) s.tenants := rfl
@[simp] theorem updateTenant_maps (t : Nat) (f : Tenant → Tenant) (s : State) : (updateTenant t f s).maps = s.maps := rfl
@[simp] theorem updateTenant_spans (t : Nat) (f : Tenant → Tenant) (s : State) : (updateTenant t f s).spans = s.spans := rfl
@[simp] theorem updateTenant_pools (t : Nat) (f : Tenant → Tenant) (s : State) : (updateTenant t f s).pools = s.pools := rfl
@[simp] theorem updateTenant_grants (t : Nat) (f : Tenant → Tenant) (s : State) : (updateTenant t f s).grants = s.grants := rfl
@[simp] theorem updateTenant_serial (t : Nat) (f : Tenant → Tenant) (s : State) : (updateTenant t f s).serial = s.serial := rfl
@[simp] theorem updateTenant_leases (t : Nat) (f : Tenant → Tenant) (s : State) : (updateTenant t f s).leases = s.leases := rfl
@[simp] theorem updateTenant_generation (t : Nat) (f : Tenant → Tenant) (s : State) : (updateTenant t f s).generation = s.generation := rfl
@[simp] theorem updateTenant_grace (t : Nat) (f : Tenant → Tenant) (s : State) : (updateTenant t f s).grace = s.grace := rfl
@[simp] theorem updateTenant_promises (t : Nat) (f : Tenant → Tenant) (s : State) : (updateTenant t f s).promises = s.promises := rfl
@[simp] theorem updateTenant_admissionWait (t : Nat) (f : Tenant → Tenant) (s : State) : (updateTenant t f s).admissionWait = s.admissionWait := rfl
@[simp] theorem updateTenant_deletionsDue (t : Nat) (f : Tenant → Tenant) (s : State) : (updateTenant t f s).deletionsDue = s.deletionsDue := rfl
@[simp] theorem updateTenant_stall (t : Nat) (f : Tenant → Tenant) (s : State) : (updateTenant t f s).stall = s.stall := rfl
@[simp] theorem updateTenant_queues (t : Nat) (f : Tenant → Tenant) (s : State) : (updateTenant t f s).queues = s.queues := rfl
@[simp] theorem updateTenant_shelf (t : Nat) (f : Tenant → Tenant) (s : State) : (updateTenant t f s).shelf = s.shelf := rfl
@[simp] theorem updateTenant_logWait (t : Nat) (f : Tenant → Tenant) (s : State) : (updateTenant t f s).logWait = s.logWait := rfl
@[simp] theorem updateTenant_log (t : Nat) (f : Tenant → Tenant) (s : State) : (updateTenant t f s).log = s.log := rfl
@[simp] theorem updateTenant_sequence (t : Nat) (f : Tenant → Tenant) (s : State) : (updateTenant t f s).sequence = s.sequence := rfl
@[simp] theorem updateTenant_store (t : Nat) (f : Tenant → Tenant) (s : State) : (updateTenant t f s).store = s.store := rfl
@[simp] theorem updateTenant_pending (t : Nat) (f : Tenant → Tenant) (s : State) : (updateTenant t f s).pending = s.pending := rfl

/-! ### setMap -/

@[simp] theorem setMap_mode (v : Nat) (m : Table Entry) (s : State) : (setMap v m s).mode = s.mode := rfl
@[simp] theorem setMap_bootCount (v : Nat) (m : Table Entry) (s : State) : (setMap v m s).bootCount = s.bootCount := rfl
@[simp] theorem setMap_resetCause (v : Nat) (m : Table Entry) (s : State) : (setMap v m s).resetCause = s.resetCause := rfl
@[simp] theorem setMap_freezeCause (v : Nat) (m : Table Entry) (s : State) : (setMap v m s).freezeCause = s.freezeCause := rfl
@[simp] theorem setMap_faults (v : Nat) (m : Table Entry) (s : State) : (setMap v m s).faults = s.faults := rfl
@[simp] theorem setMap_faultsMet (v : Nat) (m : Table Entry) (s : State) : (setMap v m s).faultsMet = s.faultsMet := rfl
@[simp] theorem setMap_poison (v : Nat) (m : Table Entry) (s : State) : (setMap v m s).poison = s.poison := rfl
@[simp] theorem setMap_writeBacks (v : Nat) (m : Table Entry) (s : State) : (setMap v m s).writeBacks = s.writeBacks := rfl
@[simp] theorem setMap_recovery (v : Nat) (m : Table Entry) (s : State) : (setMap v m s).recovery = s.recovery := rfl
@[simp] theorem setMap_timing (v : Nat) (m : Table Entry) (s : State) : (setMap v m s).timing = s.timing := rfl
@[simp] theorem setMap_runningPeriod (v : Nat) (m : Table Entry) (s : State) : (setMap v m s).runningPeriod = s.runningPeriod := rfl
@[simp] theorem setMap_heads (v : Nat) (m : Table Entry) (s : State) : (setMap v m s).heads = s.heads := rfl
@[simp] theorem setMap_fences (v : Nat) (m : Table Entry) (s : State) : (setMap v m s).fences = s.fences := rfl
@[simp] theorem setMap_ports (v : Nat) (m : Table Entry) (s : State) : (setMap v m s).ports = s.ports := rfl
@[simp] theorem setMap_watches (v : Nat) (m : Table Entry) (s : State) : (setMap v m s).watches = s.watches := rfl
@[simp] theorem setMap_volumes (v : Nat) (m : Table Entry) (s : State) : (setMap v m s).volumes = s.volumes := rfl
@[simp] theorem setMap_tenants (v : Nat) (m : Table Entry) (s : State) : (setMap v m s).tenants = s.tenants := rfl
@[simp] theorem setMap_maps (v : Nat) (m : Table Entry) (s : State) : (setMap v m s).maps = Table.setD [] v m s.maps := rfl
@[simp] theorem setMap_spans (v : Nat) (m : Table Entry) (s : State) : (setMap v m s).spans = s.spans := rfl
@[simp] theorem setMap_pools (v : Nat) (m : Table Entry) (s : State) : (setMap v m s).pools = s.pools := rfl
@[simp] theorem setMap_grants (v : Nat) (m : Table Entry) (s : State) : (setMap v m s).grants = s.grants := rfl
@[simp] theorem setMap_serial (v : Nat) (m : Table Entry) (s : State) : (setMap v m s).serial = s.serial := rfl
@[simp] theorem setMap_leases (v : Nat) (m : Table Entry) (s : State) : (setMap v m s).leases = s.leases := rfl
@[simp] theorem setMap_generation (v : Nat) (m : Table Entry) (s : State) : (setMap v m s).generation = s.generation := rfl
@[simp] theorem setMap_grace (v : Nat) (m : Table Entry) (s : State) : (setMap v m s).grace = s.grace := rfl
@[simp] theorem setMap_promises (v : Nat) (m : Table Entry) (s : State) : (setMap v m s).promises = s.promises := rfl
@[simp] theorem setMap_admissionWait (v : Nat) (m : Table Entry) (s : State) : (setMap v m s).admissionWait = s.admissionWait := rfl
@[simp] theorem setMap_deletionsDue (v : Nat) (m : Table Entry) (s : State) : (setMap v m s).deletionsDue = s.deletionsDue := rfl
@[simp] theorem setMap_stall (v : Nat) (m : Table Entry) (s : State) : (setMap v m s).stall = s.stall := rfl
@[simp] theorem setMap_queues (v : Nat) (m : Table Entry) (s : State) : (setMap v m s).queues = s.queues := rfl
@[simp] theorem setMap_shelf (v : Nat) (m : Table Entry) (s : State) : (setMap v m s).shelf = s.shelf := rfl
@[simp] theorem setMap_logWait (v : Nat) (m : Table Entry) (s : State) : (setMap v m s).logWait = s.logWait := rfl
@[simp] theorem setMap_log (v : Nat) (m : Table Entry) (s : State) : (setMap v m s).log = s.log := rfl
@[simp] theorem setMap_sequence (v : Nat) (m : Table Entry) (s : State) : (setMap v m s).sequence = s.sequence := rfl
@[simp] theorem setMap_store (v : Nat) (m : Table Entry) (s : State) : (setMap v m s).store = s.store := rfl
@[simp] theorem setMap_pending (v : Nat) (m : Table Entry) (s : State) : (setMap v m s).pending = s.pending := rfl

/-! ### setGrant -/

@[simp] theorem setGrant_mode (n : Nat) (g : Grant) (s : State) : (setGrant n g s).mode = s.mode := rfl
@[simp] theorem setGrant_bootCount (n : Nat) (g : Grant) (s : State) : (setGrant n g s).bootCount = s.bootCount := rfl
@[simp] theorem setGrant_resetCause (n : Nat) (g : Grant) (s : State) : (setGrant n g s).resetCause = s.resetCause := rfl
@[simp] theorem setGrant_freezeCause (n : Nat) (g : Grant) (s : State) : (setGrant n g s).freezeCause = s.freezeCause := rfl
@[simp] theorem setGrant_faults (n : Nat) (g : Grant) (s : State) : (setGrant n g s).faults = s.faults := rfl
@[simp] theorem setGrant_faultsMet (n : Nat) (g : Grant) (s : State) : (setGrant n g s).faultsMet = s.faultsMet := rfl
@[simp] theorem setGrant_poison (n : Nat) (g : Grant) (s : State) : (setGrant n g s).poison = s.poison := rfl
@[simp] theorem setGrant_writeBacks (n : Nat) (g : Grant) (s : State) : (setGrant n g s).writeBacks = s.writeBacks := rfl
@[simp] theorem setGrant_recovery (n : Nat) (g : Grant) (s : State) : (setGrant n g s).recovery = s.recovery := rfl
@[simp] theorem setGrant_timing (n : Nat) (g : Grant) (s : State) : (setGrant n g s).timing = s.timing := rfl
@[simp] theorem setGrant_runningPeriod (n : Nat) (g : Grant) (s : State) : (setGrant n g s).runningPeriod = s.runningPeriod := rfl
@[simp] theorem setGrant_heads (n : Nat) (g : Grant) (s : State) : (setGrant n g s).heads = s.heads := rfl
@[simp] theorem setGrant_fences (n : Nat) (g : Grant) (s : State) : (setGrant n g s).fences = s.fences := rfl
@[simp] theorem setGrant_ports (n : Nat) (g : Grant) (s : State) : (setGrant n g s).ports = s.ports := rfl
@[simp] theorem setGrant_watches (n : Nat) (g : Grant) (s : State) : (setGrant n g s).watches = s.watches := rfl
@[simp] theorem setGrant_volumes (n : Nat) (g : Grant) (s : State) : (setGrant n g s).volumes = s.volumes := rfl
@[simp] theorem setGrant_tenants (n : Nat) (g : Grant) (s : State) : (setGrant n g s).tenants = s.tenants := rfl
@[simp] theorem setGrant_maps (n : Nat) (g : Grant) (s : State) : (setGrant n g s).maps = s.maps := rfl
@[simp] theorem setGrant_spans (n : Nat) (g : Grant) (s : State) : (setGrant n g s).spans = s.spans := rfl
@[simp] theorem setGrant_pools (n : Nat) (g : Grant) (s : State) : (setGrant n g s).pools = s.pools := rfl
@[simp] theorem setGrant_grants (n : Nat) (g : Grant) (s : State) : (setGrant n g s).grants = Table.insert n g s.grants := rfl
@[simp] theorem setGrant_serial (n : Nat) (g : Grant) (s : State) : (setGrant n g s).serial = s.serial := rfl
@[simp] theorem setGrant_leases (n : Nat) (g : Grant) (s : State) : (setGrant n g s).leases = s.leases := rfl
@[simp] theorem setGrant_generation (n : Nat) (g : Grant) (s : State) : (setGrant n g s).generation = s.generation := rfl
@[simp] theorem setGrant_grace (n : Nat) (g : Grant) (s : State) : (setGrant n g s).grace = s.grace := rfl
@[simp] theorem setGrant_promises (n : Nat) (g : Grant) (s : State) : (setGrant n g s).promises = s.promises := rfl
@[simp] theorem setGrant_admissionWait (n : Nat) (g : Grant) (s : State) : (setGrant n g s).admissionWait = s.admissionWait := rfl
@[simp] theorem setGrant_deletionsDue (n : Nat) (g : Grant) (s : State) : (setGrant n g s).deletionsDue = s.deletionsDue := rfl
@[simp] theorem setGrant_stall (n : Nat) (g : Grant) (s : State) : (setGrant n g s).stall = s.stall := rfl
@[simp] theorem setGrant_queues (n : Nat) (g : Grant) (s : State) : (setGrant n g s).queues = s.queues := rfl
@[simp] theorem setGrant_shelf (n : Nat) (g : Grant) (s : State) : (setGrant n g s).shelf = s.shelf := rfl
@[simp] theorem setGrant_logWait (n : Nat) (g : Grant) (s : State) : (setGrant n g s).logWait = s.logWait := rfl
@[simp] theorem setGrant_log (n : Nat) (g : Grant) (s : State) : (setGrant n g s).log = s.log := rfl
@[simp] theorem setGrant_sequence (n : Nat) (g : Grant) (s : State) : (setGrant n g s).sequence = s.sequence := rfl
@[simp] theorem setGrant_store (n : Nat) (g : Grant) (s : State) : (setGrant n g s).store = s.store := rfl
@[simp] theorem setGrant_pending (n : Nat) (g : Grant) (s : State) : (setGrant n g s).pending = s.pending := rfl

/-! ### freeGrant -/

@[simp] theorem freeGrant_mode (n : Nat) (s : State) : (freeGrant n s).mode = s.mode := rfl
@[simp] theorem freeGrant_bootCount (n : Nat) (s : State) : (freeGrant n s).bootCount = s.bootCount := rfl
@[simp] theorem freeGrant_resetCause (n : Nat) (s : State) : (freeGrant n s).resetCause = s.resetCause := rfl
@[simp] theorem freeGrant_freezeCause (n : Nat) (s : State) : (freeGrant n s).freezeCause = s.freezeCause := rfl
@[simp] theorem freeGrant_faults (n : Nat) (s : State) : (freeGrant n s).faults = s.faults := rfl
@[simp] theorem freeGrant_faultsMet (n : Nat) (s : State) : (freeGrant n s).faultsMet = s.faultsMet := rfl
@[simp] theorem freeGrant_poison (n : Nat) (s : State) : (freeGrant n s).poison = s.poison := rfl
@[simp] theorem freeGrant_writeBacks (n : Nat) (s : State) : (freeGrant n s).writeBacks = s.writeBacks := rfl
@[simp] theorem freeGrant_recovery (n : Nat) (s : State) : (freeGrant n s).recovery = s.recovery := rfl
@[simp] theorem freeGrant_timing (n : Nat) (s : State) : (freeGrant n s).timing = s.timing := rfl
@[simp] theorem freeGrant_runningPeriod (n : Nat) (s : State) : (freeGrant n s).runningPeriod = s.runningPeriod := rfl
@[simp] theorem freeGrant_heads (n : Nat) (s : State) : (freeGrant n s).heads = s.heads := rfl
@[simp] theorem freeGrant_fences (n : Nat) (s : State) : (freeGrant n s).fences = s.fences := rfl
@[simp] theorem freeGrant_ports (n : Nat) (s : State) : (freeGrant n s).ports = s.ports := rfl
@[simp] theorem freeGrant_watches (n : Nat) (s : State) : (freeGrant n s).watches = s.watches := rfl
@[simp] theorem freeGrant_volumes (n : Nat) (s : State) : (freeGrant n s).volumes = s.volumes := rfl
@[simp] theorem freeGrant_tenants (n : Nat) (s : State) : (freeGrant n s).tenants = s.tenants := rfl
@[simp] theorem freeGrant_maps (n : Nat) (s : State) : (freeGrant n s).maps = s.maps := rfl
@[simp] theorem freeGrant_spans (n : Nat) (s : State) : (freeGrant n s).spans = s.spans := rfl
@[simp] theorem freeGrant_pools (n : Nat) (s : State) : (freeGrant n s).pools = s.pools := rfl
@[simp] theorem freeGrant_grants (n : Nat) (s : State) : (freeGrant n s).grants = Table.erase n s.grants := rfl
@[simp] theorem freeGrant_serial (n : Nat) (s : State) : (freeGrant n s).serial = s.serial := rfl
@[simp] theorem freeGrant_leases (n : Nat) (s : State) : (freeGrant n s).leases = s.leases := rfl
@[simp] theorem freeGrant_generation (n : Nat) (s : State) : (freeGrant n s).generation = s.generation := rfl
@[simp] theorem freeGrant_grace (n : Nat) (s : State) : (freeGrant n s).grace = s.grace := rfl
@[simp] theorem freeGrant_promises (n : Nat) (s : State) : (freeGrant n s).promises = s.promises := rfl
@[simp] theorem freeGrant_admissionWait (n : Nat) (s : State) : (freeGrant n s).admissionWait = s.admissionWait := rfl
@[simp] theorem freeGrant_deletionsDue (n : Nat) (s : State) : (freeGrant n s).deletionsDue = s.deletionsDue := rfl
@[simp] theorem freeGrant_stall (n : Nat) (s : State) : (freeGrant n s).stall = s.stall := rfl
@[simp] theorem freeGrant_queues (n : Nat) (s : State) : (freeGrant n s).queues = s.queues := rfl
@[simp] theorem freeGrant_shelf (n : Nat) (s : State) : (freeGrant n s).shelf = s.shelf := rfl
@[simp] theorem freeGrant_logWait (n : Nat) (s : State) : (freeGrant n s).logWait = s.logWait := rfl
@[simp] theorem freeGrant_log (n : Nat) (s : State) : (freeGrant n s).log = s.log := rfl
@[simp] theorem freeGrant_sequence (n : Nat) (s : State) : (freeGrant n s).sequence = s.sequence := rfl
@[simp] theorem freeGrant_store (n : Nat) (s : State) : (freeGrant n s).store = s.store := rfl
@[simp] theorem freeGrant_pending (n : Nat) (s : State) : (freeGrant n s).pending = s.pending := rfl

/-! ### setLease -/

@[simp] theorem setLease_mode (v : Nat) (l : Lease) (s : State) : (setLease v l s).mode = s.mode := rfl
@[simp] theorem setLease_bootCount (v : Nat) (l : Lease) (s : State) : (setLease v l s).bootCount = s.bootCount := rfl
@[simp] theorem setLease_resetCause (v : Nat) (l : Lease) (s : State) : (setLease v l s).resetCause = s.resetCause := rfl
@[simp] theorem setLease_freezeCause (v : Nat) (l : Lease) (s : State) : (setLease v l s).freezeCause = s.freezeCause := rfl
@[simp] theorem setLease_faults (v : Nat) (l : Lease) (s : State) : (setLease v l s).faults = s.faults := rfl
@[simp] theorem setLease_faultsMet (v : Nat) (l : Lease) (s : State) : (setLease v l s).faultsMet = s.faultsMet := rfl
@[simp] theorem setLease_poison (v : Nat) (l : Lease) (s : State) : (setLease v l s).poison = s.poison := rfl
@[simp] theorem setLease_writeBacks (v : Nat) (l : Lease) (s : State) : (setLease v l s).writeBacks = s.writeBacks := rfl
@[simp] theorem setLease_recovery (v : Nat) (l : Lease) (s : State) : (setLease v l s).recovery = s.recovery := rfl
@[simp] theorem setLease_timing (v : Nat) (l : Lease) (s : State) : (setLease v l s).timing = s.timing := rfl
@[simp] theorem setLease_runningPeriod (v : Nat) (l : Lease) (s : State) : (setLease v l s).runningPeriod = s.runningPeriod := rfl
@[simp] theorem setLease_heads (v : Nat) (l : Lease) (s : State) : (setLease v l s).heads = s.heads := rfl
@[simp] theorem setLease_fences (v : Nat) (l : Lease) (s : State) : (setLease v l s).fences = s.fences := rfl
@[simp] theorem setLease_ports (v : Nat) (l : Lease) (s : State) : (setLease v l s).ports = s.ports := rfl
@[simp] theorem setLease_watches (v : Nat) (l : Lease) (s : State) : (setLease v l s).watches = s.watches := rfl
@[simp] theorem setLease_volumes (v : Nat) (l : Lease) (s : State) : (setLease v l s).volumes = s.volumes := rfl
@[simp] theorem setLease_tenants (v : Nat) (l : Lease) (s : State) : (setLease v l s).tenants = s.tenants := rfl
@[simp] theorem setLease_maps (v : Nat) (l : Lease) (s : State) : (setLease v l s).maps = s.maps := rfl
@[simp] theorem setLease_spans (v : Nat) (l : Lease) (s : State) : (setLease v l s).spans = s.spans := rfl
@[simp] theorem setLease_pools (v : Nat) (l : Lease) (s : State) : (setLease v l s).pools = s.pools := rfl
@[simp] theorem setLease_grants (v : Nat) (l : Lease) (s : State) : (setLease v l s).grants = s.grants := rfl
@[simp] theorem setLease_serial (v : Nat) (l : Lease) (s : State) : (setLease v l s).serial = s.serial := rfl
@[simp] theorem setLease_leases (v : Nat) (l : Lease) (s : State) : (setLease v l s).leases = Table.setD .fresh v l s.leases := rfl
@[simp] theorem setLease_generation (v : Nat) (l : Lease) (s : State) : (setLease v l s).generation = s.generation := rfl
@[simp] theorem setLease_grace (v : Nat) (l : Lease) (s : State) : (setLease v l s).grace = s.grace := rfl
@[simp] theorem setLease_promises (v : Nat) (l : Lease) (s : State) : (setLease v l s).promises = s.promises := rfl
@[simp] theorem setLease_admissionWait (v : Nat) (l : Lease) (s : State) : (setLease v l s).admissionWait = s.admissionWait := rfl
@[simp] theorem setLease_deletionsDue (v : Nat) (l : Lease) (s : State) : (setLease v l s).deletionsDue = s.deletionsDue := rfl
@[simp] theorem setLease_stall (v : Nat) (l : Lease) (s : State) : (setLease v l s).stall = s.stall := rfl
@[simp] theorem setLease_queues (v : Nat) (l : Lease) (s : State) : (setLease v l s).queues = s.queues := rfl
@[simp] theorem setLease_shelf (v : Nat) (l : Lease) (s : State) : (setLease v l s).shelf = s.shelf := rfl
@[simp] theorem setLease_logWait (v : Nat) (l : Lease) (s : State) : (setLease v l s).logWait = s.logWait := rfl
@[simp] theorem setLease_log (v : Nat) (l : Lease) (s : State) : (setLease v l s).log = s.log := rfl
@[simp] theorem setLease_sequence (v : Nat) (l : Lease) (s : State) : (setLease v l s).sequence = s.sequence := rfl
@[simp] theorem setLease_store (v : Nat) (l : Lease) (s : State) : (setLease v l s).store = s.store := rfl
@[simp] theorem setLease_pending (v : Nat) (l : Lease) (s : State) : (setLease v l s).pending = s.pending := rfl

/-! ### updatePool -/

@[simp] theorem updatePool_mode (p : PoolId) (f : Pool → Pool) (s : State) : (updatePool p f s).mode = s.mode := rfl
@[simp] theorem updatePool_bootCount (p : PoolId) (f : Pool → Pool) (s : State) : (updatePool p f s).bootCount = s.bootCount := rfl
@[simp] theorem updatePool_resetCause (p : PoolId) (f : Pool → Pool) (s : State) : (updatePool p f s).resetCause = s.resetCause := rfl
@[simp] theorem updatePool_freezeCause (p : PoolId) (f : Pool → Pool) (s : State) : (updatePool p f s).freezeCause = s.freezeCause := rfl
@[simp] theorem updatePool_faults (p : PoolId) (f : Pool → Pool) (s : State) : (updatePool p f s).faults = s.faults := rfl
@[simp] theorem updatePool_faultsMet (p : PoolId) (f : Pool → Pool) (s : State) : (updatePool p f s).faultsMet = s.faultsMet := rfl
@[simp] theorem updatePool_poison (p : PoolId) (f : Pool → Pool) (s : State) : (updatePool p f s).poison = s.poison := rfl
@[simp] theorem updatePool_writeBacks (p : PoolId) (f : Pool → Pool) (s : State) : (updatePool p f s).writeBacks = s.writeBacks := rfl
@[simp] theorem updatePool_recovery (p : PoolId) (f : Pool → Pool) (s : State) : (updatePool p f s).recovery = s.recovery := rfl
@[simp] theorem updatePool_timing (p : PoolId) (f : Pool → Pool) (s : State) : (updatePool p f s).timing = s.timing := rfl
@[simp] theorem updatePool_runningPeriod (p : PoolId) (f : Pool → Pool) (s : State) : (updatePool p f s).runningPeriod = s.runningPeriod := rfl
@[simp] theorem updatePool_heads (p : PoolId) (f : Pool → Pool) (s : State) : (updatePool p f s).heads = s.heads := rfl
@[simp] theorem updatePool_fences (p : PoolId) (f : Pool → Pool) (s : State) : (updatePool p f s).fences = s.fences := rfl
@[simp] theorem updatePool_ports (p : PoolId) (f : Pool → Pool) (s : State) : (updatePool p f s).ports = s.ports := rfl
@[simp] theorem updatePool_watches (p : PoolId) (f : Pool → Pool) (s : State) : (updatePool p f s).watches = s.watches := rfl
@[simp] theorem updatePool_volumes (p : PoolId) (f : Pool → Pool) (s : State) : (updatePool p f s).volumes = s.volumes := rfl
@[simp] theorem updatePool_tenants (p : PoolId) (f : Pool → Pool) (s : State) : (updatePool p f s).tenants = s.tenants := rfl
@[simp] theorem updatePool_maps (p : PoolId) (f : Pool → Pool) (s : State) : (updatePool p f s).maps = s.maps := rfl
@[simp] theorem updatePool_spans (p : PoolId) (f : Pool → Pool) (s : State) : (updatePool p f s).spans = s.spans := rfl
@[simp] theorem updatePool_pools (p : PoolId) (f : Pool → Pool) (s : State) : (updatePool p f s).pools = putAt s.pools p (f (s.pools.get p)) := rfl
@[simp] theorem updatePool_grants (p : PoolId) (f : Pool → Pool) (s : State) : (updatePool p f s).grants = s.grants := rfl
@[simp] theorem updatePool_serial (p : PoolId) (f : Pool → Pool) (s : State) : (updatePool p f s).serial = s.serial := rfl
@[simp] theorem updatePool_leases (p : PoolId) (f : Pool → Pool) (s : State) : (updatePool p f s).leases = s.leases := rfl
@[simp] theorem updatePool_generation (p : PoolId) (f : Pool → Pool) (s : State) : (updatePool p f s).generation = s.generation := rfl
@[simp] theorem updatePool_grace (p : PoolId) (f : Pool → Pool) (s : State) : (updatePool p f s).grace = s.grace := rfl
@[simp] theorem updatePool_promises (p : PoolId) (f : Pool → Pool) (s : State) : (updatePool p f s).promises = s.promises := rfl
@[simp] theorem updatePool_admissionWait (p : PoolId) (f : Pool → Pool) (s : State) : (updatePool p f s).admissionWait = s.admissionWait := rfl
@[simp] theorem updatePool_deletionsDue (p : PoolId) (f : Pool → Pool) (s : State) : (updatePool p f s).deletionsDue = s.deletionsDue := rfl
@[simp] theorem updatePool_stall (p : PoolId) (f : Pool → Pool) (s : State) : (updatePool p f s).stall = s.stall := rfl
@[simp] theorem updatePool_queues (p : PoolId) (f : Pool → Pool) (s : State) : (updatePool p f s).queues = s.queues := rfl
@[simp] theorem updatePool_shelf (p : PoolId) (f : Pool → Pool) (s : State) : (updatePool p f s).shelf = s.shelf := rfl
@[simp] theorem updatePool_logWait (p : PoolId) (f : Pool → Pool) (s : State) : (updatePool p f s).logWait = s.logWait := rfl
@[simp] theorem updatePool_log (p : PoolId) (f : Pool → Pool) (s : State) : (updatePool p f s).log = s.log := rfl
@[simp] theorem updatePool_sequence (p : PoolId) (f : Pool → Pool) (s : State) : (updatePool p f s).sequence = s.sequence := rfl
@[simp] theorem updatePool_store (p : PoolId) (f : Pool → Pool) (s : State) : (updatePool p f s).store = s.store := rfl
@[simp] theorem updatePool_pending (p : PoolId) (f : Pool → Pool) (s : State) : (updatePool p f s).pending = s.pending := rfl

/-! ### updateSpan -/

@[simp] theorem updateSpan_mode (n : SpanId) (f : Span → Span) (s : State) : (updateSpan n f s).mode = s.mode := rfl
@[simp] theorem updateSpan_bootCount (n : SpanId) (f : Span → Span) (s : State) : (updateSpan n f s).bootCount = s.bootCount := rfl
@[simp] theorem updateSpan_resetCause (n : SpanId) (f : Span → Span) (s : State) : (updateSpan n f s).resetCause = s.resetCause := rfl
@[simp] theorem updateSpan_freezeCause (n : SpanId) (f : Span → Span) (s : State) : (updateSpan n f s).freezeCause = s.freezeCause := rfl
@[simp] theorem updateSpan_faults (n : SpanId) (f : Span → Span) (s : State) : (updateSpan n f s).faults = s.faults := rfl
@[simp] theorem updateSpan_faultsMet (n : SpanId) (f : Span → Span) (s : State) : (updateSpan n f s).faultsMet = s.faultsMet := rfl
@[simp] theorem updateSpan_poison (n : SpanId) (f : Span → Span) (s : State) : (updateSpan n f s).poison = s.poison := rfl
@[simp] theorem updateSpan_writeBacks (n : SpanId) (f : Span → Span) (s : State) : (updateSpan n f s).writeBacks = s.writeBacks := rfl
@[simp] theorem updateSpan_recovery (n : SpanId) (f : Span → Span) (s : State) : (updateSpan n f s).recovery = s.recovery := rfl
@[simp] theorem updateSpan_timing (n : SpanId) (f : Span → Span) (s : State) : (updateSpan n f s).timing = s.timing := rfl
@[simp] theorem updateSpan_runningPeriod (n : SpanId) (f : Span → Span) (s : State) : (updateSpan n f s).runningPeriod = s.runningPeriod := rfl
@[simp] theorem updateSpan_heads (n : SpanId) (f : Span → Span) (s : State) : (updateSpan n f s).heads = s.heads := rfl
@[simp] theorem updateSpan_fences (n : SpanId) (f : Span → Span) (s : State) : (updateSpan n f s).fences = s.fences := rfl
@[simp] theorem updateSpan_ports (n : SpanId) (f : Span → Span) (s : State) : (updateSpan n f s).ports = s.ports := rfl
@[simp] theorem updateSpan_watches (n : SpanId) (f : Span → Span) (s : State) : (updateSpan n f s).watches = s.watches := rfl
@[simp] theorem updateSpan_volumes (n : SpanId) (f : Span → Span) (s : State) : (updateSpan n f s).volumes = s.volumes := rfl
@[simp] theorem updateSpan_tenants (n : SpanId) (f : Span → Span) (s : State) : (updateSpan n f s).tenants = s.tenants := rfl
@[simp] theorem updateSpan_maps (n : SpanId) (f : Span → Span) (s : State) : (updateSpan n f s).maps = s.maps := rfl
@[simp] theorem updateSpan_spans (n : SpanId) (f : Span → Span) (s : State) : (updateSpan n f s).spans = putAt s.spans n (f (s.spans.get n)) := rfl
@[simp] theorem updateSpan_pools (n : SpanId) (f : Span → Span) (s : State) : (updateSpan n f s).pools = s.pools := rfl
@[simp] theorem updateSpan_grants (n : SpanId) (f : Span → Span) (s : State) : (updateSpan n f s).grants = s.grants := rfl
@[simp] theorem updateSpan_serial (n : SpanId) (f : Span → Span) (s : State) : (updateSpan n f s).serial = s.serial := rfl
@[simp] theorem updateSpan_leases (n : SpanId) (f : Span → Span) (s : State) : (updateSpan n f s).leases = s.leases := rfl
@[simp] theorem updateSpan_generation (n : SpanId) (f : Span → Span) (s : State) : (updateSpan n f s).generation = s.generation := rfl
@[simp] theorem updateSpan_grace (n : SpanId) (f : Span → Span) (s : State) : (updateSpan n f s).grace = s.grace := rfl
@[simp] theorem updateSpan_promises (n : SpanId) (f : Span → Span) (s : State) : (updateSpan n f s).promises = s.promises := rfl
@[simp] theorem updateSpan_admissionWait (n : SpanId) (f : Span → Span) (s : State) : (updateSpan n f s).admissionWait = s.admissionWait := rfl
@[simp] theorem updateSpan_deletionsDue (n : SpanId) (f : Span → Span) (s : State) : (updateSpan n f s).deletionsDue = s.deletionsDue := rfl
@[simp] theorem updateSpan_stall (n : SpanId) (f : Span → Span) (s : State) : (updateSpan n f s).stall = s.stall := rfl
@[simp] theorem updateSpan_queues (n : SpanId) (f : Span → Span) (s : State) : (updateSpan n f s).queues = s.queues := rfl
@[simp] theorem updateSpan_shelf (n : SpanId) (f : Span → Span) (s : State) : (updateSpan n f s).shelf = s.shelf := rfl
@[simp] theorem updateSpan_logWait (n : SpanId) (f : Span → Span) (s : State) : (updateSpan n f s).logWait = s.logWait := rfl
@[simp] theorem updateSpan_log (n : SpanId) (f : Span → Span) (s : State) : (updateSpan n f s).log = s.log := rfl
@[simp] theorem updateSpan_sequence (n : SpanId) (f : Span → Span) (s : State) : (updateSpan n f s).sequence = s.sequence := rfl
@[simp] theorem updateSpan_store (n : SpanId) (f : Span → Span) (s : State) : (updateSpan n f s).store = s.store := rfl
@[simp] theorem updateSpan_pending (n : SpanId) (f : Span → Span) (s : State) : (updateSpan n f s).pending = s.pending := rfl

/-! ### updatePort -/

@[simp] theorem updatePort_mode (p : Port) (f : HeadPort → HeadPort) (s : State) : (updatePort p f s).mode = s.mode := rfl
@[simp] theorem updatePort_bootCount (p : Port) (f : HeadPort → HeadPort) (s : State) : (updatePort p f s).bootCount = s.bootCount := rfl
@[simp] theorem updatePort_resetCause (p : Port) (f : HeadPort → HeadPort) (s : State) : (updatePort p f s).resetCause = s.resetCause := rfl
@[simp] theorem updatePort_freezeCause (p : Port) (f : HeadPort → HeadPort) (s : State) : (updatePort p f s).freezeCause = s.freezeCause := rfl
@[simp] theorem updatePort_faults (p : Port) (f : HeadPort → HeadPort) (s : State) : (updatePort p f s).faults = s.faults := rfl
@[simp] theorem updatePort_faultsMet (p : Port) (f : HeadPort → HeadPort) (s : State) : (updatePort p f s).faultsMet = s.faultsMet := rfl
@[simp] theorem updatePort_poison (p : Port) (f : HeadPort → HeadPort) (s : State) : (updatePort p f s).poison = s.poison := rfl
@[simp] theorem updatePort_writeBacks (p : Port) (f : HeadPort → HeadPort) (s : State) : (updatePort p f s).writeBacks = s.writeBacks := rfl
@[simp] theorem updatePort_recovery (p : Port) (f : HeadPort → HeadPort) (s : State) : (updatePort p f s).recovery = s.recovery := rfl
@[simp] theorem updatePort_timing (p : Port) (f : HeadPort → HeadPort) (s : State) : (updatePort p f s).timing = s.timing := rfl
@[simp] theorem updatePort_runningPeriod (p : Port) (f : HeadPort → HeadPort) (s : State) : (updatePort p f s).runningPeriod = s.runningPeriod := rfl
@[simp] theorem updatePort_heads (p : Port) (f : HeadPort → HeadPort) (s : State) : (updatePort p f s).heads = s.heads := rfl
@[simp] theorem updatePort_fences (p : Port) (f : HeadPort → HeadPort) (s : State) : (updatePort p f s).fences = s.fences := rfl
@[simp] theorem updatePort_ports (p : Port) (f : HeadPort → HeadPort) (s : State) : (updatePort p f s).ports = putAt s.ports p (f (s.ports.get p)) := rfl
@[simp] theorem updatePort_watches (p : Port) (f : HeadPort → HeadPort) (s : State) : (updatePort p f s).watches = s.watches := rfl
@[simp] theorem updatePort_volumes (p : Port) (f : HeadPort → HeadPort) (s : State) : (updatePort p f s).volumes = s.volumes := rfl
@[simp] theorem updatePort_tenants (p : Port) (f : HeadPort → HeadPort) (s : State) : (updatePort p f s).tenants = s.tenants := rfl
@[simp] theorem updatePort_maps (p : Port) (f : HeadPort → HeadPort) (s : State) : (updatePort p f s).maps = s.maps := rfl
@[simp] theorem updatePort_spans (p : Port) (f : HeadPort → HeadPort) (s : State) : (updatePort p f s).spans = s.spans := rfl
@[simp] theorem updatePort_pools (p : Port) (f : HeadPort → HeadPort) (s : State) : (updatePort p f s).pools = s.pools := rfl
@[simp] theorem updatePort_grants (p : Port) (f : HeadPort → HeadPort) (s : State) : (updatePort p f s).grants = s.grants := rfl
@[simp] theorem updatePort_serial (p : Port) (f : HeadPort → HeadPort) (s : State) : (updatePort p f s).serial = s.serial := rfl
@[simp] theorem updatePort_leases (p : Port) (f : HeadPort → HeadPort) (s : State) : (updatePort p f s).leases = s.leases := rfl
@[simp] theorem updatePort_generation (p : Port) (f : HeadPort → HeadPort) (s : State) : (updatePort p f s).generation = s.generation := rfl
@[simp] theorem updatePort_grace (p : Port) (f : HeadPort → HeadPort) (s : State) : (updatePort p f s).grace = s.grace := rfl
@[simp] theorem updatePort_promises (p : Port) (f : HeadPort → HeadPort) (s : State) : (updatePort p f s).promises = s.promises := rfl
@[simp] theorem updatePort_admissionWait (p : Port) (f : HeadPort → HeadPort) (s : State) : (updatePort p f s).admissionWait = s.admissionWait := rfl
@[simp] theorem updatePort_deletionsDue (p : Port) (f : HeadPort → HeadPort) (s : State) : (updatePort p f s).deletionsDue = s.deletionsDue := rfl
@[simp] theorem updatePort_stall (p : Port) (f : HeadPort → HeadPort) (s : State) : (updatePort p f s).stall = s.stall := rfl
@[simp] theorem updatePort_queues (p : Port) (f : HeadPort → HeadPort) (s : State) : (updatePort p f s).queues = s.queues := rfl
@[simp] theorem updatePort_shelf (p : Port) (f : HeadPort → HeadPort) (s : State) : (updatePort p f s).shelf = s.shelf := rfl
@[simp] theorem updatePort_logWait (p : Port) (f : HeadPort → HeadPort) (s : State) : (updatePort p f s).logWait = s.logWait := rfl
@[simp] theorem updatePort_log (p : Port) (f : HeadPort → HeadPort) (s : State) : (updatePort p f s).log = s.log := rfl
@[simp] theorem updatePort_sequence (p : Port) (f : HeadPort → HeadPort) (s : State) : (updatePort p f s).sequence = s.sequence := rfl
@[simp] theorem updatePort_store (p : Port) (f : HeadPort → HeadPort) (s : State) : (updatePort p f s).store = s.store := rfl
@[simp] theorem updatePort_pending (p : Port) (f : HeadPort → HeadPort) (s : State) : (updatePort p f s).pending = s.pending := rfl

/-! ### setQueue -/

@[simp] theorem setQueue_mode (q : QueueId) (c : ChangeQueue) (s : State) : (setQueue q c s).mode = s.mode := by
  cases q <;> rfl
@[simp] theorem setQueue_bootCount (q : QueueId) (c : ChangeQueue) (s : State) : (setQueue q c s).bootCount = s.bootCount := by
  cases q <;> rfl
@[simp] theorem setQueue_resetCause (q : QueueId) (c : ChangeQueue) (s : State) : (setQueue q c s).resetCause = s.resetCause := by
  cases q <;> rfl
@[simp] theorem setQueue_freezeCause (q : QueueId) (c : ChangeQueue) (s : State) : (setQueue q c s).freezeCause = s.freezeCause := by
  cases q <;> rfl
@[simp] theorem setQueue_faults (q : QueueId) (c : ChangeQueue) (s : State) : (setQueue q c s).faults = s.faults := by
  cases q <;> rfl
@[simp] theorem setQueue_faultsMet (q : QueueId) (c : ChangeQueue) (s : State) : (setQueue q c s).faultsMet = s.faultsMet := by
  cases q <;> rfl
@[simp] theorem setQueue_poison (q : QueueId) (c : ChangeQueue) (s : State) : (setQueue q c s).poison = s.poison := by
  cases q <;> rfl
@[simp] theorem setQueue_writeBacks (q : QueueId) (c : ChangeQueue) (s : State) : (setQueue q c s).writeBacks = s.writeBacks := by
  cases q <;> rfl
@[simp] theorem setQueue_recovery (q : QueueId) (c : ChangeQueue) (s : State) : (setQueue q c s).recovery = s.recovery := by
  cases q <;> rfl
@[simp] theorem setQueue_timing (q : QueueId) (c : ChangeQueue) (s : State) : (setQueue q c s).timing = s.timing := by
  cases q <;> rfl
@[simp] theorem setQueue_runningPeriod (q : QueueId) (c : ChangeQueue) (s : State) : (setQueue q c s).runningPeriod = s.runningPeriod := by
  cases q <;> rfl
@[simp] theorem setQueue_heads (q : QueueId) (c : ChangeQueue) (s : State) : (setQueue q c s).heads = s.heads := by
  cases q <;> rfl
@[simp] theorem setQueue_fences (q : QueueId) (c : ChangeQueue) (s : State) : (setQueue q c s).fences = s.fences := by
  cases q <;> rfl
@[simp] theorem setQueue_ports (q : QueueId) (c : ChangeQueue) (s : State) : (setQueue q c s).ports = s.ports := by
  cases q <;> rfl
@[simp] theorem setQueue_watches (q : QueueId) (c : ChangeQueue) (s : State) : (setQueue q c s).watches = s.watches := by
  cases q <;> rfl
@[simp] theorem setQueue_volumes (q : QueueId) (c : ChangeQueue) (s : State) : (setQueue q c s).volumes = s.volumes := by
  cases q <;> rfl
@[simp] theorem setQueue_tenants (q : QueueId) (c : ChangeQueue) (s : State) : (setQueue q c s).tenants = s.tenants := by
  cases q <;> rfl
@[simp] theorem setQueue_maps (q : QueueId) (c : ChangeQueue) (s : State) : (setQueue q c s).maps = s.maps := by
  cases q <;> rfl
@[simp] theorem setQueue_spans (q : QueueId) (c : ChangeQueue) (s : State) : (setQueue q c s).spans = s.spans := by
  cases q <;> rfl
@[simp] theorem setQueue_pools (q : QueueId) (c : ChangeQueue) (s : State) : (setQueue q c s).pools = s.pools := by
  cases q <;> rfl
@[simp] theorem setQueue_grants (q : QueueId) (c : ChangeQueue) (s : State) : (setQueue q c s).grants = s.grants := by
  cases q <;> rfl
@[simp] theorem setQueue_serial (q : QueueId) (c : ChangeQueue) (s : State) : (setQueue q c s).serial = s.serial := by
  cases q <;> rfl
@[simp] theorem setQueue_leases (q : QueueId) (c : ChangeQueue) (s : State) : (setQueue q c s).leases = s.leases := by
  cases q <;> rfl
@[simp] theorem setQueue_generation (q : QueueId) (c : ChangeQueue) (s : State) : (setQueue q c s).generation = s.generation := by
  cases q <;> rfl
@[simp] theorem setQueue_grace (q : QueueId) (c : ChangeQueue) (s : State) : (setQueue q c s).grace = s.grace := by
  cases q <;> rfl
@[simp] theorem setQueue_promises (q : QueueId) (c : ChangeQueue) (s : State) : (setQueue q c s).promises = s.promises := by
  cases q <;> rfl
@[simp] theorem setQueue_admissionWait (q : QueueId) (c : ChangeQueue) (s : State) : (setQueue q c s).admissionWait = s.admissionWait := by
  cases q <;> rfl
@[simp] theorem setQueue_deletionsDue (q : QueueId) (c : ChangeQueue) (s : State) : (setQueue q c s).deletionsDue = s.deletionsDue := by
  cases q <;> rfl
@[simp] theorem setQueue_stall (q : QueueId) (c : ChangeQueue) (s : State) : (setQueue q c s).stall = s.stall := by
  cases q <;> rfl
@[simp] theorem setQueue_logWait (q : QueueId) (c : ChangeQueue) (s : State) : (setQueue q c s).logWait = s.logWait := by
  cases q <;> rfl
@[simp] theorem setQueue_log (q : QueueId) (c : ChangeQueue) (s : State) : (setQueue q c s).log = s.log := by
  cases q <;> rfl
@[simp] theorem setQueue_sequence (q : QueueId) (c : ChangeQueue) (s : State) : (setQueue q c s).sequence = s.sequence := by
  cases q <;> rfl
@[simp] theorem setQueue_store (q : QueueId) (c : ChangeQueue) (s : State) : (setQueue q c s).store = s.store := by
  cases q <;> rfl
@[simp] theorem setQueue_pending (q : QueueId) (c : ChangeQueue) (s : State) : (setQueue q c s).pending = s.pending := by
  cases q <;> rfl

/-! ### Operations that are one of the updates above -/

@[simp] theorem updateVolume_eq (v : Nat) (f : Volume → Volume) (s : State) :
    updateVolume v f s = setVolume v (f (s.volume v)) s := rfl

@[simp] theorem putEntry_eq (v i : Nat) (e : Entry) (s : State) :
    putEntry v i e s = setMap v (Table.insert i e (s.mapOf v)) s := rfl

@[simp] theorem removeEntry_eq (v i : Nat) (s : State) :
    removeEntry v i s = setMap v (Table.erase i (s.mapOf v)) s := rfl

/-! ### Readers after updates -/

theorem volume_setVolume (v w : Nat) (r : Volume) (s : State) :
    (setVolume v r s).volume w = if v = w then r else s.volume w := Table.getD_setD _ _ _ _ _

theorem tenant_updateTenant (t u : Nat) (f : Tenant → Tenant) (s : State) :
    (updateTenant t f s).tenant u = if t = u then f (s.tenant t) else s.tenant u := Table.getD_setD _ _ _ _ _

theorem mapOf_setMap (v w : Nat) (m : Table Entry) (s : State) :
    (setMap v m s).mapOf w = if v = w then m else s.mapOf w := Table.getD_setD _ _ _ _ _

theorem lease_setLease (v w : Nat) (l : Lease) (s : State) :
    (setLease v l s).lease w = if v = w then l else s.lease w := Table.getD_setD _ _ _ _ _

@[simp] theorem grant?_setGrant_self (n : Nat) (g : Grant) (s : State) : (setGrant n g s).grant? n = some g :=
  Table.get?_insert_self _ _ _

theorem grant?_setGrant_other (n m : Nat) (g : Grant) (s : State) (h : n ≠ m) :
    (setGrant n g s).grant? m = s.grant? m := Table.get?_insert_other _ _ _ _ h

@[simp] theorem grant?_freeGrant_self (n : Nat) (s : State) : (freeGrant n s).grant? n = none :=
  Table.get?_erase_self _ _

theorem grant?_freeGrant_other (n m : Nat) (s : State) (h : n ≠ m) : (freeGrant n s).grant? m = s.grant? m :=
  Table.get?_erase_other _ _ _ h

@[simp] theorem queue_setQueue_self (q : QueueId) (c : ChangeQueue) (s : State) : (setQueue q c s).queue q = c := by
  cases q with
  | volume v => exact Table.getD_setD_self _ _ _ _
  | shelf => rfl

theorem queue_setQueue_other (q r : QueueId) (c : ChangeQueue) (s : State) (h : q ≠ r) :
    (setQueue q c s).queue r = s.queue r := by
  cases q with
  | volume v =>
    cases r with
    | volume w => exact Table.getD_setD_other _ _ _ _ _ (fun e => h (by rw [e]))
    | shelf => rfl
  | shelf =>
    cases r with
    | volume w => rfl
    | shelf => exact absurd rfl h

end Sys2Proof.Machine
end

