-- ==== Sys2Proof/Laws/Ops.lean ====
section
/-! SUPPORT. What each shared operation may touch, said once: an operation leaves the state as it was but for the fields that its
law erases. A field outside them is kept: take the law's image under that field (congrArg State.heads h). -/

namespace Sys2Proof.Machine

open State

/-- A fold whose every step keeps a value keeps it. -/
theorem foldl_keeps {α β γ : Type} (g : β → γ) (f : β → α → β) (h : ∀ b a, g (f b a) = g b) (l : List α) (b : β) :
    g (l.foldl f b) = g b := by
  induction l generalizing b with
  | nil => rfl
  | cons a t ih => exact (ih (f b a)).trans (h b a)

/-! ## Erasures -/

/-- Everything but the ports. -/
def State.erasePorts (s : State) : State := { s with ports := Vector.replicate 4 .down }

/-- Everything but the ports and the watch list. -/
def State.eraseReport (s : State) : State := { s with ports := Vector.replicate 4 .down, watches := [] }

/-- Everything but the ports and the pools. -/
def State.eraseLevel (s : State) : State :=
  { s with ports := Vector.replicate 4 .down, pools := Vector.replicate 8 .empty }

/-- Everything but what the service of paused deletions moves: the wait list, the promises, the deletions that are due, and the
volumes (their paused indications, `serveWaiting_volume`). -/
def State.eraseServe (s : State) : State :=
  { s with promises := 0, admissionWait := [], deletionsDue := [], volumes := [] }

/-- Everything but what the grace list moves: ports, pools, spans, grace list, stall countdown, G, and what a service moves. -/
def State.eraseBatch (s : State) : State :=
  { s with
    ports := Vector.replicate 4 .down
    pools := Vector.replicate 8 .empty
    spans := Vector.replicate 16 .absent
    grace := []
    stall := .stopped
    generation := 0
    promises := 0
    admissionWait := []
    deletionsDue := []
    volumes := [] }

/-- Everything but what the drop of a grant moves: also grants and tenants. -/
def State.eraseDrop (s : State) : State :=
  { s with
    ports := Vector.replicate 4 .down
    pools := Vector.replicate 8 .empty
    spans := Vector.replicate 16 .absent
    grace := []
    stall := .stopped
    generation := 0
    promises := 0
    admissionWait := []
    deletionsDue := []
    grants := []
    volumes := []
    tenants := [] }

/-- Everything but the ports, the watch list and the leases. -/
def State.eraseLease (s : State) : State :=
  { s with ports := Vector.replicate 4 .down, watches := [], leases := [] }

/-- Everything but what a lapse moves: what drops and leases move, the head table and the fence lines. -/
def State.eraseLapse (s : State) : State :=
  { s with
    ports := Vector.replicate 4 .down
    pools := Vector.replicate 8 .empty
    spans := Vector.replicate 16 .absent
    grace := []
    stall := .stopped
    generation := 0
    promises := 0
    admissionWait := []
    deletionsDue := []
    grants := []
    volumes := []
    tenants := []
    watches := []
    leases := []
    heads := Vector.replicate 4 .absent
    fences := Vector.replicate 4 .asserted }

/-! A larger erasure follows from a smaller one. -/

variable {s u : State}

theorem ports_report (h : u.erasePorts = s.erasePorts) : u.eraseReport = s.eraseReport :=
  (congrArg State.eraseReport h : u.erasePorts.eraseReport = s.erasePorts.eraseReport)

theorem ports_level (h : u.erasePorts = s.erasePorts) : u.eraseLevel = s.eraseLevel :=
  (congrArg State.eraseLevel h : u.erasePorts.eraseLevel = s.erasePorts.eraseLevel)

theorem ports_batch (h : u.erasePorts = s.erasePorts) : u.eraseBatch = s.eraseBatch :=
  (congrArg State.eraseBatch h : u.erasePorts.eraseBatch = s.erasePorts.eraseBatch)

theorem ports_lease (h : u.erasePorts = s.erasePorts) : u.eraseLease = s.eraseLease :=
  (congrArg State.eraseLease h : u.erasePorts.eraseLease = s.erasePorts.eraseLease)

theorem ports_lapse (h : u.erasePorts = s.erasePorts) : u.eraseLapse = s.eraseLapse :=
  (congrArg State.eraseLapse h : u.erasePorts.eraseLapse = s.erasePorts.eraseLapse)

theorem ports_drop (h : u.erasePorts = s.erasePorts) : u.eraseDrop = s.eraseDrop :=
  (congrArg State.eraseDrop h : u.erasePorts.eraseDrop = s.erasePorts.eraseDrop)

theorem serve_batch (h : u.eraseServe = s.eraseServe) : u.eraseBatch = s.eraseBatch :=
  (congrArg State.eraseBatch h : u.eraseServe.eraseBatch = s.eraseServe.eraseBatch)

theorem level_batch (h : u.eraseLevel = s.eraseLevel) : u.eraseBatch = s.eraseBatch :=
  (congrArg State.eraseBatch h : u.eraseLevel.eraseBatch = s.eraseLevel.eraseBatch)

theorem batch_drop (h : u.eraseBatch = s.eraseBatch) : u.eraseDrop = s.eraseDrop :=
  (congrArg State.eraseDrop h : u.eraseBatch.eraseDrop = s.eraseBatch.eraseDrop)

theorem batch_lapse (h : u.eraseBatch = s.eraseBatch) : u.eraseLapse = s.eraseLapse :=
  (congrArg State.eraseLapse h : u.eraseBatch.eraseLapse = s.eraseBatch.eraseLapse)

theorem report_lease (h : u.eraseReport = s.eraseReport) : u.eraseLease = s.eraseLease :=
  (congrArg State.eraseLease h : u.eraseReport.eraseLease = s.eraseReport.eraseLease)

theorem report_lapse (h : u.eraseReport = s.eraseReport) : u.eraseLapse = s.eraseLapse :=
  (congrArg State.eraseLapse h : u.eraseReport.eraseLapse = s.eraseReport.eraseLapse)

theorem lease_lapse (h : u.eraseLease = s.eraseLease) : u.eraseLapse = s.eraseLapse :=
  (congrArg State.eraseLapse h : u.eraseLease.eraseLapse = s.eraseLease.eraseLapse)

theorem drop_lapse (h : u.eraseDrop = s.eraseDrop) : u.eraseLapse = s.eraseLapse :=
  (congrArg State.eraseLapse h : u.eraseDrop.eraseLapse = s.eraseDrop.eraseLapse)

/-! ## Ports -/

theorem answer_erase (o : Origin) (code : Byte) (outcome : AnswerOutcome) (body : AnswerBody) (s : State) :
    (answer o code outcome body s).erasePorts = s.erasePorts := by
  unfold answer; split <;> rfl

theorem answer?_erase (o : Option Origin) (code : Byte) (outcome : AnswerOutcome) (body : AnswerBody) (s : State) :
    (answer? o code outcome body s).erasePorts = s.erasePorts := by
  cases o with
  | none => rfl
  | some o => exact answer_erase o code outcome body s

theorem refuse_erase (o : Origin) (k : RequestKind) (r : Reason) (s : State) :
    (refuse o k r s).erasePorts = s.erasePorts := answer_erase _ _ _ _ _

theorem addNotice_erase (p : Port) (n : Notice) (s : State) : (addNotice p n s).erasePorts = s.erasePorts := by
  unfold addNotice; split <;> rfl

theorem notifyJoined_erase (but : Option Port) (n : Notice) (s : State) :
    (notifyJoined but n s).erasePorts = s.erasePorts := by
  refine foldl_keeps State.erasePorts _ (fun b a => ?_) _ _
  split
  · rfl
  · exact addNotice_erase _ _ _

theorem announceBatch_erase (o : Option Port) (v : Option Nat) (g : Gen) (s : State) :
    (announceBatch o v g s).erasePorts = s.erasePorts := by
  refine foldl_keeps State.erasePorts _ (fun b a => ?_) _ _
  split
  · rfl
  · cases v with
    | none => exact addNotice_erase _ _ _
    | some v => exact (addNotice_erase _ _ _).trans (addNotice_erase _ _ _)

/-! ## The watch list -/

theorem reportVolume_erase (v : Nat) (s : State) : (reportVolume v s).eraseReport = s.eraseReport := by
  unfold reportVolume
  exact foldl_keeps State.eraseReport _ (fun b a => ports_report (answer_erase _ _ _ _ b)) _ _

theorem endWatches_erase (p : Port) (r : Reason) (s : State) : (endWatches p r s).eraseReport = s.eraseReport := by
  unfold endWatches
  exact foldl_keeps State.eraseReport _ (fun b a => ports_report (refuse_erase _ _ _ b)) _ _

/-! ## Pools and the grace list -/

theorem judgeLevel_erase (p : PoolId) (s : State) : (judgeLevel p s).eraseLevel = s.eraseLevel := by
  unfold judgeLevel
  split
  · rfl
  · exact (ports_level (notifyJoined_erase _ _ _)).trans rfl

theorem grantRemoval_erase (v : Nat) (s : State) : (grantRemoval v s).eraseServe = s.eraseServe := rfl

theorem serveList_erase (l : List Nat) (s : State) : (serveList l s).eraseServe = s.eraseServe := by
  induction l generalizing s with
  | nil => rfl
  | cons v rest ih =>
    unfold serveList
    split
    · exact (ih _).trans (grantRemoval_erase v s)
    · rfl

theorem serveWaiting_erase (s : State) : (serveWaiting s).eraseServe = s.eraseServe := serveList_erase _ _

/-- With no deletion paused, the service does nothing. -/
theorem serveWaiting_empty (s : State) (h : s.admissionWait = []) : serveWaiting s = s := by
  unfold serveWaiting
  rw [h]
  unfold serveList
  rw [← h]

/-- The grant of admission touches of every volume its deletion's paused indication alone. -/
theorem grantRemoval_volume (v w : Nat) (s : State) :
    { (grantRemoval v s).volume w with deletion := none } = { s.volume w with deletion := none } := by
  unfold grantRemoval updateDeletion
  rw [updateVolume_eq, volume_setVolume]
  split
  · subst_vars; rfl
  · rfl

theorem serveList_volume (l : List Nat) (w : Nat) (s : State) :
    { (serveList l s).volume w with deletion := none } = { s.volume w with deletion := none } := by
  induction l generalizing s with
  | nil => rfl
  | cons v rest ih =>
    unfold serveList
    split
    · exact (ih _).trans (grantRemoval_volume v w s)
    · rfl

/-- The service touches of every volume its deletion's paused indication alone. -/
theorem serveWaiting_volume (w : Nat) (s : State) :
    { (serveWaiting s).volume w with deletion := none } = { s.volume w with deletion := none } := serveList_volume _ _ _

/-- The service stops only where no room is left: a deletion is still paused after it only at the limit (R114). -/
theorem serveList_full (l : List Nat) (s : State) :
    (serveList l s).admissionWait = [] ∨ Config.admissionLimit ≤ (serveList l s).admission := by
  induction l generalizing s with
  | nil => exact Or.inl rfl
  | cons v rest ih =>
    unfold serveList
    split
    · exact ih _
    · rename_i h; exact Or.inr (Nat.not_lt.mp h)

theorem serveWaiting_full (s : State) :
    (serveWaiting s).admissionWait = [] ∨ Config.admissionLimit ≤ (serveWaiting s).admission := serveList_full _ _

/-- What the service grants: deletions at the front of the list, each due with its promise; the rest stay paused (R114). -/
theorem serveList_serves (l : List Nat) (s : State) :
    ∃ granted, l = granted ++ (serveList l s).admissionWait ∧ (serveList l s).deletionsDue = s.deletionsDue ++ granted ∧
      (serveList l s).promises = s.promises + granted.length := by
  induction l generalizing s with
  | nil => exact ⟨[], rfl, (List.append_nil _).symm, rfl⟩
  | cons v rest ih =>
    unfold serveList
    split
    · obtain ⟨granted, hl, hd, hp⟩ := ih (grantRemoval v s)
      refine ⟨v :: granted, congrArg (v :: ·) hl, hd.trans ?_, hp.trans ?_⟩
      · show s.deletionsDue ++ [v] ++ granted = _
        rw [List.append_assoc]
        rfl
      · show s.promises + 1 + granted.length = s.promises + (granted.length + 1)
        omega
    · exact ⟨[], rfl, (List.append_nil _).symm, rfl⟩

theorem returnBatch_erase (b : Batch) (rest : List Batch) (s : State) :
    (returnBatch b rest s).eraseBatch = s.eraseBatch := by
  unfold returnBatch
  exact (level_batch (judgeLevel_erase _ _)).trans rfl

theorem returnBatch_generation (b : Batch) (rest : List Batch) (s : State) :
    (returnBatch b rest s).generation = s.generation := by
  unfold returnBatch
  exact (congrArg State.generation (judgeLevel_erase _ _)).trans rfl

theorem releaseOldest_erase (b : Batch) (rest : List Batch) (s : State) :
    (releaseOldest b rest s).eraseBatch = s.eraseBatch :=
  (serve_batch (serveWaiting_erase _)).trans (returnBatch_erase b rest s)

theorem releaseLoop_erase (n : Nat) (s : State) : (releaseLoop n s).eraseBatch = s.eraseBatch := by
  induction n generalizing s with
  | zero => rfl
  | succ n ih =>
    unfold releaseLoop
    split
    · rfl
    · split
      · exact (ih _).trans (releaseOldest_erase _ _ _)
      · rfl

/-- The release of batches does not move G. -/
theorem releaseLoop_generation (n : Nat) (s : State) : (releaseLoop n s).generation = s.generation := by
  induction n generalizing s with
  | zero => rfl
  | succ n ih =>
    unfold releaseLoop
    split
    · rfl
    · split
      · refine (ih _).trans ?_
        unfold releaseOldest
        exact (congrArg State.generation (serveWaiting_erase _)).trans (returnBatch_generation _ _ _)
      · rfl

theorem releaseTest_erase (s : State) : (releaseTest s).eraseBatch = s.eraseBatch := releaseLoop_erase _ _

theorem releaseTest_generation (s : State) : (releaseTest s).generation = s.generation := releaseLoop_generation _ _

theorem formBatch_erase (pool : PoolId) (x : List Extent) (o : Option Port) (v : Option Nat) (s : State) :
    (formBatch pool x o v s).eraseBatch = s.eraseBatch := by
  unfold formBatch
  exact (releaseTest_erase _).trans ((ports_batch (announceBatch_erase _ _ _ _)).trans rfl)

/-- The formation of a batch raises G by one (R111). -/
theorem formBatch_generation (pool : PoolId) (x : List Extent) (o : Option Port) (v : Option Nat) (s : State) :
    (formBatch pool x o v s).generation = s.generation + 1 := by
  unfold formBatch
  exact (releaseTest_generation _).trans (congrArg State.generation (announceBatch_erase _ _ _ _))

theorem formPromised_erase (f : Forming) (o : Option Port) (v : Nat) (s : State) :
    (formPromised f o v s).eraseBatch = s.eraseBatch := by
  unfold formPromised
  exact formBatch_erase _ _ _ _ _

theorem settleForming_erase (f : Forming) (v : Nat) (s : State) : (settleForming f v s).eraseBatch = s.eraseBatch := by
  unfold settleForming
  split
  · exact serve_batch (serveWaiting_erase _)
  · exact formPromised_erase _ _ _ _

/-! ## Drops of grants -/

/-- The formation of a batch touches no grant. -/
theorem formBatch_grants (pool : PoolId) (x : List Extent) (o : Option Port) (v : Option Nat) (s : State) :
    (formBatch pool x o v s).grants = s.grants :=
  (congrArg State.grants (formBatch_erase pool x o v s) :)

/-- The drop of a live grant is the formation of a batch of its extents (R65). -/
theorem dropGrant_some (o : Option Port) (n : Nat) (g : Grant) (s : State) (h : s.grant? n = some g) :
    dropGrant o n s =
      formBatch (s.volume g.volume).pool (g.extents.map Prod.snd) o g.invalidates (dropped n g s) := by
  unfold dropGrant
  rw [h]

/-- A drop that names no live grant does nothing. -/
theorem dropGrant_none (o : Option Port) (n : Nat) (s : State) (h : s.grant? n = none) : dropGrant o n s = s := by
  unfold dropGrant
  rw [h]

theorem freeGrant_erase (n : Nat) (s : State) : (s.freeGrant n).eraseDrop = s.eraseDrop := rfl

theorem updatePool_erase (p : PoolId) (f : Pool → Pool) (s : State) : (s.updatePool p f).eraseDrop = s.eraseDrop := rfl

theorem updateTenant_erase (t : Nat) (f : Tenant → Tenant) (s : State) :
    (s.updateTenant t f).eraseDrop = s.eraseDrop := rfl

theorem updateVolume_erase (v : Nat) (f : Volume → Volume) (s : State) :
    (s.updateVolume v f).eraseDrop = s.eraseDrop := rfl

theorem lowerPending_erase (v n : Nat) (s : State) : (lowerPending v n s).eraseDrop = s.eraseDrop :=
  (updateVolume_erase _ _ _).trans (updateTenant_erase _ _ _)

theorem dropped_erase (n : Nat) (g : Grant) (s : State) : (dropped n g s).eraseDrop = s.eraseDrop := by
  unfold dropped
  cases g.kind with
  | allocate => exact (lowerPending_erase _ _ _).trans ((updatePool_erase _ _ _).trans (freeGrant_erase _ _))
  | relocate => exact (updatePool_erase _ _ _).trans (freeGrant_erase _ _)

theorem dropGrant_erase (o : Option Port) (n : Nat) (s : State) : (dropGrant o n s).eraseDrop = s.eraseDrop := by
  cases h : s.grant? n with
  | none => rw [dropGrant_none o n s h]
  | some g =>
    rw [dropGrant_some o n g s h]
    exact (batch_drop (formBatch_erase _ _ _ _ _)).trans (dropped_erase _ _ _)

theorem dropGrants_erase (o : Option Port) (ns : List Nat) (s : State) :
    (dropGrants o ns s).eraseDrop = s.eraseDrop :=
  foldl_keeps State.eraseDrop _ (fun b a => dropGrant_erase o a b) _ _

theorem dropped_grants (n : Nat) (g : Grant) (s : State) :
    (dropped n g s).grants = Table.erase n s.grants ∧ (dropped n g s).generation = s.generation := by
  unfold dropped
  generalize g.kind = k
  cases k <;> exact ⟨rfl, rfl⟩

/-- The drop of a live grant leaves its record FREE, every other record as it was, and raises G by one (R65). -/
theorem dropGrant_spec (o : Option Port) (n : Nat) (g : Grant) (s : State) (h : s.grant? n = some g) :
    (dropGrant o n s).grants = Table.erase n s.grants ∧ (dropGrant o n s).generation = s.generation + 1 := by
  rw [dropGrant_some o n g s h]
  constructor
  · rw [formBatch_grants]; exact (dropped_grants n g s).1
  · rw [formBatch_generation, (dropped_grants n g s).2]

/-! ## Leases -/

theorem passLease_erase (v : Nat) (w : Waiter) (rest : List Waiter) (orphan : Bool) (s : State) :
    (passLease v w rest orphan s).eraseLease = s.eraseLease := by
  unfold passLease
  refine (report_lease (reportVolume_erase _ _)).trans ?_
  dsimp only
  split
  · exact (ports_lease (answer_erase _ _ _ _ _)).trans rfl
  · exact (ports_lease (addNotice_erase _ _ _)).trans ((ports_lease (answer_erase _ _ _ _ _)).trans rfl)

theorem loseLease_erase (v : Nat) (orphan : Bool) (empty : Hold) (s : State) :
    (loseLease v orphan empty s).eraseLease = s.eraseLease := by
  unfold loseLease
  split
  · exact passLease_erase _ _ _ _ _
  · exact (report_lease (reportVolume_erase _ _)).trans rfl

theorem departWaiter_erase (p : Port) (v : Nat) (s : State) : (departWaiter p v s).eraseLease = s.eraseLease := by
  unfold departWaiter
  dsimp only
  split
  · split
    · rfl
    · split
      · rfl
      · exact (ports_lease (addNotice_erase _ _ _)).trans rfl
  · rfl
  · rfl
  · rfl

theorem departAll_erase (p : Port) (s : State) : (departAll p s).eraseLease = s.eraseLease :=
  foldl_keeps State.eraseLease _ (fun b _ => departWaiter_erase _ _ b) _ _

theorem endClaims_erase (p : Port) (r : Reason) (c : List (Nat × Tag)) (s : State) :
    (endClaims p r c s).erasePorts = s.erasePorts :=
  foldl_keeps State.erasePorts _ (fun b _ => refuse_erase _ _ _ b) _ _

/-! ## Membership -/

/-- The head table and the fence lines after one head's entry changes. -/
theorem setHead_heads (p : Port) (h : Head) (s : State) :
    (setHead p h s).heads = putAt s.heads p h ∧
    (setHead p h s).fences = putAt s.fences p (if h.isJoined then .released else .asserted) := ⟨rfl, rfl⟩

/-- What follows the first step of a lapse or a Leave keeps the head table and the fence lines. -/
theorem leases_after_drop (o : Bool) (e : Hold) (l : List Nat) (s : State) :
    (l.foldl (fun s v => loseLease v o e s) s).eraseLease = s.eraseLease :=
  foldl_keeps State.eraseLease _ (fun b _ => loseLease_erase _ _ _ b) _ _

theorem lapse_erase (p : Port) (s : State) : (lapse p s).eraseLapse = s.eraseLapse := by
  unfold lapse
  split
  · dsimp only
    refine (batch_lapse (releaseTest_erase _)).trans ?_
    refine (ports_lapse (notifyJoined_erase _ _ _)).trans ?_
    refine (report_lapse (endWatches_erase _ _ _)).trans ?_
    refine (ports_lapse (endClaims_erase _ _ _ _)).trans ?_
    refine (lease_lapse (departAll_erase _ _)).trans ?_
    refine (lease_lapse (leases_after_drop _ _ _ _)).trans ?_
    refine (drop_lapse (dropGrants_erase _ _ _)).trans ?_
    rfl
  · rfl
  · rfl

/-- A lapse of a JOINED head leaves it LAPSED with its incarnation and its fence line asserted; no other entry or line
changes (R102 step 1). -/
theorem lapse_heads (p : Port) (m : Member) (s : State) (h : s.heads.get p = .joined m) :
    (lapse p s).heads = putAt s.heads p (.lapsed m.incarnation) ∧
    (lapse p s).fences = putAt s.fences p .asserted := by
  unfold lapse
  rw [h]
  dsimp only
  have step {γ : Type} (g : State → γ) (h1 : ∀ t, g t.eraseBatch = g t) (h2 : ∀ t, g t.erasePorts = g t)
      (h3 : ∀ t, g t.eraseReport = g t) (h4 : ∀ t, g t.eraseLease = g t) (h5 : ∀ t, g t.eraseDrop = g t)
      (q : Port) (n : Notice) (r : Reason) (c : List (Nat × Tag)) (o : Bool) (e : Hold) (l ns : List Nat) (t : State) :
      ∀ u v w x y z, u = dropGrants none ns t → v = l.foldl (fun s v => loseLease v o e s) u →
        w = endClaims p r c (departAll p v) → x = endWatches p r w → y = notifyJoined (some q) n x → z = releaseTest y →
        g z = g t := by
    intro u v w x y z hu hv hw hx hy hz
    subst hu; subst hv; subst hw; subst hx; subst hy; subst hz
    rw [← h1 (releaseTest _), releaseTest_erase, h1, ← h2 (notifyJoined _ _ _), notifyJoined_erase, h2,
      ← h3 (endWatches _ _ _), endWatches_erase, h3, ← h2 (endClaims _ _ _ _), endClaims_erase, h2,
      ← h4 (departAll _ _), departAll_erase, h4, ← h4 (List.foldl _ _ _), leases_after_drop, h4,
      ← h5 (dropGrants _ _ _), dropGrants_erase, h5]
  constructor
  · exact step State.heads (fun _ => rfl) (fun _ => rfl) (fun _ => rfl) (fun _ => rfl) (fun _ => rfl)
      p _ _ _ _ _ _ _ _ _ _ _ _ _ _ rfl rfl rfl rfl rfl rfl
  · exact step State.fences (fun _ => rfl) (fun _ => rfl) (fun _ => rfl) (fun _ => rfl) (fun _ => rfl)
      p _ _ _ _ _ _ _ _ _ _ _ _ _ _ rfl rfl rfl rfl rfl rfl

end Sys2Proof.Machine
end

