-- ==== Sys2Proof/Laws/Arrival.lean ====
section
/-! SUPPORT. What the arrival of a request and the taking of an event come to, said once: in a settled state an event is its own
effect; a request that is heard is judged in the state `taken`; an answer to it is the state `answered`. -/

namespace Sys2Proof.Machine

open State

variable {s : State} {p : Port} {t : Tag}

/-- Nothing is due in a settled state. -/
theorem finishDue_settled (h : settled s) : finishDue s = s := by
  unfold finishDue
  cases dueBound s with
  | zero => rfl
  | succ n => unfold takeDues; rw [show due? s = none from h]

/-- In a settled state an event is its own effect. -/
theorem event_settled (k : State → State) (h : settled s) : event k s = .next (k s) := by
  unfold event; rw [finishDue_settled h]

/-- The tag slot of a request that is taken is BUSY, and nothing else has changed. -/
theorem setBusy_taken : setBusy ⟨p, t⟩ true s = taken p t s := rfl

@[simp] theorem taken_linkUp (q : Port) : (taken p t s).linkUp q = s.linkUp q := by
  by_cases h : p = q
  · subst h; simp [taken, State.linkUp]
  · simp [taken, State.linkUp, putAt_get_other _ _ _ _ h]

@[simp] theorem taken_joined (q : Port) : (taken p t s).joined q = s.joined q := rfl

/-- A request that is heard passes to the mode and membership checks in the state `taken`. -/
theorem request_hears (kind : RequestKind) (k : State → State) (h : hears s p t) :
    request p t kind k s = .next (admitRequest ⟨p, t⟩ kind k (taken p t s)) := by
  unfold request receive
  rw [finishDue_settled h.1]
  simp [h.2.1, h.2.2, setBusy_taken]

/-- A request that is admitted passes to its own rule in the state `taken`. -/
theorem request_admits (kind : RequestKind) (k : State → State) (h : admits s p t) :
    request p t kind k s = .next (k (taken p t s)) := by
  rw [request_hears kind k h.1]
  unfold admitRequest
  have hm : (taken p t s).mode ≠ .recovering := h.2.1
  have hj : (taken p t s).joined p = true := h.2.2
  simp [hm, hj]

/-- An answer on the tag of a request just taken. -/
theorem answer_taken (code : Byte) (outcome : AnswerOutcome) (body : AnswerBody) (h : s.linkUp p = true) :
    answer ⟨p, t⟩ code outcome body (taken p t s) = answered p t code outcome body s := by
  unfold answer
  simp only [taken_linkUp, h, if_true]
  unfold State.updatePort taken answered HeadPort.pushAnswer
  simp

/-- A refusal on the tag of a request just taken. -/
theorem refuse_taken (k : RequestKind) (r : Reason) (h : s.linkUp p = true) :
    refuse ⟨p, t⟩ k r (taken p t s) = answered p t k.code (.refused r) .empty s := answer_taken _ _ _ h

/-- A durable request that joins its queue on the tag of a request just taken. -/
theorem enqueue_taken (r : Request) : enqueue r ⟨p, t⟩ (taken p t s) = queued r p t s := by
  cases h : r.queue <;> simp [enqueue, queued, State.queue, taken, h]

end Sys2Proof.Machine
end

