-- ==== Sys2Proof/Laws/Log.lean ====
section
/-! SUPPORT. What the operations on the log and at the end of replay and of recovery may touch and what they answer, said once. -/

namespace Sys2Proof.Machine

open State

variable {s : State}

/-- The service of the log wait queue touches the log, its wait queue, the sequence counter and the store. -/
theorem takeSlot_touches (s : State) : takeSlot s =
    { s with
      logWait := (takeSlot s).logWait, sequence := (takeSlot s).sequence, log := (takeSlot s).log,
      store := (takeSlot s).store } := by
  unfold takeSlot; split <;> rfl

/-- With no intent in the wait queue nothing is served. -/
theorem takeSlot_none (h : s.logWait = []) : takeSlot s = s := by
  unfold takeSlot; rw [h]

/-- The front of the wait queue takes the lowest free slot. -/
theorem takeSlot_front {i : Intent} {rest : List Intent} {n : Nat} (h : s.logWait = i :: rest) (hn : freeSlot? s = some n) :
    takeSlot s = { s with
      logWait := rest
      sequence := s.sequence + 1
      log := s.log ++ [⟨n, s.sequence + 1, .writing, 0, true, i⟩]
      store := { s.store with
        slots := Table.insert n ⟨s.sequence + 1, false, i.kind.name, i.effects⟩ s.store.slots } } := by
  unfold takeSlot; rw [h, hn]

/-- The freeing of a slot touches what the service of the wait queue touches. -/
theorem freeSlot_touches (l : LogIntent) (s : State) : freeSlot l s =
    { s with
      logWait := (freeSlot l s).logWait, sequence := (freeSlot l s).sequence, log := (freeSlot l s).log,
      store := (freeSlot l s).store } := by
  unfold freeSlot; rw [takeSlot_touches]

/-- The end of replay touches the sequence counter. -/
theorem endReplay_touches (s : State) : endReplay s = { s with sequence := (endReplay s).sequence } := by
  unfold endReplay; split <;> rfl

/-- While a whole intent is left, replay has not ended. -/
theorem endReplay_left (h : canReplay s = true) : endReplay s = s := by
  unfold endReplay; rw [if_pos h]

/-- With none left the counter is set. -/
theorem endReplay_done (h : canReplay s = false) :
    (endReplay s).sequence = if s.recovery.markUnreadable then 0 else s.store.retired := by
  unfold endReplay; rw [if_neg (by rw [h]; exact Bool.false_ne_true)]

/-- After recovery a tag is BUSY exactly while its answer waits. -/
theorem recovered_busy (r : HeadPort) (t : Tag) : r.recovered.busy.get t = r.answers.any (fun a => decide (a.tag = t)) := by
  simp [HeadPort.recovered]

end Sys2Proof.Machine
end

