-- ==== Sys2Proof/Tests/Slice0.lean ====
section
/-! SUPPORT. The model's own tests: ill-formed commands that the check refuses, words and values written out from the spec, one step of
each command on small states, and for each statement a state that meets its hypotheses. -/

namespace Sys2Proof.Tests

set_option Elab.async false

open Sys2Proof.Machine
open Sys2Proof.Machine.State

/-! ## Ill-formed commands are refused -/

theorem test_wf_store_area : (StoreArea.entry 4096 0).wf = false ∧ (StoreArea.entry 0 (2 ^ 32)).wf = false ∧
    (StoreArea.volume 4096).wf = false ∧ (StoreArea.tenant 256).wf = false ∧ (StoreArea.span 16).wf = false ∧
    (StoreArea.pool 8).wf = false ∧ (StoreArea.logSlot 512).wf = false := by decide

theorem test_wf_reads : Reads.wf [(.config, .corrected), (.config, .uncorrectable)] = false ∧
    Reads.wf [(.pool 8, .corrected)] = false := by decide

theorem test_wf_requests : (Instr.bind 0 0 0 0 0 0 (List.replicate 256 0)).wf = false ∧
    (Instr.watch 0 0 1 (List.replicate 256 ⟨0, 0, 0⟩)).wf = false ∧
    (Instr.resolve 0 0 0 0 1 [(.volume 4096, .corrected)]).wf = false ∧
    (Instr.noteWritten 0 0 0 0 0 [(.span 16, .corrected)]).wf = false ∧
    (Instr.reserve 0 0 0 0 1 [(.tenant 256, .corrected)]).wf = false ∧
    (Instr.relocate 0 0 0 0 [(.logSlot 512, .corrected)]).wf = false := by decide +kernel

theorem test_wf_unknown (body : List Byte) (h : 65536 ≤ body.length) :
    (Instr.unknownRequestKind 0 0 0xFF body).wf = false := decide_eq_false (Nat.not_lt.mpr h)

theorem test_wf_events : (Instr.validate (.volume 4096) []).wf = false ∧
    (Instr.validate .shelf [(.pool 8, .corrected)]).wf = false ∧ (Instr.logWriteAck 512).wf = false ∧
    (Instr.storeWriteFailed (.logImage 512)).wf = false ∧
    (Instr.storeWriteFailed (.writeBack (.volume 4096))).wf = false ∧
    (Instr.storeWriteFailed (.replayEffect 4096 [])).wf = false ∧
    (Instr.storeWriteFailed (.replayEffect 0 [(.pool 8, .corrected)])).wf = false ∧
    (Instr.storeWriteFailed (.replayRetirement [(.tenant 256, .corrected)])).wf = false ∧
    (Instr.retireAck [(.entry 4096 0, .corrected)]).wf = false ∧
    (Instr.deletionAdmitted [(.entry 0 (2 ^ 32), .corrected)]).wf = false ∧
    (Instr.recoveryReplayIntent [(.logSlot 512, .corrected)]).wf = false ∧
    (Instr.recoverySweep [(.span 16, .corrected)]).wf = false := by decide

theorem test_wf_holds : (Instr.storeWriteFailed (.logImage 511)).wf = true ∧
    (Instr.resolve 0 0 0 0 1 [(.entry 4095 0, .corrected)]).wf = true ∧ Instr.tick.wf = true ∧
    (Instr.retireAck [(.entry 4095 0, .uncorrectable)]).wf = true ∧ (Instr.storeWriteFailed (.effect true)).wf = true := by decide

/-! ## Values written out from the spec -/

/-- The digits 1 to 9 from 0 and from all bits 1: the known check values of the cyclic code that R53 names. -/
theorem test_check_values :
    checkWord 0 [0x31, 0x32, 0x33, 0x34, 0x35, 0x36, 0x37, 0x38, 0x39] = 0xBB3D#16 ∧
    checkWord 0xFFFF [0x31, 0x32, 0x33, 0x34, 0x35, 0x36, 0x37, 0x38, 0x39] = 0x4B37#16 := by decide +kernel

/-- The extent reference of span 3, index 0x123456: bytes 56 34 12 03 (Table 11-3). -/
theorem test_extent_bytes : extentBytes ⟨3, 0x123456⟩ = [0x56, 0x34, 0x12, 0x03] := by decide

/-- QueryTenant of tenant 0x0102 on tag 5: type 1, tag, kind 0x26, body length 2, the tenant low byte first (Table 11-1). -/
theorem test_request_bytes :
    (frameOf (.queryTenant 0 5 0x0102)).map (List.take 7) = some [0x01, 0x05, 0x26, 0x02, 0x00, 0x02, 0x01] ∧
    (frameOf (.queryTenant 0 5 0x0102)).map List.length = some 9 := by decide +kernel

/-! ## Small states -/

/-- SERVING, as a recovery with nothing in the store leaves the part. -/
def served : State := { State.reset with mode := .serving, generation := 1, recovery := .idle }

/-- A head JOINED at the current G, on a port whose link is UP. -/
def withMember (p : Port) (s : State) : State :=
  { s with
    heads := putAt s.heads p (.joined ⟨7, s.generation, 3000, false⟩)
    fences := putAt s.fences p .released
    ports := putAt s.ports p { s.ports.get p with linkUp := true } }

/-- Heads 0 and 1 are members. -/
def two : State := withMember 1 (withMember 0 served)

/-- The spans 0 and 1 of pool 3: lengths 8 and 4, extent 0:0 in use, span 0's cursor at 6. -/
def twoSpans : Vector Span 16 :=
  putAt (putAt (Vector.replicate 16 .absent) 0 ⟨.online, 3, 8, [(1, 7)], 7, 6⟩) 1 ⟨.online, 3, 4, [(0, 3)], 4, 0⟩

/-- The store that holds volume 1 with its one entry. -/
def twoStore : MapStore :=
  { MapStore.factory with
    volumes := [(1, ⟨.active, 2, 3, 64⟩)]
    quotas := [(2, 10)]
    spans := putAt (putAt (Vector.replicate 16 .absent) 0 ⟨.online, 3, 8⟩) 1 ⟨.online, 3, 4⟩
    pools := putAt (Vector.replicate 8 .factory) 3 ⟨3, 1, 2⟩
    bootCount := 1
    cells := [(1, [(4, ⟨⟨0, 0⟩, 0xF⟩)])] }

/-- Volume 1: ACTIVE, tenant 2, pool 3, size 64, index 4 mapped to 0:0; head 0 holds its lease at epoch 5. -/
def space : State :=
  { two with
    volumes := [(1, ⟨.active, 2, 3, 64, 1, 0, true, none⟩)]
    tenants := [(2, ⟨some 10, 1, 0⟩)]
    maps := [(1, [(4, ⟨⟨0, 0⟩, 0xF⟩)])]
    spans := twoSpans
    pools := putAt (Vector.replicate 8 .empty) 3 ⟨⟨3, 1, 2⟩, 12, 11, 11, 0, 1, 0, .normal⟩
    leases := [(1, ⟨.held 0, 5, []⟩)]
    store := twoStore }

/-- An allocation grant of head 0 on indices 10 and 11. -/
def allocation : Grant := ⟨.staged 500, 1, .allocate, 0, 1, 5, 10, 2, [(10, ⟨0, 6⟩), (11, ⟨0, 7⟩)], 0x1234⟩

/-- A relocation grant of head 0 on index 4. -/
def relocation : Grant := ⟨.staged 500, 2, .relocate, 0, 1, 5, 4, 1, [(4, ⟨1, 0⟩)], 0x5678⟩

/-- Both grants are STAGED. -/
def granted : State :=
  { space with
    serial := 2
    grants := [(0, allocation), (1, relocation)]
    volumes := [(1, ⟨.active, 2, 3, 64, 1, 2, true, none⟩)]
    tenants := [(2, ⟨some 10, 1, 2⟩)]
    spans := putAt (putAt twoSpans 0 ⟨.online, 3, 8, [(1, 5)], 5, 0⟩) 1 ⟨.online, 3, 4, [(1, 3)], 3, 1⟩
    pools := putAt (Vector.replicate 8 .empty) 3 ⟨⟨3, 1, 2⟩, 12, 8, 8, 3, 1, 0, .normal⟩ }

/-- Both grants are BINDING. -/
def committed : State :=
  { granted with grants := [(0, { allocation with state := .binding }), (1, { relocation with state := .binding })] }

/-- A request of head 0 on tag 3. -/
def by0 : Option Origin := some ⟨0, 3⟩

/-- The front of volume 1's queue holds this request of head 0, tag 3, and one more waits behind it. -/
def waiting (r : Request) (s : State) : State :=
  { s with queues := [(1, ⟨none, [⟨r, by0⟩, ⟨.resizeVolume 1 9, some ⟨1, 6⟩⟩]⟩)] }

/-- The front of the shelf queue holds this request of head 0, tag 3. -/
def waitingShelf (r : Request) (s : State) : State := { s with shelf := ⟨none, [⟨r, by0⟩]⟩ }

/-- The intent in slot 0 with sequence number 1. -/
def logging (state : LogState) (applied : Nat) (i : Intent) (s : State) : State :=
  { s with
    sequence := 1
    log := [⟨0, 1, state, applied, true, i⟩]
    store := { s.store with slots := [(0, ⟨1, false, i.kind.name, i.effects⟩)] } }

/-- An intent of head 0, tag 3, on volume 1's queue. -/
def intentOf (kind : IntentKind) (effects : List Effect) (forming : Option Forming) : Intent :=
  ⟨kind, .volume 1, by0, some 0, effects, forming⟩

/-- The state after one command. -/
def after (c : Instr) (s : State) : State :=
  match exec c s with
  | .next u => u
  | .fault _ => s
  | .refused _ => s

/-! ## The laws and the block -/

/-- A table of lawful leases is lawful at every volume. -/
theorem leaseLaw_listed (s : State) (h : ∀ e ∈ s.leases, e.2.lawful) : leaseLaw s := by
  intro v
  unfold State.lease Table.getD
  cases hg : Table.get? s.leases v with
  | none => exact ⟨List.nodup_nil, nofun, fun _ => rfl, rfl⟩
  | some l => exact h (v, l) (Table.mem_of_get? _ _ _ hg)

/-- While SERVING with nothing under way the law of the volumes asks only that a STAGED grant names a volume that exists. -/
theorem volumeLaw_idle (s : State) (hm : s.mode = .serving) (hl : s.log = []) (hw : s.logWait = []) (hq : s.queues = [])
    (hs : s.shelf = .empty) (hd : s.deletionsDue = []) (ha : s.admissionWait = [])
    (hg : ∀ e ∈ s.grants, e.2.isStaged = true → (s.volume e.2.volume).state ≠ .absent) : volumeLaw s := by
  have hi : liveIntents s = [] := by simp [liveIntents, hl, hw]
  have hr : ∀ v, ¬ removes s v := fun v => by simp [removes, holdsQueue, hi, hd, ha]
  refine ⟨by simp [hm], fun _ => ⟨by simp [heldQueues, hi, hd, ha], by simp [heldQueues, hi, hd, ha], ?_, by simp [hi],
    by simp [hw], by simp [hl], ?_, fun e he hst => ⟨hg e he hst, hr _⟩⟩⟩
  · intro q i h
    cases q with
    | shelf => simp [State.queue, hs, ChangeQueue.empty] at h
    | volume v => simp [State.queue, hq, Table.getD, ChangeQueue.empty] at h
  · rintro v (h | h)
    · exact absurd h (hr v)
    · simp [holdsQueue, hi] at h

/-- The laws hold where both grants are STAGED. -/
theorem granted_laws : fenceLaw granted ∧ tablesLaw granted ∧ leaseLaw granted ∧ stagedLaw granted ∧ noticeLaw granted ∧
    volumeLaw granted ∧ admissionLaw granted ∧ poolLaw granted :=
  ⟨by unfold fenceLaw; decide +kernel, by unfold tablesLaw; decide +kernel,
    leaseLaw_listed _ (by unfold Lease.lawful; decide +kernel), by unfold stagedLaw; decide +kernel,
    by unfold noticeLaw; decide +kernel, volumeLaw_idle _ rfl rfl rfl rfl rfl rfl rfl (by decide +kernel),
    by unfold admissionLaw; decide +kernel, by unfold poolLaw; decide +kernel⟩

/-- Head 0 and head 1 are admitted on every tag where both grants are STAGED. -/
theorem granted_admits (t : Tag) : admits granted 0 t ∧ admits granted 1 t := by
  revert t; unfold admits hears settled; decide +kernel

theorem test_empty_queue_idles : step two = .next two := rfl

/-- Hypotheses of StepTakesFrontCommand. -/
theorem test_meets_step : { two with pending := [.tick] }.pending = .tick :: [] := rfl

/-- With `granted_laws`: hypotheses of FenceLawKept, TablesStayInOrder, LeaseLawKept, StagedGrantLawKept, NoticeSetsStayBounded,
PoolLevelJudged (its step) and FrozenKeepsMaps. -/
theorem test_meets_kept_laws :
    (∃ u, step { granted with pending := [.tick] } = .next u) ∧
    ∃ u, step { granted with mode := .frozen, pending := [.tick] } = .next u :=
  ⟨⟨_, rfl⟩, ⟨_, rfl⟩⟩

/-- G is 2 and the one grace batch waits for head 0. -/
def gracing : State :=
  { two with
    generation := 2
    heads := putAt two.heads 1 (.joined ⟨7, 2, 3000, false⟩)
    spans := twoSpans
    grace := [⟨2, 3, [⟨0, 0⟩]⟩]
    stall := .quiet 10000 }

/-- Hypotheses of NoReleaseBeforeAcknowledgement. -/
theorem test_meets_release : ∃ u, step { gracing with pending := [.renew 0 3 7 2] } = .next u ∧
    (⟨2, 3, [⟨0, 0⟩]⟩ : Batch) ∈ gracing.grace ∧ (⟨2, 3, [⟨0, 0⟩]⟩ : Batch) ∉ u.grace ∧
    u.heads.get 0 = .joined ⟨7, 2, 3000, false⟩ ∧ (u.spans.get 0).free = [(0, 7)] :=
  ⟨_, rfl, by decide +kernel, by decide +kernel, by decide +kernel, by decide +kernel⟩

/-- Hypotheses of NoReleaseBeforeAcknowledgement, of its law. -/
theorem test_meets_generation_law : tablesLaw gracing ∧ generationLaw gracing ∧
    gracing.generation.toNat + batchBound gracing < 2 ^ 64 := by
  refine ⟨by unfold tablesLaw; decide +kernel, ⟨by decide +kernel, by decide +kernel, by decide +kernel, ?_⟩,
    by decide +kernel⟩
  have h : ∀ p : Port, (match gracing.heads.get p with
      | .joined m => decide (m.ack.toNat ≤ gracing.generation.toNat)
      | .absent => true
      | .lapsed _ => true) = true := by decide +kernel
  intro p m hm
  have := h p
  rw [hm] at this
  exact of_decide_eq_true this

/-! ## Frames and computations -/

/-- Hypotheses of RequestFramesReadBack and SentFrameLayouts. -/
theorem test_meets_frames :
    requestOf (.bind 3 15 1023 1 2 1 [0xFFFFFFFF]) = some (3, 15, 0x41) ∧
    (Instr.bind 3 15 1023 1 2 1 [0xFFFFFFFF]).wf = true ∧ requestOf (.watch 0 0 1 [⟨1, 0x10, 0⟩]) = some (0, 0, 0x60) ∧
    malformed 0xFF [] = true ∧ malformed 0x26 [0] = true ∧ malformed 0x26 [0, 0] = false ∧
    (frameSound [] && frameNamesTag []) = false ∧ damaged [0x01, 0x10, 0x05, 0, 0, 0, 0] = true ∧
    (AnswerBody.bytes .empty).length < 65536 ∧ (Notice.leaseLost 4095).subject < 2 ^ 32 := by decide +kernel

/-- Hypotheses of CheckGenerator, at the highest bit and below it. -/
theorem test_meets_check_generator : (15 < 16 ∧ (0xA001#16).getLsbD 15 = true) ∧ (0xA001#16).getLsbD 14 = false := by
  decide +kernel

/-- Hypotheses of FaultRecordTakes, clause by clause. -/
theorem test_meets_fault_record :
    (two.faults.get .log).held = none ∧
    ((two.faults.put .log ⟨some (.corrected, .store .retiredMark 0), false⟩).get .log).held =
      some (.corrected, .store .retiredMark 0) ∧
    ((two.faults.put (.port 3) ⟨some (.tagReuse, .frame none), false⟩).get (.port 3)).held =
      some (.tagReuse, .frame none) := by decide +kernel

/-- Hypotheses of SelectionTakesFirstFree: the scan from cursor 6 finds 6; behind a wrap it finds 1; with span 0 passed over,
span 1's 0. -/
theorem test_meets_selection :
    FreeSet.wf (twoSpans.get 0).free = true ∧ chooseExtent twoSpans 3 none = some ⟨0, 6⟩ ∧
    chooseExtent (putAt twoSpans 0 ⟨.online, 3, 8, [(1, 2)], 2, 6⟩) 3 none = some ⟨0, 1⟩ ∧
    chooseExtent twoSpans 3 (some 0) = some ⟨1, 0⟩ := by decide +kernel

/-- The example of chapter 2: four extents of pool 2 from span 3, whose cursor wraps. -/
theorem test_selection_example :
    (chooseRun 2 none 4 (putAt (Vector.replicate 16 .absent) 3 ⟨.online, 2, 8, [(2, 3), (6, 7)], 4, 6⟩)).1 =
      [⟨3, 6⟩, ⟨3, 7⟩, ⟨3, 2⟩, ⟨3, 3⟩] ∧
    ((chooseRun 2 none 4 (putAt (Vector.replicate 16 .absent) 3 ⟨.online, 2, 8, [(2, 3), (6, 7)], 4, 6⟩)).2.get 3) =
      ⟨.online, 2, 8, [], 0, 4⟩ := by decide +kernel

/-- Hypotheses of PoolLevelJudged. Allocatable at critical_free, one above it, at warn_free, one above it. -/
theorem test_meets_levels :
    (Pool.mk ⟨3, 1, 2⟩ 9 9 1 0 0 0 .normal).judged = .critical ∧ (Pool.mk ⟨3, 1, 2⟩ 9 9 2 0 0 0 .normal).judged = .low ∧
    (Pool.mk ⟨3, 1, 2⟩ 9 9 3 0 0 0 .normal).judged = .low ∧ (Pool.mk ⟨3, 1, 2⟩ 9 9 4 0 0 0 .low).judged = .normal ∧
    (granted.pools.get 3).judged = (granted.pools.get 3).level ∧ granted.joined 0 = true ∧
    (granted.ports.get 0).notices.length < Config.noticePlaces ∧ granted.joined 2 = false := by decide +kernel

/-- LEASE_WANTED of so many volumes. -/
def wantedSet (n : Nat) : List Notice := (List.range n).map (fun v => .leaseWanted v false)

/-- INVALIDATE of so many volumes. -/
def invalidSet (n : Nat) : List Notice := (List.range n).map (fun v => .invalidate v 1)

/-- A full set with two INVALIDATEs. -/
def mixedSet : List Notice := wantedSet 62 ++ [.invalidate 1 1, .invalidate 2 1]

/-- Hypotheses of NoticeSetAdds, clause by clause, at the last free place. -/
theorem test_meets_notice_adds :
    (Notice.leaseLost 1).same (.leaseLost 1) = true ∧ (Notice.leaseLost 1).same (.leaseWanted 1 false) = false ∧
    (∀ x ∈ wantedSet 63, (Notice.leaseLost 1).same x = false) ∧ (wantedSet 63).length < Config.noticePlaces ∧
    (∀ x ∈ wantedSet 3 ++ [.invalidateAll 1], (Notice.invalidate 1 2).same x = false) ∧
    (∀ x ∈ wantedSet 3, x.isInvalidateAll = false) := by decide +kernel

/-- Hypotheses of NoticeSetFull, of its first four clauses. -/
theorem test_meets_notice_full :
    Config.noticePlaces ≤ (invalidSet 64).length ∧ (∀ x ∈ invalidSet 64, (Notice.invalidate 64 2).same x = false) ∧
    (∀ x ∈ invalidSet 64, x.isInvalidateAll = false ∧ x.isInvalidate = true) ∧
    2 ≤ (mixedSet.filter Notice.isInvalidate).length ∧
    mixedSet.length = Config.noticePlaces ∧
    (∀ x ∈ mixedSet, (Notice.leaseLost 1).same x = false) ∧
    Config.noticePlaces ≤ (wantedSet 64).length ∧
    (∀ x ∈ wantedSet 64, x.isInvalidate = false ∧ x.isInvalidateAll = false ∧ x.isAdvisory = true ∧
      (Notice.leaseLost 1).same x = false) := by decide +kernel

/-- A full set with one INVALIDATE behind 63 notices made by `f`. -/
def singleSet (f : Nat → Notice) : List Notice := (List.range 63).map f ++ [.invalidate 1 1]

/-- Hypotheses of NoticeSetFull, of a set with one INVALIDATE (the oldest advisory notice, or the oldest LEASE_LOST, is its first),
and of an INVALIDATE that finds a full set with none. -/
theorem test_meets_notice_single :
    Config.noticePlaces ≤ (singleSet (fun v => .leaseWanted v false)).length ∧
    (∀ y ∈ singleSet (fun v => .leaseWanted v false), (Notice.leaseLost 1).same y = false ∧ y.isInvalidateAll = false) ∧
    (∀ y ∈ (List.range 63).map (fun v => Notice.leaseWanted v false), y.isInvalidate = false) ∧
    (Notice.leaseWanted 0 false).isAdvisory = true ∧
    (∀ y ∈ singleSet Notice.leaseLost, (Notice.leaseWanted 1 true).same y = false ∧ y.isInvalidateAll = false) ∧
    (∀ y ∈ (List.range 63).map Notice.leaseLost ++ [.invalidateAll 1], y.isAdvisory = false) ∧
    (Notice.leaseLost 0).isLeaseLost = true ∧
    (∀ y ∈ wantedSet 64, y.isInvalidate = false ∧ y.isInvalidateAll = false) ∧
    (∀ y ∈ (List.range 64).map Notice.leaseLost, y.isInvalidate = false ∧ y.isInvalidateAll = false ∧
      y.isAdvisory = false) := by decide +kernel

theorem test_notice_single :
    (addToSet 9 (.leaseLost 99) (singleSet (fun v => .leaseWanted v false)) false) =
      ((List.range 62).map (fun v => .leaseWanted (v + 1) false) ++ [.invalidateAll 9, .leaseLost 99], true) ∧
    (addToSet 9 (.invalidate 5 9) ((List.range 64).map Notice.leaseLost) false) =
      ((List.range 63).map (fun v => .leaseLost (v + 1)) ++ [.invalidateAll 9], true) := by decide +kernel

/-- Hypotheses of NoticeSetFull, of its last clause. -/
theorem test_meets_notice_displaces_lost :
    Config.noticePlaces ≤ (List.range 64).length ∧
    (∀ y ∈ (List.range 64).map Notice.leaseLost, (Notice.generation 2).same y = false ∧ y.isInvalidate = false ∧
      y.isAdvisory = false ∧ y.isLeaseLost = true) := by decide +kernel

/-! ## Resets and recovery -/

/-- One whole intent is left to be replayed. -/
def replaying : State :=
  { State.reset with
    recovery := { Recovery.idle with stage := .replaying, todo := [⟨0, true⟩] }
    store := { twoStore with slots := [(0, ⟨1, true, .tenant, [.setTenant 2 (some 5)]⟩)] } }

/-- Hypotheses of ResetsRestart. -/
theorem test_meets_resets : settled granted ∧ settled State.reset := by unfold settled; decide +kernel

/-- Hypotheses of ReplayWritesEffects. -/
theorem test_meets_replay :
    replaying.mode = .recovering ∧ replaying.recovery.stage = .replaying ∧ replaying.recovery.writesStopped = false ∧
    replaying.recovery.blocked = false ∧ Table.get? replaying.store.slots 0 = some ⟨1, true, .tenant, [.setTenant 2 (some 5)]⟩ ∧
    State.reset.recovery.stage = .booted ∧ State.reset.recovery.writesStopped = false := by decide +kernel

theorem test_replay : (after (.recoveryReplayIntent []) replaying).store.quotas = [(2, 5)] ∧
    (after (.recoveryReplayIntent []) replaying).store.retired = 1 ∧
    (after (.recoveryReplayIntent []) replaying).store.slots = [] ∧
    (after (.recoveryReplayIntent []) replaying).sequence = 1 := by decide +kernel

/-- Three slots are still to be read: whole images of the sequence numbers 2 and 1, and one that is not whole. -/
def unread : State :=
  { State.reset with
    store := { twoStore with
      slots := [(0, ⟨2, true, .tenant, [.setTenant 2 (some 6)]⟩), (1, ⟨1, true, .tenant, [.setTenant 2 (some 5)]⟩),
        (2, ⟨3, false, .tenant, [.setTenant 2 (some 7)]⟩)] } }

/-- Hypotheses of ReplayWritesEffects, of its third clause, with images to replay and with none. -/
theorem test_meets_log_read : unread.mode = .recovering ∧ unread.recovery.stage = .booted ∧
    unread.recovery.writesStopped = false ∧ tablesLaw unread ∧ tablesLaw State.reset ∧
    replayItems [] unread.store = ⟨1, true⟩ :: [⟨0, true⟩] ∧ replayItems [] State.reset.store = [] := by
  unfold tablesLaw; decide +kernel

theorem test_log_read : (after (.recoveryReplayIntent []) unread).recovery.todo = [⟨0, true⟩] ∧
    (after (.recoveryReplayIntent []) unread).store.slots = [(0, ⟨2, true, .tenant, [.setTenant 2 (some 6)]⟩)] ∧
    (after (.recoveryReplayIntent []) unread).store.retired = 1 ∧
    (after (.recoveryReplayIntent []) unread).store.quotas = [(2, 5)] := by decide +kernel

/-- The log is empty and the tables are still to be read. -/
def unswept : State := { replaying with recovery := { Recovery.idle with stage := .replaying }, store := twoStore }

/-- Hypotheses of SweepRebuildsTables; reads at the last index of the volume and of the volume's record; a cell that the sweep
takes. -/
theorem test_meets_sweep : unswept.mode = .recovering ∧ unswept.recovery.stage = .replaying ∧ unswept.recovery.todo = [] ∧
    tablesLaw unswept ∧ Reads.wf [(.volume 1, .uncorrectable)] = true ∧ Reads.wf [(.entry 1 63, .uncorrectable)] = true ∧
    63 < (Table.getD .absent unswept.store.volumes 1).size ∧
    (Table.getD .absent unswept.store.volumes 1).state ≠ .absent := by unfold tablesLaw; decide +kernel

/-- The store with one entry more, on the extent that index 4 is placed on. -/
def doubled : State :=
  { unswept with store := { twoStore with cells := [(1, [(4, ⟨⟨0, 0⟩, 0xF⟩), (9, ⟨⟨0, 0⟩, 0⟩), (11, ⟨⟨5, 0⟩, 0⟩)])] } }

theorem test_sweep_takes : (after (.recoverySweep []) doubled).maps = space.maps ∧
    (after (.recoverySweep []) doubled).poison = [(1, 9), (1, 11)] ∧
    (after (.recoverySweep [(.entry 1 4, .uncorrectable)]) doubled).poison = [(1, 4), (1, 11)] ∧
    ((after (.recoverySweep [(.entry 1 4, .uncorrectable)]) doubled).mapOf 1).map Prod.fst = [9] ∧
    (after (.recoverySweep [(.volume 1, .uncorrectable)]) doubled).volumes = [] := by decide +kernel

theorem test_sweep : (after (.recoverySweep []) unswept).maps = space.maps ∧
    (after (.recoverySweep []) unswept).volumes = space.volumes ∧
    (after (.recoverySweep []) unswept).tenants = space.tenants ∧
    (after (.recoverySweep []) unswept).pools = space.pools ∧
    (after (.recoverySweep []) replaying).sequence = 1 := by decide +kernel

/-- Swept, with volume 1 to be deleted. -/
def swept : State :=
  { State.reset with
    recovery := { Recovery.idle with stage := .swept }
    volumes := [(1, ⟨.deleting, 2, 3, 64, 1, 0, true, none⟩)]
    maps := [(1, [(4, ⟨⟨0, 0⟩, 0xF⟩)])] }

/-- Hypotheses of RecoveryEnds. -/
theorem test_meets_recovery_end :
    swept.mode = .recovering ∧ swept.recovery.stage = .swept ∧ swept.recovery.firstFault = none ∧
    deletingVolumes swept = [1] ∧ (swept.volume 1).state = .deleting ∧ 0 < (swept.volume 1).mapped ∧ swept.grace = [] ∧
    deletingVolumes { swept with volumes := [] } = [] ∧ tablesLaw swept ∧ swept.admission = 0 ∧
    (deletingVolumes swept).length ≤ 3072 ∧ (after .recoveryEnd swept).deletionsDue = 1 :: [] ∧
    (after .recoveryEnd swept).logWait = [] ∧
    (after .recoveryEnd { swept with volumes := [(1, ⟨.deleting, 2, 3, 64, 0, 0, true, none⟩)], maps := [] }).deletionsDue =
      1 :: [] := by unfold tablesLaw; decide +kernel

theorem test_recovery_end : (after .recoveryEnd swept).mode = .serving ∧
    ((takeDue .removal (after .recoveryEnd swept)).logWait.map Intent.effects) = [[.removeEntry 1 4]] ∧
    (after .recoveryEnd swept).promises = 1 ∧
    (after .recoveryEnd { swept with recovery := { swept.recovery with firstFault := some ⟨.log, .uncorrectable⟩ } }).mode =
      .frozen := by decide +kernel

/-- A recovery that has been asked QueryPart on port 0, tag 5, and has not sent the answer. -/
def asked : State := after (.queryPart 0 5) (after (.linkUp 0) swept)

/-- The tag of an answer that has not left stays BUSY over the end of recovery (log 35), and is FREE once it has left (R179). -/
theorem test_unsent_answer : ((after .recoveryEnd asked).ports.get 0).busy = putAt (Vector.replicate 16 false) 5 true ∧
    ((after .recoveryEnd asked).ports.get 0).answers.length = 1 ∧
    (after (.join 0 5 9) (after .recoveryEnd asked)).heads.get 0 = .absent ∧
    ((after (.answerSent 0) (after .recoveryEnd asked)).ports.get 0).busy = Vector.replicate 16 false := by decide +kernel

/-- From State.reset a head is let in by a sweep, the end of recovery, a link and a Join. -/
theorem test_first_member :
    (after (.join 2 0 9) (after (.linkUp 2) (after .recoveryEnd State.reset))).heads.get 2 =
      .joined ⟨9, 1, 3000, false⟩ ∧
    (after (.join 2 0 9) (after (.linkUp 2) (after .recoveryEnd State.reset))).fences.get 2 = .released := by
  decide +kernel

/-! ## Arrival and membership -/

/-- Port 0 has tag 3 BUSY. -/
def busyTag : State :=
  { granted with ports := putAt granted.ports 0 { granted.ports.get 0 with busy := putAt (Vector.replicate 16 false) 3 true } }

/-- Hypotheses of BusyOrDownIsDropped. -/
theorem test_meets_dropped :
    requestOf (.leave 0 3) = some (0, 3, 0x03) ∧ settled busyTag ∧ busyTag.linkUp 0 = true ∧
    (busyTag.ports.get 0).busy.get 3 = true ∧ granted.linkUp 2 = false ∧ malformed 0xFF [] = true := by unfold settled; decide +kernel

theorem test_tag_reuse : (after (.leave 0 3) busyTag).faults.ports.get 0 = ⟨some (.tagReuse, .frame (some 3)), false⟩ ∧
    (after (.unknownRequestKind 0 3 0xFF []) busyTag).faults.ports.get 0 = ⟨some (.tagReuse, .frame (some 0xFF)), false⟩ ∧
    (after (.frameDamaged 0 [1, 2, 0x26]) granted).faults.ports.get 0 = ⟨some (.frameDamaged, .frame (some 0x26)), false⟩ := by
  decide +kernel

/-- Port 2 is UP and its head ABSENT. -/
def stranger : State := { granted with ports := putAt granted.ports 2 { HeadPort.down with linkUp := true } }

/-- Hypotheses of StartingAndNotJoined. -/
theorem test_meets_not_joined : hears stranger 2 15 ∧ stranger.mode ≠ .recovering ∧ stranger.joined 2 = false ∧
    hears { stranger with mode := .recovering } 2 0 := by unfold hears settled; decide +kernel

/-- Hypotheses of FrozenRefusals. -/
theorem test_meets_frozen : admits { granted with mode := .frozen } 0 0 ∧ named { granted with mode := .frozen } 1 := by
  unfold admits hears settled named; decide +kernel

/-- Hypotheses of BadFrames. -/
theorem test_meets_bad_frames : hears stranger 2 0 ∧ malformed 0x05 [1] = true ∧ malformed 0x08 [] = true ∧
    damaged [0x01] = true := by unfold hears settled; decide +kernel

/-- Hypotheses of JoinMakesMember; with `granted_laws`, of JoinNewIncarnation and QueriesOfThePart. -/
theorem test_meets_join :
    stranger.heads.get 2 = .absent ∧ (granted.heads.get 0 = .joined ⟨7, 1, 3000, false⟩) ∧
    hears { stranger with heads := putAt stranger.heads 2 (.lapsed 9) } 2 0 := by unfold hears settled; decide +kernel

/-- Head 0 holds the lease of volume 1, waits for that of volume 2 on tag 9 and watches volume 2 on tag 10. -/
def involved : State :=
  { granted with
    volumes := [(1, ⟨.active, 2, 3, 64, 1, 2, true, none⟩), (2, ⟨.active, 2, 3, 64, 0, 0, true, none⟩)]
    leases := [(1, ⟨.held 0, 5, [⟨1, 6, false⟩]⟩), (2, ⟨.held 1, 3, [⟨0, 9, false⟩]⟩)]
    watches := [⟨0, 10, 50, [⟨2, .port 1, true⟩]⟩] }

/-- Hypotheses of JoinNewIncarnation, of a waiting Claim, a watch and a notice set with room. -/
theorem test_meets_join_new : hears involved 0 3 ∧ tablesLaw involved ∧ leaseLaw involved ∧
    (involved.lease 2).heldBy 0 = false ∧ (involved.lease 1).heldBy 0 = true ∧ involved.joined 1 = true ∧
    (involved.ports.get 1).notices.length + (involved.leases.filter (fun e => !e.2.waiters.isEmpty)).length +
      3 * (stagedOf involved 0).length + involved.grace.length < 64 :=
  ⟨by unfold hears settled; decide +kernel, by unfold tablesLaw; decide +kernel,
    leaseLaw_listed _ (by unfold Lease.lawful; decide +kernel), by decide +kernel, by decide +kernel, by decide +kernel,
    by decide +kernel⟩

theorem test_join_new :
    (((after (.join 0 3 8) involved).ports.get 0).answers.map (fun a => (a.tag, a.outcome))) =
      [(9, .refused .notJoined), (10, .refused .notJoined), (3, .joined)] ∧
    .headLapsed 0 7 ∈ ((after (.join 0 3 8) involved).ports.get 1).notices ∧
    (after (.join 0 3 8) involved).leases = [(1, ⟨.held 1, 6, []⟩), (2, ⟨.held 1, 3, []⟩)] := by decide +kernel

theorem test_join_again : (after (.join 0 0 8) granted).grants = [] ∧
    (after (.join 0 0 8) granted).leases = [(1, ⟨.orphaned, 5, []⟩)] ∧
    (after (.join 0 0 8) granted).heads.get 0 = .joined ⟨8, 3, 3000, false⟩ := by decide +kernel

/-- Hypotheses of RenewAcknowledges, each clause. -/
theorem test_meets_renew :
    gracing.heads.get 0 = .joined ⟨7, 1, 3000, false⟩ ∧ admits gracing 0 3 ∧ (3 : Gen).toNat > gracing.generation.toNat ∧
    (1 : Gen).toNat ≤ 1 ∧ admits { gracing with stall := .warned 5 2 } 0 3 := by
  unfold admits hears settled; decide +kernel

theorem test_leave : (after (.leave 0 3) granted).leases = [(1, ⟨.free, 5, []⟩)] ∧
    (after (.leave 0 3) granted).grace.map Batch.tag = [2, 3] ∧
    (after (.leave 0 3) granted).fences.get 0 = .asserted := by decide +kernel

/-- A waiter stands behind head 0's lease, recalled. -/
def contended : State := { granted with leases := [(1, ⟨.recalling 0 9, 5, [⟨1, 6, true⟩]⟩)] }

/-- With `granted_admits`: hypotheses of LeaveEndsMembership. -/
theorem test_meets_leave : tablesLaw contended ∧ leaseLaw contended ∧ (contended.lease 1).heldBy 0 = true ∧
    (granted.lease 1).heldBy 0 = true ∧ (granted.lease 1).waiters = [] :=
  ⟨by unfold tablesLaw; decide +kernel, leaseLaw_listed _ (by unfold Lease.lawful; decide +kernel), by decide +kernel,
    by decide +kernel, by decide +kernel⟩

/-- Hypotheses of LeaveEndsMembership, of a waiting Claim and of a watch that names no lease the head held. -/
theorem test_meets_leave_involved : admits involved 0 3 ∧ ⟨0, 9, false⟩ ∈ (involved.lease 2).waiters ∧
    (involved.lease 2).heldBy 0 = false ∧ ⟨0, 10, 50, [⟨2, .port 1, true⟩]⟩ ∈ involved.watches ∧ heldVolumes involved 0 = [1] ∧
    involved.joined 2 = false := by unfold admits hears settled; decide +kernel

theorem test_leave_answers :
    (((after (.leave 0 3) involved).ports.get 0).answers.map (fun a => (a.tag, a.outcome))) =
      [(9, .refused .cancelled), (10, .refused .cancelled), (3, .done)] ∧
    ((after (.leave 0 3) involved).ports.get 1).answers = [⟨6, 0x10, .granted, 3, .leased 1 6 false false⟩] ∧
    (after (.leave 0 3) involved).leases = [(1, ⟨.held 1, 6, []⟩), (2, ⟨.held 1, 3, []⟩)] := by decide +kernel

/-- With `granted_admits`: hypotheses of ClearFaultClears at the first and the last source and beyond it. -/
theorem test_meets_clear_fault :
    FaultSource.code (.port 3) = (5 : Byte).toNat ∧ 5 < (6 : Byte).toNat ∧ FaultSource.code .mapStore = (0 : Byte).toNat ∧
    ((two.faults.put .mapStore ⟨some (.corrected, .store .config 0), true⟩).get .mapStore).held ≠ none ∧
    (two.faults.get (.port 3)).held = none := by decide +kernel

/-! ## Requests that join a queue, and queries -/

/-- With `granted_admits`: hypotheses of ShelfRequestsQueue. -/
theorem test_meets_shelf_requests : granted.mode = .serving ∧ periodOf 2 = some .ms4 ∧ periodOf 3 = none ∧
    (100#32).toNat ≤ 60000 ∧ (33554432#32).toNat ≤ 33554432 := by decide +kernel

/-- With `granted_admits`: hypotheses of ShelfRequestsQueue, of its refusals, at the first value beyond each range. -/
theorem test_meets_shelf_refusals :
    2 < (3 : Byte).toNat ∧ ((2 : Byte).toNat ≤ 2 ∧ (99#32).toNat < 100 ∧ 10000 < (10001#32).toNat) ∧
    255 < (256#16).toNat ∧ ((33554433#32) ≠ 0xFFFFFFFF#32 ∧ 33554432 < (33554433#32).toNat) ∧
    (15 < (16 : Byte).toNat ∧ 7 < (8 : Byte).toNat ∧ 1 < (2 : Byte).toNat) ∧
    ((15 : Byte).toNat ≤ 15 ∧ (7 : Byte).toNat ≤ 7 ∧ 16777216 < (16777217#32).toNat) ∧
    (5#32).toNat < (6#32).toNat := by decide +kernel

/-- With `granted_admits`: hypotheses of VolumeRequestsQueue. -/
theorem test_meets_volume_requests : named granted 1 ∧ (granted.volume 4095).state ≠ .deleting ∧
    4 < (granted.volume 1).size ∧ granted.entry? 1 4 = some ⟨⟨0, 0⟩, 0xF⟩ := by unfold named; decide +kernel

/-- Volume 1 is DELETING. -/
def doomed : State := { granted with volumes := [(1, ⟨.deleting, 2, 3, 64, 1, 2, true, none⟩)] }

/-- Hypotheses of VolumeRequestsQueue, of its refusals: each refusal of R3, and each range at the first value beyond it. -/
theorem test_meets_volume_refusals :
    refusedVolume granted 4096 .badForm ∧ refusedVolume granted 4095 .noVolume ∧ refusedVolume doomed 1 .volumeState ∧
    admits doomed 0 0 ∧ 16777216 < (16777217#32).toNat ∧ ((3 : Byte) ≠ 1#8 ∧ (3 : Byte) ≠ 2#8) ∧
    (granted.volume 1).size ≤ (64#32).toNat ∧ granted.entry? 1 63 = none ∧ 4096 < (4097#16).toNat ∧
    (255 < (256#16).toNat ∧ 7 < (8 : Byte).toNat) ∧ (granted.volume 4095).state = .absent := by
  unfold refusedVolume admits hears settled; decide +kernel

/-- An empty written set is answered on an ORPHANED lease and on a READ_ONLY volume (log 38). -/
theorem test_note_nothing :
    ((after (.noteWritten 0 3 1 4 0 []) { granted with leases := [(1, ⟨.orphaned, 5, []⟩)] }).ports.get 0).answers =
      [⟨3, 0x31, .done, 1, .noted 0xF false⟩] ∧
    ((after (.noteWritten 0 3 1 4 0 []) { granted with volumes := [(1, ⟨.readOnly, 2, 3, 64, 1, 2, true, none⟩)] }).ports.get 0
      ).answers = [⟨3, 0x31, .done, 1, .noted 0xF false⟩] := by decide +kernel

/-- With `granted_admits`: hypotheses of QueryTenantReports. -/
theorem test_meets_tenants : (granted.tenant 255).quota = none ∧ (granted.tenant 2).quota = some 10 ∧
    (granted.tenant 2).used + (granted.tenant 2).pending ≤ 10 ∧
    1 < (Tenant.mk (some 1) 2 0).used + (Tenant.mk (some 1) 2 0).pending := by decide +kernel

theorem test_query_pool : (poolBody granted 3) = .pool ⟨3, 1, 2⟩ 12 8 8 3 1 0 .normal 12
    [⟨0, .online, 8, 5⟩, ⟨1, .online, 4, 3⟩] := by decide +kernel

theorem test_query_volume : ((after (.queryVolume 0 3 1 1) granted).volume 1).latch = false ∧
    (granted.volume 1).state ≠ .absent := by decide +kernel

/-- With `granted_admits`: hypotheses of ResolveReports and ResolvePoisons, each row of Table 1-4. -/
theorem test_meets_resolve :
    granted.entry? 1 4 = some ⟨⟨0, 0⟩, 0xF⟩ ∧ granted.relocationOf 1 4 = some (1, relocation) ∧
    space.relocationOf 1 4 = none ∧ granted.entry? 1 10 = none ∧ granted.allocationOf 1 10 = some (0, allocation) ∧
    granted.allocationOf 1 12 = none ∧ named granted 1 ∧ (1, 4) ∉ granted.poison ∧
    indexReport { granted with poison := [(1, 4)] } 1 4 = .poisoned ∧ 63 + 1 - 1 < (granted.volume 1).size ∧
    (granted.volume 1).size ≤ 64 + 1 - 1 := by unfold named; decide +kernel

theorem test_resolve_poisons :
    (after (.resolve 0 3 1 4 1 [(.entry 1 4, .uncorrectable)]) granted).mode = .frozen ∧
    (after (.resolve 0 3 1 4 1 [(.entry 1 4, .uncorrectable)]) granted).poison = [(1, 4)] := by decide +kernel

/-! ## Leases -/

/-- Hypotheses of ClaimAnsweredAtOnce and ClaimWaits. -/
theorem test_meets_claims :
    (granted.lease 1).hold.holder? = some 0 ∧ ({ granted with leases := [] }.lease 1).hold = .free ∧
    ({ granted with leases := [(1, ⟨.orphaned, 5, []⟩)] }.lease 1).hold = .orphaned ∧
    (∃ x ∈ (contended.lease 1).waiters, x.port = 1) ∧ (granted.lease 1).hold = .held 0 ∧
    (∀ x ∈ (granted.lease 1).waiters, x.port ≠ 1) ∧ admits contended 1 3 ∧ admits contended 0 3 ∧ named contended 1 := by
  unfold admits hears settled named; decide +kernel

theorem test_claim_recalls :
    (after (.claim 1 6 1 1 1) granted).leases = [(1, ⟨.recalling 0 1000, 5, [⟨1, 6, true⟩]⟩)] ∧
    ((after (.claim 1 6 1 1 1) granted).ports.get 0).notices = [.leaseWanted 1 true] := by decide +kernel

theorem test_release_passes : (after (.release 0 3 1) contended).leases = [(1, ⟨.held 1, 6, []⟩)] ∧
    (after (.release 0 3 1) contended).grants = [] ∧
    (after (.release 1 3 1) contended).leases = [(1, ⟨.held 0, 5, []⟩)] := by decide +kernel

/-- With `test_meets_claims`: hypotheses of ReleaseByHolder and ReleaseByOthers. -/
theorem test_meets_releases : (contended.lease 1).waiters = [⟨1, 6, true⟩] ∧ (contended.lease 1).heldBy 1 = false ∧
    (∀ w ∈ (granted.lease 1).waiters, w.port ≠ 1) ∧ (granted.lease 1).heldBy 1 = false := by decide +kernel

/-! ## Grants -/

/-- Hypotheses of ReserveMakesGrant on the last two indices of the volume. -/
theorem test_meets_reserve : admits granted 0 3 ∧ granted.mode = .serving ∧ (granted.volume 1).state = .active ∧
    (granted.lease 1).heldBy 0 = true ∧ 62 + 2 - 1 < reserveSize granted 1 ∧ granted.entry? 1 63 = none ∧
    granted.allocationOf 1 63 = none ∧ granted.entry? 1 62 = none ∧ granted.allocationOf 1 62 = none ∧
    granted.admission < 3072 ∧
    granted.freeRecord? = some 2 ∧ (granted.volume 1).pool = 3 ∧
    (granted.pools.get 3).settings.floor + 2 ≤ (granted.pools.get 3).allocatable ∧
    (granted.tenant (granted.volume 1).tenant).used + (granted.tenant (granted.volume 1).tenant).pending + 2 ≤ 10 := by
  unfold admits hears settled; decide +kernel

/-- The admission count stands at its limit. -/
def congested : State := { granted with promises := 3072 }

/-- Every grant record is in use, by committed grants on volume 2. -/
def fullRecords : Table Grant :=
  (List.range Config.grantRecords).map (fun n => (n, { allocation with state := .binding, volume := 2 }))

/-- No grant record is FREE. -/
def crowded : State := { space with grants := fullRecords }

theorem get?_range (g : Grant) (l : List Nat) (n : Nat) (h : n ∈ l) :
    Table.get? (l.map (fun k => (k, g))) n = some g := by
  induction l with
  | nil => simp at h
  | cons k l ih =>
    by_cases hk : k = n
    · simp [Table.get?, hk]
    · simp only [List.map_cons, Table.get?, hk, if_false]
      exact ih (List.mem_of_ne_of_mem (fun e => hk e.symm) h)

theorem crowded_full : crowded.freeRecord? = none := by
  unfold State.freeRecord?
  rw [List.find?_eq_none]
  intro n hn
  have h : crowded.grants = fullRecords := by simp only [crowded]
  rw [State.grant?, h, fullRecords, get?_range _ _ n hn]
  simp

/-- Hypotheses of ReserveMakesGrant, of its refusals, in the order of Table 3-3. -/
theorem test_meets_reserve_refusals :
    (16 < (17 : Byte).toNat ∧ (granted.lease 1).heldBy 1 = false) ∧
    ({ granted with volumes := [(1, ⟨.readOnly, 2, 3, 64, 1, 2, true, none⟩)] }.volume 1).state = .readOnly ∧
    reserveSize granted 1 ≤ 63 + 2 - 1 ∧
    (granted.entry? 1 4 ≠ none ∧ granted.entry? 1 3 = none) ∧
    (granted.allocationOf 1 10 ≠ none ∧ granted.allocationOf 1 9 = none ∧ granted.entry? 1 10 = none) ∧
    3072 ≤ congested.admission ∧ admits congested 0 3 ∧
    (crowded.admission < 3072 ∧ crowded.allocationOf 1 63 = none) ∧
    (granted.pools.get 3).allocatable < (granted.pools.get 3).settings.floor + 7 ∧
    ((granted.pools.get 3).settings.floor + 6 ≤ (granted.pools.get 3).allocatable ∧
      5 < (granted.tenant 2).used + (granted.tenant 2).pending + 6) := by
  unfold admits hears settled; decide +kernel

theorem test_reserve_refused :
    ((after (.reserve 0 3 1 10 2 []) granted).ports.get 0).answers =
      [⟨3, 0x40, .refused .inGrant, 1, .index 10⟩] ∧
    ((after (.reserve 0 3 1 60 2 []) congested).ports.get 0).answers = [⟨3, 0x40, .refused .graceFull, 1, .empty⟩] := by
  decide +kernel

theorem test_reserve : ((after (.reserve 0 3 1 62 2 []) granted).grant? 2).map Grant.extents =
      some [(62, ⟨0, 1⟩), (63, ⟨0, 2⟩)] ∧
    (after (.reserve 0 3 1 62 2 []) granted).serial = 3 ∧
    ((after (.reserve 0 3 1 62 2 []) granted).pools.get 3).allocatable = 6 := by decide +kernel

/-- Hypotheses of BindAndCompleteCommit. -/
theorem test_meets_commits : admits granted 0 3 ∧ granted.grant? 0 = some allocation ∧ granted.grant? 1 = some relocation ∧
    allocation.owner = 0 ∧ allocation.count = 2 ∧ (0x1235#16) ≠ allocation.check ∧ granted.admission < 3072 ∧
    (granted.volume 1).state ≠ .deleting := by unfold admits hears settled; decide +kernel

/-- Hypotheses of BindAndCompleteCommit, of its refusals, in the order of R55, R129 and R62. -/
theorem test_meets_commit_refusals :
    (1 < (2 : Byte).toNat ∧ 1023 < (1024#16).toNat) ∧ granted.grant? 1023 = none ∧ allocation.serial ≠ 9 ∧
    allocation.owner ≠ 1 ∧ (allocation.kind = .allocate ∧ relocation.kind = .relocate ∧ allocation.isStaged = true) ∧
    { allocation with state := .binding }.isStaged = false ∧ committed.grant? 0 = some { allocation with state := .binding } ∧
    (doomed.volume allocation.volume).state = .deleting ∧ admits doomed 0 3 ∧ admits granted 1 3 ∧
    (0x1235#16) ≠ allocation.check ∧ [0].length ≠ allocation.count ∧ 3072 ≤ congested.admission := by
  unfold admits hears settled; decide +kernel

theorem test_bind_refused :
    ((after (.bind 1 3 0 1 0x1234 1 [0, 1]) granted).ports.get 1).answers = [⟨3, 0x41, .refused .notHolder, 1, .empty⟩] ∧
    ((after (.bind 0 3 0 1 0x1234 1 [0]) granted).ports.get 0).answers = [⟨3, 0x41, .refused .range, 1, .empty⟩] ∧
    ((after (.completeRelocate 0 3 1 2 0x5678) congested).ports.get 0).answers =
      [⟨3, 0x44, .refused .graceFull, 1, .empty⟩] := by decide +kernel

theorem test_bind_queues :
    (after (.bind 0 3 0 1 0x1234 1 [0, 1]) granted).queues = [(1, ⟨none, [⟨.bind 1 0 true [0, 1], by0⟩]⟩)] ∧
    ((after (.completeRelocate 0 3 1 2 0x5678) granted).grant? 1).map Grant.state = some .binding := by decide +kernel

/-- Hypotheses of DropsReturnExtents, by Abandon and by expiry. -/
theorem test_meets_drops : granted.grant? 1 = some relocation ∧ relocation.isStaged = true ∧ settled granted ∧
    granted.heads.get 1 = .joined ⟨7, 1, 3000, false⟩ ∧
    ({ granted with grants := [(0, allocation), (1, { relocation with state := .staged 0 })] }.grant? 1) =
      some { relocation with state := .staged 0 } := by unfold settled; decide +kernel

theorem test_abandon : (after (.abandon 0 3 0 1) granted).grace = [⟨2, 3, [⟨0, 6⟩, ⟨0, 7⟩]⟩] ∧
    ((after (.abandon 0 3 0 1) granted).volume 1).pending = 0 := by decide +kernel

/-- An INVALIDATE_ALL is pending at head 1. -/
def invalidated : State :=
  { granted with ports := putAt granted.ports 1 { granted.ports.get 1 with notices := [.invalidateAll 1] } }

/-- Hypotheses of DropsReturnExtents, of its notices: head 1, no originator, with room, and with an INVALIDATE_ALL pending. -/
theorem test_meets_drop_notices : granted.joined 1 = true ∧ granted.joined 2 = false ∧
    (granted.ports.get 1).notices.length + granted.grace.length + 2 < 64 ∧
    (granted.ports.get 0).notices.length + granted.grace.length + 2 < 64 ∧
    (∃ y ∈ (invalidated.ports.get 1).notices, y.isInvalidateAll = true) ∧
    (∀ y ∈ (invalidated.ports.get 1).notices, y.isInvalidate = false) ∧ admits invalidated 0 3 := by
  unfold admits hears settled; decide +kernel

/-- The originator is passed over (R109, R124); an allocation grant's drop carries no INVALIDATE. -/
theorem test_drop_notices :
    ((after (.abandon 0 3 1 2) granted).ports.get 1).notices = [.invalidate 1 2, .generation 2] ∧
    ((after (.abandon 0 3 1 2) granted).ports.get 0).notices = [] ∧
    ((after (.abandon 0 3 0 1) granted).ports.get 1).notices = [.generation 2] ∧
    ((after (.abandon 0 3 1 2) invalidated).ports.get 1).notices = [.invalidateAll 2, .generation 2] := by decide +kernel

/-- Hypotheses of RelocateMakesGrant. -/
theorem test_meets_relocate : admits space 0 0 ∧ named space 1 ∧ (space.lease 1).heldBy 0 = true ∧
    space.entry? 1 4 = some ⟨⟨0, 0⟩, 0xF⟩ ∧ inHeldRange space 1 4 = false ∧ space.relocationOf 1 4 = none ∧
    space.admission < 3072 ∧ space.freeRecord? = some 0 ∧ chooseExtent space.spans 3 (some 0) = some ⟨1, 0⟩ := by
  unfold admits hears settled named; decide +kernel

/-- Hypotheses of RelocateMakesGrant, of its refusals, in the order of Table 7-1. -/
theorem test_meets_relocate_refusals :
    (granted.lease 1).heldBy 1 = false ∧ (granted.volume 1).size ≤ (64#32).toNat ∧ granted.entry? 1 5 = none ∧
    inHeldRange { space with queues := [(1, ⟨some (.trim [4]), []⟩)] } 1 4 = true ∧ granted.relocationOf 1 4 ≠ none ∧
    3072 ≤ { space with promises := 3072 }.admission ∧ (crowded.entry? 1 4 = some ⟨⟨0, 0⟩, 0xF⟩ ∧ crowded.admission < 3072) ∧
    (∀ n, ({ space with spans := putAt twoSpans 1 .absent }.spans.get n).state = .online →
      ({ space with spans := putAt twoSpans 1 .absent }.spans.get n).pool = 3 → n ≠ 0 →
      ({ space with spans := putAt twoSpans 1 .absent }.spans.get n).freeCount = 0) := by decide +kernel

/-! ## Watches and time -/

/-- With `granted_admits`: hypotheses of WatchHeldOrAnswered, held and answered. -/
theorem test_meets_watch : expectAll [⟨1, 0, 1⟩] = some [⟨1, .port 0, true⟩] ∧
    ((granted.lease 1).hold.view = .port 0 ∧ (granted.volume 1).latch = true) ∧
    expectAll [⟨1, 0x10, 1⟩] = some [⟨1, .none, true⟩] ∧ (granted.lease 1).hold.view ≠ .none ∧ named granted 1 := by
  unfold named; decide +kernel

/-- A watch of head 1 on volume 1 whose countdown has run out. -/
def watched : State := { granted with watches := [⟨1, 2, 0, [⟨1, .port 0, true⟩]⟩] }

/-- Hypotheses of WatchHeldOrAnswered, its timeout. -/
theorem test_meets_watch_timeout : settled watched ∧ watched.linkUp 1 = true ∧
    watched.watches.find? (fun x => decide (x.countdown = 0)) = some ⟨1, 2, 0, [⟨1, .port 0, true⟩]⟩ := by
  unfold settled; decide +kernel

/-- With `granted_admits`: hypotheses of WatchHeldOrAnswered, of its refusals: a holder and a latch out of their values, no item, 17
items, a repeated volume, a timeout of 60001, an item whose volume is refused behind one whose volume is not. -/
theorem test_meets_watch_refusals :
    (1 < (2 : Byte).toNat ∧ 3 < (4 : Byte).toNat ∧ (4 : Byte) ≠ 0x10#8 ∧ (4 : Byte) ≠ 0x11#8) ∧
    16 < (List.replicate 17 (WatchItem.mk 1 0 1)).length ∧ ¬ ([WatchItem.mk 1 0 1, ⟨1, 1, 1⟩].map WatchItem.volume).Nodup ∧
    60000 < (60001#32).toNat ∧ expectAll [⟨1, 0, 1⟩, ⟨9, 0, 1⟩] = some ([⟨1, .port 0, true⟩] ++ ⟨9, .port 0, true⟩ :: []) ∧
    named granted 1 ∧ refusedVolume granted 9 .noVolume := by unfold named refusedVolume; decide +kernel

/-- A watch of head 1 on volume 1, which another watch on volume 5 stands beside. -/
def watchedPair : State :=
  { granted with watches := [⟨1, 2, 9, [⟨1, .port 0, true⟩]⟩, ⟨1, 4, 9, [⟨5, .none, false⟩]⟩] }

theorem test_report_judges : (reportVolume 1 (watchedPair.setLease 1 ⟨.held 1, 6, []⟩)).watches =
      [⟨1, 4, 9, [⟨5, .none, false⟩]⟩] ∧
    ((reportVolume 1 (watchedPair.setLease 1 ⟨.held 1, 6, []⟩)).ports.get 1).answers =
      [⟨2, 0x60, .changed, 1, .watched [⟨1, .active, .port 1, true, 6, true⟩]⟩] ∧
    (reportVolume 1 watchedPair).watches = watchedPair.watches := by decide +kernel

theorem test_tick : (after .tick contended).leases = [(1, ⟨.recalling 0 8, 5, [⟨1, 6, true⟩]⟩)] ∧
    ((after .tick contended).grant? 0).map Grant.state = some (.staged 499) ∧
    (after .tick contended).heads.get 0 = .joined ⟨7, 1, 2999, false⟩ := by decide +kernel

/-- Hypotheses of TickLowersCountdowns. -/
theorem test_meets_tick : settled contended ∧ contended.joined 3 = false ∧ contended.grant? 0 = some allocation ∧
    (contended.lease 1).hold = .recalling 0 9 ∧ contended.stall = .stopped := by unfold settled; decide +kernel

/-- Head 0's liveness countdown has run out. -/
def silent : State := { contended with heads := putAt contended.heads 0 (.joined ⟨7, 1, 0, false⟩) }

/-- Hypotheses of LivenessExpiryLapses. -/
theorem test_meets_liveness : settled silent ∧ tablesLaw silent ∧ leaseLaw silent ∧
    silent.heads.get 0 = .joined ⟨7, 1, 0, false⟩ :=
  ⟨by unfold settled; decide +kernel, by unfold tablesLaw; decide +kernel,
    leaseLaw_listed _ (by unfold Lease.lawful; decide +kernel), by decide +kernel⟩

theorem test_liveness : (after .livenessExpiry silent).leases = [(1, ⟨.held 1, 6, []⟩)] ∧
    (after .livenessExpiry silent).heads.get 0 = .lapsed 7 := by decide +kernel

/-- Head 0, which waits and watches, has fallen silent. -/
def fading : State := { involved with heads := putAt involved.heads 0 (.joined ⟨7, 1, 0, false⟩) }

theorem test_liveness_answers :
    (((after .livenessExpiry fading).ports.get 0).answers.map (fun a => (a.tag, a.outcome))) =
      [(9, .refused .notJoined), (10, .refused .notJoined)] ∧
    .headLapsed 0 7 ∈ ((after .livenessExpiry fading).ports.get 1).notices ∧
    (after .livenessExpiry fading).leases = [(1, ⟨.held 1, 6, []⟩), (2, ⟨.held 1, 3, []⟩)] := by decide +kernel

/-- Head 0's liveness countdown has run out at G 3; two batches wait for it alone; the admission count is 3072, and volume 9's
deletion is paused. -/
def lapsing : State :=
  { granted with
    generation := 3
    heads := putAt (putAt granted.heads 0 (.joined ⟨7, 1, 0, false⟩)) 1 (.joined ⟨7, 3, 3000, false⟩)
    grace := [⟨2, 3, [⟨0, 0⟩]⟩, ⟨3, 3, [⟨0, 1⟩]⟩]
    stall := .quiet 5
    promises := 3070
    admissionWait := [9]
    volumes := granted.volumes ++ [(9, ⟨.deleting, 2, 3, 64, 1, 0, true, some ⟨none, .removing, true⟩⟩)] }

/-- The releases of the first drop serve the paused deletion before the second drop forms its batch (R112, R114). -/
theorem test_release_serves : (after .livenessExpiry lapsing).admissionWait = [] ∧
    (after .livenessExpiry lapsing).deletionsDue = [9] ∧ (after .livenessExpiry lapsing).promises = 3071 ∧
    (after .livenessExpiry lapsing).grace.map Batch.tag = [4, 5] ∧ (after .livenessExpiry lapsing).admission = 3073 ∧
    ((after .livenessExpiry lapsing).volume 9).deletion = some ⟨none, .removing, false⟩ := by decide +kernel

/-- Head 0 holds the lease of volume 2 too, with a STAGED grant there. -/
def spread (s : State) : State :=
  { s with
    volumes := [(1, ⟨.active, 2, 3, 64, 1, 2, true, none⟩), (2, ⟨.active, 2, 3, 64, 0, 2, true, none⟩)]
    leases := s.leases ++ [(2, ⟨.held 0, 3, []⟩)]
    grants := [(0, allocation), (1, { relocation with state := .binding }), (2, { allocation with volume := 2 })] }

/-- The recall has run out. -/
def recalled : State := { granted with leases := [(1, ⟨.recalling 0 0, 5, [⟨1, 6, true⟩]⟩)] }

/-- Hypotheses of RecallExpiryPasses. -/
theorem test_meets_recall : settled recalled ∧ tablesLaw recalled ∧ leaseLaw recalled ∧
    (recalled.lease 1).hold = .recalling 0 0 ∧ (recalled.lease 1).waiters = [⟨1, 6, true⟩] ∧
    (recalled.lease 0).hold = .free :=
  ⟨by unfold settled; decide +kernel, by unfold tablesLaw; decide +kernel,
    leaseLaw_listed _ (by unfold Lease.lawful; decide +kernel), by decide +kernel, by decide +kernel, by decide +kernel⟩

theorem test_recall : (after .recallExpiry recalled).leases = [(1, ⟨.held 1, 6, []⟩)] ∧
    ((after .recallExpiry recalled).ports.get 0).notices.getLast? = some (.leaseLost 1) := by decide +kernel

/-- A grant on another volume, and a BINDING one, outlive the loss of a lease. -/
theorem test_grants_stand : (after .recallExpiry (spread recalled)).grants.map Prod.fst = [1, 2] ∧
    (after (.release 0 3 1) (spread granted)).grants.map Prod.fst = [1, 2] := by decide +kernel

/-- Hypotheses of StallExpiries, in QUIET and in WARNED. -/
theorem test_meets_stall : settled { gracing with stall := .quiet 0 } ∧ gracing.grace = [⟨2, 3, [⟨0, 0⟩]⟩] ∧
    settled { gracing with stall := .warned 0 2, heads := putAt gracing.heads 0 (.joined ⟨7, 1, 3000, true⟩) } ∧
    tablesLaw gracing ∧ gracing.leases = [] := by unfold settled tablesLaw; decide +kernel

theorem test_stall :
    (after .stallExpiryQuiet { gracing with stall := .quiet 0 }).heads.get 0 = .joined ⟨7, 1, 3000, true⟩ ∧
    ((after .stallExpiryQuiet { gracing with stall := .quiet 0 }).ports.get 0).notices = [.ackDue 2] ∧
    (after .stallExpiryWarned
      { gracing with stall := .warned 0 2, heads := putAt gracing.heads 0 (.joined ⟨7, 1, 3000, true⟩) }).heads.get 0 =
      .lapsed 7 ∧
    (after .stallExpiryWarned
      { gracing with stall := .warned 0 2, heads := putAt gracing.heads 0 (.joined ⟨7, 1, 3000, true⟩) }).grace = [] := by
  decide +kernel

/-- Heads 0 and 1 are DUE as the warned countdown runs out; each waits for the lease that the other holds. -/
def evicting : State :=
  { involved with
    generation := 2
    heads := putAt (putAt involved.heads 0 (.joined ⟨7, 1, 3000, true⟩)) 1 (.joined ⟨8, 1, 3000, true⟩)
    grace := [⟨2, 3, [⟨0, 0⟩]⟩]
    stall := .warned 0 2 }

/-- Hypotheses of StallExpiries in WARNED, with two heads DUE. -/
theorem test_meets_eviction : settled evicting ∧ tablesLaw evicting ∧ leaseLaw evicting ∧ evicting.stall = .warned 0 2 ∧
    (evicting.heads.get 0).isDue = true ∧ (evicting.heads.get 1).isDue = true ∧ (evicting.heads.get 2).isDue = false :=
  ⟨by unfold settled; decide +kernel, by unfold tablesLaw; decide +kernel,
    leaseLaw_listed _ (by unfold Lease.lawful; decide +kernel), by decide +kernel, by decide +kernel, by decide +kernel,
    by decide +kernel⟩

/-- The lapse of head 0 is carried out in full before that of head 1 (R103). -/
theorem test_eviction :
    (after .stallExpiryWarned evicting).leases = [(1, ⟨.orphaned, 6, []⟩), (2, ⟨.orphaned, 3, []⟩)] ∧
    .headLapsed 0 7 ∈ ((after .stallExpiryWarned evicting).ports.get 1).notices ∧
    (((after .stallExpiryWarned evicting).ports.get 0).answers.map (fun a => (a.tag, a.outcome))) =
      [(9, .refused .notJoined), (10, .refused .notJoined)] ∧
    (((after .stallExpiryWarned evicting).ports.get 1).answers.map (fun a => (a.tag, a.outcome))) = [(6, .granted)] ∧
    (after .stallExpiryWarned evicting).grace = [] := by decide +kernel

/-- An answer and a notice wait at port 0. -/
def sending : State :=
  { granted with
    ports := putAt granted.ports 0
      { granted.ports.get 0 with
        answers := [⟨3, 0x11, .done, 1, .empty⟩], notices := [.leaseLost 1], busy := putAt (Vector.replicate 16 false) 3 true } }

/-- Hypotheses of LinkEvents and LinkDownLosesPort. -/
theorem test_meets_links : settled sending ∧ sending.linkUp 0 = true ∧ sending.linkUp 2 = false ∧
    (sending.ports.get 0).answers = [⟨3, 0x11, .done, 1, .empty⟩] ∧
    ((after (.answerSent 0) sending).ports.get 0).answers = [] := by unfold settled; decide +kernel

theorem test_sending : ((after (.answerSent 0) sending).ports.get 0).busy.get 3 = false ∧
    ((after (.noticeDelivered 0) (after (.answerSent 0) sending)).ports.get 0).line =
      noticeFrame false (.leaseLost 1) ∧
    ((after (.noticeDelivered 0) sending).ports.get 0).line = [] := by decide +kernel

theorem test_link_down : (after (.linkDown 1) contended).leases = [(1, ⟨.held 0, 5, []⟩)] ∧
    ((after (.linkDown 1) contended).ports.get 1).notices = [.invalidateAll 1] := by decide +kernel

/-! ## The path of an intent -/

/-- Hypotheses of ValidateShelfRequests. -/
theorem test_meets_validate_shelf :
    due? (waitingShelf (.removeSpan 1) granted) = some (.front .shelf) ∧ (granted.spans.get 5).state = .absent ∧
    granted.registeredTotal + 16777216 ≤ 33554432 ∧ (granted.spans.get 0).state = .online ∧
    ((putAt twoSpans 1 ⟨.draining, 3, 4, [(0, 3)], 4, 0⟩).get 1).freeCount = 4 := by decide +kernel

theorem test_validate_shelf :
    ((after (.validate .shelf []) (waitingShelf (.drainSpan 0 true) granted)).logWait.map Intent.effects) =
      [[.setSpan 0 .draining 3 8]] ∧
    (after (.validate .shelf []) (waitingShelf (.removeSpan 1) granted)).shelf = .empty := by decide +kernel

/-- Hypotheses of ValidateVolumeRequests. -/
theorem test_meets_validate_volume :
    due? (waiting (.bind 1 0 true [0, 1]) committed) = some (.front (.volume 1)) ∧
    due? (waiting (.unmap 1 2 4) granted) = some (.front (.volume 1)) ∧ granted.linkUp 0 = true ∧
    (granted.lease 1).hold.holder? = some 0 ∧ granted.entry? 1 63 = none ∧ (granted.lease 2).hold.holder? = none ∧
    (∃ e ∈ committed.grants, e.2.volume = 1 ∧ e.2.state = .binding) ∧
    (∀ e ∈ granted.grants, e.2.volume = 1 → e.2.state ≠ .binding) ∧
    ((0xF#32 &&& 1#32) ≠ 0 ∧ 0xF#32 &&& 0x10#32 = 0) ∧ (granted.volume 9).state = .absent := by decide +kernel

/-- Hypotheses of ValidateVolumeRequests, of an Unmap: no index from 2 to 5 is held by an allocation grant, and the one
relocation grant there is STAGED. -/
theorem test_meets_unmap : (∀ i < 6, 2 ≤ i → granted.allocationOf 1 i = none) ∧
    (∀ i < 6, 2 ≤ i → i ≠ 4 → granted.relocationOf 1 i = none) ∧ granted.relocationOf 1 4 = some (1, relocation) ∧
    relocation.state ≠ .binding := by decide +kernel

/-- Hypotheses of ValidateVolumeRequests, of its refusals: an index in an allocation grant and in a committed relocation, entries in
the range at the admission limit, and a volume whose lease is FREE. -/
theorem test_meets_validate_refusals :
    due? (waiting (.unmap 1 9 4) granted) = some (.front (.volume 1)) ∧ granted.allocationOf 1 9 = none ∧
    granted.allocationOf 1 10 ≠ none ∧
    committed.relocationOf 1 4 = some (1, { relocation with state := .binding }) ∧
    (congested.entry? 1 4 = some ⟨⟨0, 0⟩, 0xF⟩ ∧ 3072 ≤ congested.admission) ∧
    due? (waiting (.unmap 1 2 4) congested) = some (.front (.volume 1)) ∧
    ({ granted with leases := [] }.lease 1).heldBy 0 = false ∧
    due? (waiting (.noteWritten 1 4 1) { granted with leases := [] }) = some (.front (.volume 1)) := by decide +kernel

theorem test_unmap_refused :
    ((after (.validate (.volume 1) []) (waiting (.unmap 1 9 4) granted)).ports.get 0).answers =
      [⟨3, 0x32, .refused .inGrant, 1, .index 10⟩] ∧
    ((after (.validate (.volume 1) []) (waiting (.unmap 1 2 4) congested)).ports.get 0).answers =
      [⟨3, 0x32, .refused .graceFull, 1, .empty⟩] ∧
    ((after (.validate (.volume 1) []) (waiting (.noteWritten 1 4 1) { granted with leases := [] })).ports.get 0).answers =
      [⟨3, 0x31, .refused .notHolder, 1, .empty⟩] := by decide +kernel

theorem test_unmap : (after (.validate (.volume 1) []) (waiting (.unmap 1 2 4) granted)).grants = [(0, allocation)] ∧
    ((after (.validate (.volume 1) []) (waiting (.unmap 1 2 4) granted)).logWait.map Intent.forming) =
      [some ⟨3, [⟨1, 0⟩]⟩] := by decide +kernel

/-- The intent of a Bind of grant 0. -/
def binding : Intent := intentOf (.bind 0 false) [.setEntry 1 10 ⟨0, 6⟩ 0, .setEntry 1 11 ⟨0, 7⟩ 1] none

/-- Volume 1's deletion has been granted admission for its one entry. -/
def admitted : State :=
  { swept with
    mode := .serving
    recovery := .idle
    volumes := [(1, ⟨.deleting, 2, 3, 64, 1, 0, true, some ⟨none, .removing, false⟩⟩)]
    promises := 1
    queues := [(1, ⟨some .deletion, []⟩)]
    deletionsDue := [1] }

/-- Hypotheses of LogPath. -/
theorem test_meets_log_path :
    Table.get? granted.store.slots 0 = none ∧ settled (logging .writing 0 binding granted) ∧
    Table.get? (logging .writing 0 binding granted).store.slots 0 = some ⟨1, false, .bind, binding.effects⟩ ∧
    due? (logging .logged 0 binding granted) = some .apply ∧ lapsing.grace = ⟨2, 3, [⟨0, 0⟩]⟩ :: [⟨3, 3, [⟨0, 1⟩]⟩] ∧
    FreeSet.wf (lapsing.spans.get 0).free = true ∧ due? admitted = some .removal ∧ admitted.deletionsDue = 1 :: [] ∧
    (admitted.mapOf 1).take 4096 = [(4, ⟨⟨0, 0⟩, 0xF⟩)] := by
  unfold settled; decide +kernel

theorem test_log_path :
    ((after .logSlotTaken { granted with logWait := [binding] }).log.map LogIntent.slot) = [0] ∧
    ((after (.logWriteAck 0) (logging .writing 0 binding granted)).log.map LogIntent.state) = [.logged] ∧
    ((after .applyStart (logging .logged 0 binding granted)).log.map LogIntent.state) = [.applying] := by decide +kernel

theorem test_deletion_admitted :
    ((after (.deletionAdmitted []) admitted).logWait.map Intent.effects) = [[.removeEntry 1 4]] ∧
    (after (.deletionAdmitted []) admitted).deletionsDue = [] ∧
    (after (.deletionAdmitted [(.entry 1 4, .uncorrectable)]) admitted).mode = .frozen ∧
    (after (.deletionAdmitted [(.entry 1 4, .uncorrectable)]) admitted).poison = [(1, 4)] ∧
    (after (.deletionAdmitted [(.entry 1 4, .uncorrectable)]) admitted).logWait = [] ∧
    (after (.deletionAdmitted [(.entry 1 4, .corrected)]) admitted).writeBacks = [.entry 1 4] := by decide +kernel

/-- Hypotheses of EffectsApply. -/
theorem test_meets_effects :
    settled (logging .applying 0 binding committed) ∧ committed.grant? 0 = some { allocation with state := .binding } ∧
    committed.entry? 1 10 = none ∧ committed.entry? 1 4 = some ⟨⟨0, 0⟩, 0xF⟩ ∧ (committed.spans.get 15).state = .absent ∧
    binding.effects[1]? = some (.setEntry 1 11 ⟨0, 7⟩ 1) := by unfold settled; decide +kernel

/-- The intent that changes span 1. -/
def spanChange (st : SpanState) (s : State) : State :=
  logging .applying 0 ⟨.span .drain 1 3, .shelf, by0, some 0, [.setSpan 1 st 3 4], none⟩ s

/-- Span 1 is DRAINING, its every extent free. -/
def drained : State :=
  { space with
    spans := putAt twoSpans 1 ⟨.draining, 3, 4, [(0, 3)], 4, 0⟩
    pools := putAt (Vector.replicate 8 .empty) 3 ⟨⟨3, 1, 2⟩, 12, 11, 7, 0, 1, 0, .normal⟩ }

/-- Hypotheses of EffectsApply, of SET_SPAN and of a corrected read. -/
theorem test_meets_span_effects : settled (spanChange .draining space) ∧ (space.spans.get 1).state = .online ∧
    settled (spanChange .online drained) ∧ (drained.spans.get 1).state = .draining ∧
    settled (logging .applying 0 (intentOf (.move 1) [.setPlacement 1 4 ⟨1, 0⟩] none) committed) ∧
    (Effect.setPool 0 ⟨0, 0, 0⟩).readsCell = none ∧
    settled { spanChange .draining space with mode := .frozen } := by unfold settled; decide +kernel

/-- The intent that makes volume 1 READ_ONLY, its grants STAGED. -/
def closing : State := logging .applying 0 (intentOf (.volumeMode .readOnly) [.setVolume 1 .readOnly 2 3 64] none) granted

/-- Hypotheses of EffectsApply, of SET_VOLUME. -/
theorem test_meets_set_volume : settled closing ∧ tablesLaw closing ∧
    settled (logging .applying 0 (intentOf (.volumeResize 64 9) [.setVolume 1 .active 2 3 9] none) space) := by
  unfold settled tablesLaw; decide +kernel

theorem test_mode_effect : (after (.effectWriteAck false) closing).grants = [(1, relocation)] ∧
    (after (.effectWriteAck false) closing).volume 1 = ⟨.readOnly, 2, 3, 64, 1, 0, true, none⟩ := by decide +kernel

theorem test_span_effects :
    ((after (.effectWriteAck false) (spanChange .draining space)).pools.get 3).allocatable = 7 ∧
    ((after (.effectWriteAck false) (spanChange .draining space)).spans.get 1).state = .draining ∧
    ((after (.effectWriteAck false) (spanChange .online drained)).pools.get 3).allocatable = 11 ∧
    ((after (.effectWriteAck false) (spanChange .absent drained)).spans.get 1) = .absent ∧
    ((after (.effectWriteAck false) (spanChange .absent drained)).pools.get 3).capacity = 8 := by decide +kernel

theorem test_effect :
    (after (.effectWriteAck false) (logging .applying 0 binding committed)).entry? 1 10 = some ⟨⟨0, 6⟩, 0⟩ ∧
    ((after (.effectWriteAck false) (logging .applying 0 binding committed)).volume 1).mapped = 2 ∧
    ((after (.effectWriteAck false) (logging .applying 0 binding committed)).tenant 2) = ⟨some 10, 2, 1⟩ := by
  decide +kernel

/-- The intent of an Unmap of index 4, every effect applied. -/
def trimming : State :=
  logging .applying 1 (intentOf (.trim 0) [.removeEntry 1 4] (some ⟨3, [⟨0, 0⟩]⟩))
    { space with maps := [], promises := 1, queues := [(1, ⟨some (.trim [4]), []⟩)] }

/-- A deletion's mark, applied. -/
def marking : State :=
  logging .applying 1 ⟨.deleteMark, .volume 1, by0, some 0, [.setVolume 1 .deleting 2 3 64], none⟩
    { contended with
      volumes := [(1, ⟨.deleting, 2, 3, 64, 1, 2, true, some ⟨by0, .marking, false⟩⟩)]
      queues := [(1, ⟨some .deletion, []⟩)] }

/-- No head is a member; volume 1's one removal batch is applied and volume 9's deletion is paused at the admission limit. -/
def batching (mapped : Nat) : State :=
  logging .applying 1 ⟨.deleteBatch, .volume 1, none, none, [.removeEntry 1 4], some ⟨3, [⟨0, 0⟩]⟩⟩
    { space with
      heads := Vector.replicate 4 .absent
      leases := []
      maps := [(9, [(0, ⟨⟨1, 0⟩, 0⟩)])]
      volumes := [(1, ⟨.deleting, 2, 3, 64, mapped, 0, true, some ⟨none, .removing, false⟩⟩),
        (9, ⟨.deleting, 2, 3, 64, 1, 0, true, some ⟨none, .removing, true⟩⟩)]
      queues := [(1, ⟨some .deletion, []⟩), (9, ⟨some .deletion, []⟩)]
      promises := 3072
      admissionWait := [9] }

/-- A Bind of grant 0 with advance, every effect applied. -/
def advancing : State :=
  logging .applying 2 (intentOf (.bind 0 true) [.setEntry 1 10 ⟨0, 6⟩ 0, .setEntry 1 11 ⟨0, 7⟩ 1] none)
    { committed with grants := [(0, { allocation with state := .binding, extents := [] })] }

/-- A link loss strips the requester of a deletion and the intent's port and tag, and nothing more of them (R151). -/
theorem test_link_down_strips : (after (.linkDown 0) marking).volume 1 =
      ⟨.deleting, 2, 3, 64, 1, 2, true, some ⟨none, .marking, false⟩⟩ ∧
    (after (.linkDown 0) marking).log =
      [⟨0, 1, .applying, 1, true, ⟨.deleteMark, .volume 1, none, some 0, [.setVolume 1 .deleting 2 3 64], none⟩⟩] := by
  decide +kernel

/-- The grant that `advancing` has bound. -/
def bound : Grant := { allocation with state := .binding, extents := [] }

/-- Hypotheses of RetirementsEnd, of a follow-on whose check fails, each check of R60 but NO_GRANT_SLOT, which no run meets, since
the bound grant's record is FREE. -/
theorem test_meets_follow_on_fails :
    followOnFails 0 0 bound .notJoined { advancing with heads := Vector.replicate 4 (.lapsed 7) } ∧
    followOnFails 0 0 bound .notHolder { advancing with leases := [] } ∧
    followOnFails 0 0 bound .volumeState { advancing with volumes := [(1, ⟨.readOnly, 2, 3, 64, 1, 2, true, none⟩)] } ∧
    followOnFails 0 0 bound .alreadyMapped { advancing with maps := [(1, [(13, ⟨⟨0, 0⟩, 0xF⟩)])] } ∧
    followOnFails 0 0 bound .inGrant
      { advancing with grants := [(0, bound), (1, { allocation with extents := [(12, ⟨0, 6⟩)] })] } ∧
    followOnFails 0 0 bound .graceFull { advancing with promises := 3072 } ∧
    followOnFails 0 0 bound .poolFull
      { advancing with pools := putAt (Vector.replicate 8 .empty) 3 ⟨⟨3, 1, 2⟩, 12, 8, 8, 3, 1, 0, .critical⟩ } ∧
    followOnFails 0 0 bound .poolFull
      { advancing with pools := putAt (Vector.replicate 8 .empty) 3 ⟨⟨3, 1, 2⟩, 12, 3, 3, 3, 1, 0, .low⟩ } ∧
    followOnFails 0 0 bound .quota { advancing with tenants := [(2, ⟨some 4, 1, 2⟩)] } := by
  have free (s : State) (h : ∀ i < 14, 12 ≤ i → s.entry? 1 i = none) : ∀ i, 12 ≤ i → i < 12 + 2 → s.entry? 1 i = none :=
    fun i h1 h2 => h i h2 h1
  have apart (s : State) (h : ∀ i < 14, 12 ≤ i → (s.freeGrant 0).allocationOf 1 i = none) :
      ∀ i, 12 ≤ i → i < 12 + 2 → (s.freeGrant 0).allocationOf 1 i = none := fun i h1 h2 => h i h2 h1
  refine ⟨.inl (by decide +kernel), .inr (.inl (by decide +kernel)), ?_, ?_, ?_, ?_, ?_, ?_, ?_⟩ <;>
    refine .inr (.inr ⟨by decide +kernel, by decide +kernel, ?_⟩)
  · exact .inl (by decide +kernel)
  · exact .inr ⟨by decide +kernel, .inl ⟨⟨13, by decide +kernel⟩, rfl⟩⟩
  · exact .inr ⟨by decide +kernel, .inr ⟨free _ (by decide +kernel), .inl ⟨⟨12, by decide +kernel⟩, rfl⟩⟩⟩
  · exact .inr ⟨by decide +kernel, .inr ⟨free _ (by decide +kernel), .inr ⟨apart _ (by decide +kernel),
      .inl (by decide +kernel)⟩⟩⟩
  all_goals
    refine .inr ⟨by decide +kernel, .inr ⟨free _ (by decide +kernel), .inr ⟨apart _ (by decide +kernel),
      .inr (.inr ⟨by decide +kernel, by decide +kernel, ?_⟩)⟩⟩⟩
  · exact .inl (by decide +kernel)
  · exact .inl (by decide +kernel)
  · exact .inr (by decide +kernel)

theorem test_follow_on_fails :
    ((after (.retireAck []) { advancing with tenants := [(2, ⟨some 4, 1, 2⟩)] }).ports.get 0).answers =
      [⟨3, 0x41, .bound, 1, .bound 0 1 10 2 false (.failed .quota)⟩] ∧
    (after (.retireAck []) { advancing with tenants := [(2, ⟨some 4, 1, 2⟩)] }).grants = [] := by decide +kernel

/-- The intent in the log has lost its port and tag. -/
def orphaned (s : State) : State :=
  { s with log := s.log.map (fun l => { l with intent := { l.intent with origin := none } }) }

/-- Hypotheses of RetirementsEnd, of an intent that sends no answer, and of a mark whose lease has a JOINED holder with room. -/
theorem test_meets_unanswered : settled (orphaned trimming) ∧ settled (orphaned advancing) ∧
    (∀ l ∈ (orphaned trimming).log, unanswered l.intent (orphaned trimming)) ∧
    ((marking.lease 1).hold.holder? = some 0 ∧ marking.joined 0 = true ∧ tablesLaw marking ∧
      (marking.ports.get 0).notices.length + 3 * (stagedBy (fun g => decide (g.volume = 1)) marking).length +
        marking.grace.length < 64) := by
  refine ⟨by unfold settled; decide +kernel, by unfold settled; decide +kernel, ?_, by unfold tablesLaw; decide +kernel⟩
  intro l hl o ho
  have h : ∀ l ∈ (orphaned trimming).log, l.intent.origin = none := by decide +kernel
  exact absurd ho (by rw [h l hl]; exact nofun)

/-- The actions at DONE are the same without an answer, but that a Bind attempts no follow-on (R59, R150). -/
theorem test_unanswered : (after (.retireAck []) (orphaned trimming)).grace = [⟨2, 3, [⟨0, 0⟩]⟩] ∧
    ((after (.retireAck []) (orphaned trimming)).ports.get 0).answers = [] ∧
    (after (.retireAck []) (orphaned advancing)).grants = [] ∧
    ((after (.retireAck []) (orphaned advancing)).ports.get 0).answers = [] ∧
    .leaseLost 1 ∈ ((after (.retireAck []) marking).ports.get 0).notices := by decide +kernel

/-- Hypotheses of RetirementsEnd. -/
theorem test_meets_retirements : settled trimming ∧ settled marking ∧
    (marking.volume 1).deletion = some ⟨by0, .marking, false⟩ ∧ trimming.heads.get 1 = .joined ⟨7, 1, 3000, false⟩ ∧
    settled (logging .applying 2 binding committed) ∧ settled { trimming with mode := .frozen } := by
  unfold settled; decide +kernel

/-- Hypotheses of RetirementsEnd, of a removal batch (none left, and one left, at the limit), of a follow-on and of one whose last
index cannot be read. -/
theorem test_meets_retired_batch : settled (batching 0) ∧ settled (batching 1) ∧
    ((batching 0).volume 1).deletion = some ⟨none, .removing, false⟩ ∧ 1 ∉ (batching 0).admissionWait ∧
    ((batching 0).volume 1).mapped = 0 ∧ 0 < ((batching 1).volume 1).mapped ∧ settled advancing ∧
    advancing.grant? 0 = some { allocation with state := .binding, extents := [] } ∧ advancing.linkUp 0 = true ∧
    advancing.joined 0 = true ∧ (advancing.lease 1).heldBy 0 = true ∧ (advancing.volume 1).state = .active ∧
    12 < (advancing.volume 1).size ∧ (∀ i < 14, 12 ≤ i → advancing.entry? 1 i = none ∧
      (advancing.freeGrant 0).allocationOf 1 i = none) ∧ advancing.admission < 3072 ∧
    (advancing.freeGrant 0).freeRecord? = some 0 ∧
    (advancing.pools.get 3).settings.floor + 2 ≤ (advancing.pools.get 3).allocatable ∧
    (advancing.pools.get 3).level ≠ .critical ∧ (advancing.tenant 2).quotaAllows 2 = true ∧ (13 < 12 + 2) := by
  unfold settled; decide +kernel

/-- The service at the batch's release comes first: volume 9's removal is due before volume 1's end (R149), and an entry left makes
the deletion pause behind it (R24). -/
theorem test_batch_order : (after (.retireAck []) (batching 0)).deletionsDue = [9, 1] ∧
    (after (.retireAck []) (batching 0)).promises = 3072 ∧
    ((finishDue (after (.retireAck []) (batching 0))).log.map (fun l => (l.seq, l.intent.kind))) =
      [(2, .deleteBatch), (3, .deleteEnd)] ∧
    (after (.retireAck []) (batching 1)).deletionsDue = [9] ∧ (after (.retireAck []) (batching 1)).admissionWait = [1] := by
  decide +kernel

theorem test_follow_on :
    ((after (.retireAck []) advancing).grant? 0).map Grant.first = some 12 ∧
    (after (.retireAck [(.entry 1 13, .uncorrectable)]) advancing).mode = .frozen ∧
    (after (.retireAck [(.entry 1 13, .uncorrectable)]) advancing).poison = [(1, 13)] ∧
    (after (.retireAck [(.entry 1 13, .uncorrectable)]) advancing).grants = [] := by decide +kernel

/-- One more intent waits for a log slot. -/
def oneWaits (s : State) : State := { s with logWait := [⟨.tenant 2, .shelf, by0, some 0, [.setTenant 2 none], none⟩] }

/-- Every log slot is held, and one more intent waits. -/
def logFull (s : State) : State :=
  { oneWaits s with store := { s.store with slots := (List.range 512).map (fun n => (n, ⟨1, true, .note, []⟩)) } }

theorem get?_listed {α : Type} (a : α) (n : Nat) (l : List Nat) (h : n ∈ l) :
    Table.get? (l.map (fun k => (k, a))) n = some a := by
  induction l with
  | nil => cases h
  | cons k t ih =>
    rw [List.map_cons, Table.get?]
    split
    · rfl
    · rename_i hk; exact ih ((List.mem_cons.mp h).resolve_left (fun e => hk e.symm))

theorem logFull_freeSlot? (s : State) : freeSlot? (logFull s) = none := by
  unfold freeSlot?
  rw [List.find?_eq_none]
  intro n h
  have hn : n ∈ List.range 512 := by unfold Config.logSlots at h; exact h
  have e := get?_listed (⟨1, true, .note, []⟩ : SlotImage) n (List.range 512) hn
  unfold logFull
  simp only [e, Option.isNone_some, Bool.false_eq_true, not_false_eq_true]

/-- Hypotheses of RetirementsEnd, of an intent that waits for the slot that is freed. -/
theorem test_meets_log_full : settled (logFull advancing) ∧ (logFull advancing).logWait ≠ [] := by
  refine ⟨?_, by decide +kernel⟩
  unfold settled due?
  rw [logFull_freeSlot?]
  have h : readyVolume? (logFull advancing) = none ∧ (logFull advancing).shelf.ready = false ∧
      applyReady (logFull advancing) = false ∧ (logFull advancing).deletionsDue = [] := by decide +kernel
  rw [h.1, h.2.1, h.2.2.1, h.2.2.2]
  simp

/-- The freed slot goes to the front of the log wait queue before the DONE actions, and stays held when these freeze the part
(R146, R149, R163). -/
theorem test_slot_served :
    (ackRetire [(.entry 1 13, .uncorrectable)] (oneWaits advancing)).mode = .frozen ∧
    (ackRetire [(.entry 1 13, .uncorrectable)] (oneWaits advancing)).sequence = 2 ∧
    ((ackRetire [(.entry 1 13, .uncorrectable)] (oneWaits advancing)).log.map (fun l => (l.slot, l.seq, l.state))) =
      [(0, 2, .writing)] ∧
    (ackRetire [(.entry 1 13, .uncorrectable)] (oneWaits advancing)).store.slots =
      [(0, ⟨2, false, .tenant, [.setTenant 2 none]⟩)] := by decide +kernel

theorem test_retire : (after (.retireAck []) trimming).grace = [⟨2, 3, [⟨0, 0⟩]⟩] ∧
    ((after (.retireAck []) trimming).ports.get 1).notices = [.invalidate 1 2, .generation 2] ∧
    (after (.retireAck []) marking).leases = [(1, ⟨.free, 5, []⟩)] ∧ (after (.retireAck []) marking).grants = [] ∧
    (after (.retireAck []) (logging .applying 2 binding committed)).grants.map Prod.fst = [1] := by decide +kernel

/-- An intent whose next effect reads a cell. -/
def moving : State := logging .applying 0 (intentOf (.move 1) [.setPlacement 1 4 ⟨1, 0⟩] none) committed

/-- Hypotheses of StoreFaultsFreeze, each form. -/
theorem test_meets_store_faults :
    (StoreArea.entry 1 4 ∈ { granted with writeBacks := [.entry 1 4] }.writeBacks) ∧
    areaSource (.entry 1 4) = .mapStore ∧ (Effect.setPlacement 1 4 ⟨1, 0⟩).readsCell = some (1, 4) ∧ settled moving ∧
    settled { moving with mode := .frozen } ∧ settled (logging .writing 0 binding committed) ∧
    State.reset.mode = .recovering ∧ State.reset.recovery.stage = .booted ∧
    allForming (logging .applying 0 binding committed) = [] ∧
    ([Effect.setTenant 2 (some 5)])[0]? = some (.setTenant 2 (some 5)) := by unfold settled; decide +kernel

/-- In either mode the read is recorded and its index poisoned; a corrected read before a failed write raises the overflow flag. -/
theorem test_effect_reads :
    (after .effectReadUncorrectable moving).poison = [(1, 4)] ∧
    (after .effectReadUncorrectable { moving with mode := .frozen }).poison = [(1, 4)] ∧
    (after .effectReadUncorrectable { moving with mode := .frozen }).faults.mapStore.held ≠ none ∧
    (after (.storeWriteFailed (.effect true)) moving).faults.mapStore.overflow = true ∧
    (after (.storeWriteFailed (.effect true)) moving).freezeCause = some ⟨.mapStore, .writeFailed⟩ ∧
    (after (.effectWriteAck true) { moving with mode := .frozen }).faults.mapStore.held =
      some (.corrected, .store (.entry 1 4) 0) := by decide +kernel

theorem test_failed_write :
    (after (.storeWriteFailed (.effect false)) (logging .applying 0 binding committed)).freezeCause =
      some ⟨.mapStore, .writeFailed⟩ ∧
    (after (.storeWriteFailed .bootCount) State.reset).store.bootCount = 0 ∧
    (after (.storeWriteFailed (.replayEffect 0 [])) replaying).recovery.writesStopped = true ∧
    (after (.storeWriteFailed (.replayRetirement [])) replaying).store.quotas = [(2, 5)] := by decide +kernel

end Sys2Proof.Tests
end

section
/-! PROOFS. Facts about the ports that the proofs share: an event that only adds answers and notices, and the answers of a
fold of answers. -/

namespace Sys2Proof.Machine

open State

variable {s u : State}

/-! ## What reads none of the erased fields is kept -/

theorem keeps_of_erasePorts {γ : Type} (g : State → γ) (h : u.erasePorts = s.erasePorts)
    (hg : ∀ t : State, g t.erasePorts = g t := by intro; rfl) : g u = g s := by
  rw [← hg u, h, hg]

theorem keeps_of_eraseReport {γ : Type} (g : State → γ) (h : u.eraseReport = s.eraseReport)
    (hg : ∀ t : State, g t.eraseReport = g t := by intro; rfl) : g u = g s := by
  rw [← hg u, h, hg]

theorem erasePorts_touches (h : u.erasePorts = s.erasePorts) : u = { s with ports := u.ports } :=
  (congrArg (fun x : State => { x with ports := u.ports }) h :)

theorem eraseReport_touches (h : u.eraseReport = s.eraseReport) :
    u = { s with ports := u.ports, watches := u.watches } :=
  (congrArg (fun x : State => { x with ports := u.ports, watches := u.watches }) h :)

/-! ## Ports that grow -/

theorem grows_refl (a : HeadPort) : a.grows a := ⟨rfl, rfl, rfl, [], (List.append_nil _).symm⟩

theorem grows_trans {a b c : HeadPort} (h : a.grows b) (k : b.grows c) : a.grows c := by
  obtain ⟨hl, hb, hn, x, hx⟩ := h
  obtain ⟨kl, kb, kn, y, ky⟩ := k
  exact ⟨kl.trans hl, kb.trans hb, kn.trans hn, x ++ y, by rw [ky, hx, List.append_assoc]⟩

theorem portsGrow_refl (s : State) : portsGrow s s := fun _ => grows_refl _

theorem portsGrow_trans {s u w : State} (h : portsGrow s u) (k : portsGrow u w) : portsGrow s w :=
  fun p => grows_trans (h p) (k p)

/-- The ports alone decide whether they grow. -/
theorem portsGrow_of_ports {s u : State} (h : u.ports = s.ports) : portsGrow s u := fun p => by
  rw [h]; exact grows_refl _

theorem portsGrow_linkUp (h : portsGrow s u) (p : Port) : u.linkUp p = s.linkUp p := (h p).1

theorem portsGrow_mem (h : portsGrow s u) {p : Port} {a : Answer} (ha : a ∈ (s.ports.get p).answers) :
    a ∈ (u.ports.get p).answers := by
  obtain ⟨-, -, -, rest, hr⟩ := h p
  rw [hr]
  exact List.mem_append_left _ ha

theorem updatePort_grows {p : Port} {f : HeadPort → HeadPort} (h : ∀ r : HeadPort, r.grows (f r)) (s : State) :
    portsGrow s (s.updatePort p f) := fun q => by
  rw [updatePort_ports, putAt_get]
  split
  · subst_vars; exact h _
  · exact grows_refl _

theorem answer_grows (o : Origin) (code : Byte) (outcome : AnswerOutcome) (body : AnswerBody) (s : State) :
    portsGrow s (answer o code outcome body s) := by
  unfold answer
  split
  · exact updatePort_grows (f := HeadPort.pushAnswer _) (fun r => ⟨rfl, rfl, rfl, [_], rfl⟩) s
  · exact portsGrow_refl s

theorem answer?_grows (o : Option Origin) (code : Byte) (outcome : AnswerOutcome) (body : AnswerBody) (s : State) :
    portsGrow s (answer? o code outcome body s) := by
  cases o with
  | none => exact portsGrow_refl s
  | some o => exact answer_grows o code outcome body s

theorem addNotice_grows (p : Port) (n : Notice) (s : State) : portsGrow s (addNotice p n s) := by
  unfold addNotice
  split
  · exact updatePort_grows (f := HeadPort.pushNotice _ n) (fun r => ⟨rfl, rfl, rfl, [], (List.append_nil _).symm⟩) s
  · exact portsGrow_refl s

theorem foldl_grows {α : Type} {f : State → α → State} (h : ∀ b a, portsGrow b (f b a)) (l : List α) (s : State) :
    portsGrow s (l.foldl f s) := by
  induction l generalizing s with
  | nil => exact portsGrow_refl s
  | cons a t ih => exact portsGrow_trans (h s a) (ih (f s a))

/-! ## The answer on a port that is UP -/

theorem answer_ports {o : Origin} {code : Byte} {outcome : AnswerOutcome} {body : AnswerBody}
    (h : s.linkUp o.port = true) :
    answer o code outcome body s = told o.port o.tag code outcome body s := by
  unfold answer
  rw [if_pos h]
  rfl

/-- An answer on a DOWN link is not handed over (R150). -/
theorem answer_down {o : Origin} {code : Byte} {outcome : AnswerOutcome} {body : AnswerBody}
    (h : s.linkUp o.port = false) : answer o code outcome body s = s := by
  unfold answer
  rw [if_neg (by rw [h]; exact Bool.false_ne_true)]

theorem told_answers (p : Port) (t : Tag) (code : Byte) (outcome : AnswerOutcome) (body : AnswerBody) (s : State) :
    ((told p t code outcome body s).ports.get p).answers =
      (s.ports.get p).answers ++ [⟨t, code, outcome, s.generation, body⟩] := by
  simp [told]

theorem answer_mem {o : Origin} (code : Byte) (outcome : AnswerOutcome) (body : AnswerBody)
    (h : s.linkUp o.port = true) :
    ⟨o.tag, code, outcome, s.generation, body⟩ ∈ ((answer o code outcome body s).ports.get o.port).answers := by
  rw [answer_ports h, told_answers]
  exact List.mem_append_right _ (List.mem_singleton_self _)

/-- An event of answers hands each of them to its port while that is UP; a body may read all but the ports. -/
theorem foldl_answers_mem {α : Type} {o : α → Option Origin} {code : α → Byte} {outcome : α → AnswerOutcome}
    {body : State → α → AnswerBody} (hb : ∀ s u a, u.erasePorts = s.erasePorts → body u a = body s a) {l : List α}
    {a : α} {b : Origin} (ha : a ∈ l) (ho : o a = some b) {s : State} (hup : s.linkUp b.port = true) :
    ⟨b.tag, code a, outcome a, s.generation, body s a⟩ ∈
      ((l.foldl (fun s a => answer? (o a) (code a) (outcome a) (body s a) s) s).ports.get b.port).answers := by
  induction l generalizing s with
  | nil => cases ha
  | cons x t ih =>
    have hg := answer?_grows (o x) (code x) (outcome x) (body s x) s
    have he := answer?_erase (o x) (code x) (outcome x) (body s x) s
    rcases List.mem_cons.mp ha with rfl | ha
    · refine portsGrow_mem (foldl_grows (fun b a => answer?_grows _ _ _ _ b) t _) ?_
      simp only [ho]
      exact answer_mem (code a) (outcome a) (body s a) hup
    · have := ih ha ((portsGrow_linkUp hg _).trans hup)
      rw [hb s _ a he, keeps_of_erasePorts State.generation he] at this
      exact this

/-! ## The watch list -/

theorem reportVolume_grows (v : Nat) (s : State) : portsGrow s (reportVolume v s) :=
  portsGrow_trans (portsGrow_of_ports rfl) (foldl_grows (fun b _ => answer_grows _ _ _ _ b) _ _)

theorem reportVolume_watches (v : Nat) (s : State) :
    (reportVolume v s).watches = s.watches.filter (fun w => !watchHit s v w) := by
  unfold reportVolume
  exact foldl_keeps State.watches _ (fun b _ => keeps_of_erasePorts _ (answer_erase _ _ _ _ b)) _ _

/-- The watches that name a volume are judged again when a watched value of it is reported (R170). -/
theorem reportVolume_rejudged (v : Nat) (s : State) : rejudged v s (reportVolume v s) := by
  have he := reportVolume_erase v s
  refine ⟨?_, fun w hw hit hup => ?_⟩
  · rw [reportVolume_watches, keeps_of_eraseReport (watchHit · v) he]
  · rw [keeps_of_eraseReport (watchHit · v) he] at hit
    rw [keeps_of_eraseReport watchReport he, keeps_of_eraseReport State.generation he]
    exact foldl_answers_mem (o := fun w : Watch => some ⟨w.port, w.tag⟩) (b := ⟨w.port, w.tag⟩)
      (code := fun _ => RequestKind.watch.code) (outcome := fun _ => .changed)
      (body := fun s w => .watched (w.items.map (watchReport s)))
      (fun s u w h => keeps_of_erasePorts (fun x => AnswerBody.watched (w.items.map (watchReport x))) h)
      (List.mem_filter.mpr ⟨hw, hit⟩) rfl
      (s := { s with watches := s.watches.filter (fun w => !watchHit s v w) }) hup

end Sys2Proof.Machine
end
section
/-! PROOFS. Requests that a head's port hears: queries, and the durable requests that join a change queue (chapter 1, R141). -/

namespace Sys2Proof.Machine

open State

variable {s : State} {p : Port} {t : Tag}

/-! ## The state in which a request is judged -/

theorem admits_linkUp (h : admits s p t) : s.linkUp p = true := h.1.2.1

@[simp] theorem taken_mode : (taken p t s).mode = s.mode := rfl
@[simp] theorem taken_volume : (taken p t s).volume = s.volume := rfl
@[simp] theorem taken_tenant : (taken p t s).tenant = s.tenant := rfl
@[simp] theorem taken_lease : (taken p t s).lease = s.lease := rfl
@[simp] theorem taken_entry? : (taken p t s).entry? = s.entry? := rfl

/-- The arrival checks of R3 do not see that a tag has been taken. -/
@[simp] theorem volumeRefusal_taken (v : Nat) : volumeRefusal (taken p t s) v = volumeRefusal s v := rfl

/-- A request that R164 lets through while SERVING goes on. -/
theorem unlessFrozen_serving {o : Origin} {kind : RequestKind} {k : State → State} (h : s.mode = .serving) :
    unlessFrozen o kind k s = k s := by
  unfold unlessFrozen
  rw [if_neg (by rw [h]; decide)]

/-- A durable request that passes its arrival checks while SERVING joins its change queue (R141). -/
theorem unlessFrozen_enqueue {kind : RequestKind} (r : Request) (h : s.mode = .serving) :
    unlessFrozen ⟨p, t⟩ kind (enqueue r ⟨p, t⟩) (taken p t s) = queued r p t s :=
  (unlessFrozen_serving (s := taken p t s) h).trans (enqueue_taken r)

/-! ## QueryTenant (R7) -/

theorem headroom_none {r : Tenant} (h : r.quota = none) : r.headroom = none := by
  rw [Tenant.headroom, h]; rfl

theorem headroom_some {r : Tenant} {q : Nat} (h : r.quota = some q) :
    r.headroom = some (q - (r.used + r.pending)) := by
  rw [Tenant.headroom, h]; rfl

theorem exec_queryTenant_badForm {te : BitVec 16} (h : admits s p t) (hte : 255 < te.toNat) :
    exec (.queryTenant p t te) s = .next (answered p t 0x26 (.refused .badForm) .empty s) := by
  refine (request_admits _ _ h).trans (congrArg _ ?_)
  exact (if_pos hte).trans (refuse_taken _ _ (admits_linkUp h))

theorem exec_queryTenant_done {te : BitVec 16} (h : admits s p t) (hte : te.toNat ≤ 255) :
    exec (.queryTenant p t te) s = .next (answered p t 0x26 .done
      (.tenant (s.tenant te.toNat).quota (s.tenant te.toNat).used (s.tenant te.toNat).pending
        (s.tenant te.toNat).headroom) s) := by
  refine (request_admits _ _ h).trans (congrArg _ ?_)
  exact (if_neg (Nat.not_lt.mpr hte)).trans (answer_taken _ _ _ (admits_linkUp h))

/-- Settles O35: the answer carries the record and its headroom, whose three cases are those of the statement. -/
theorem queryTenantReports : Obligations.QueryTenantReports := by
  intro p t te s h
  refine ⟨exec_queryTenant_badForm h, fun hte hq => ?_, fun q hte hq hle => ?_, fun q hte hq hlt => ?_⟩
  · rw [exec_queryTenant_done h hte, headroom_none hq, hq]
  · rw [exec_queryTenant_done h hte, headroom_some hq, hq]
  · rw [exec_queryTenant_done h hte, headroom_some hq, hq, Nat.sub_eq_zero_of_le (Nat.le_of_lt hlt)]

/-! ## Field bytes -/

theorem spanOf_ofNat (n : SpanId) : spanOf (BitVec.ofNat 8 n.val) = some n := by
  revert n; decide

theorem poolOf_ofNat (k : PoolId) : poolOf (BitVec.ofNat 8 k.val) = some k := by
  revert k; decide

theorem spanOf_high {b : Byte} (h : 15 < b.toNat) : spanOf b = none := by
  rw [spanOf, dif_neg (by omega)]

theorem spanOf_low {b : Byte} (h : b.toNat ≤ 15) : ∃ n, spanOf b = some n :=
  ⟨_, by rw [spanOf, dif_pos (by omega)]⟩

theorem poolOf_high {b : Byte} (h : 7 < b.toNat) : poolOf b = none := by
  rw [poolOf, dif_neg (by omega)]

theorem poolOf_low {b : Byte} (h : b.toNat ≤ 7) : ∃ k, poolOf b = some k :=
  ⟨_, by rw [poolOf, dif_pos (by omega)]⟩

theorem flagOf_high {b : Byte} (h : 1 < b.toNat) : flagOf b = none := by
  rw [flagOf, if_neg (by rintro rfl; exact absurd h (by decide)), if_neg (by rintro rfl; exact absurd h (by decide))]

theorem periodOf_high {b : Byte} (h : 2 < b.toNat) : periodOf b = none := by
  rw [periodOf, if_neg (by rintro rfl; exact absurd h (by decide)), if_neg (by rintro rfl; exact absurd h (by decide)),
    if_neg (by rintro rfl; exact absurd h (by decide))]

theorem periodOf_low {b : Byte} (h : b.toNat ≤ 2) : ∃ tp, periodOf b = some tp := by
  unfold periodOf
  split_ifs with h0 h1 h2
  · exact ⟨_, rfl⟩
  · exact ⟨_, rfl⟩
  · exact ⟨_, rfl⟩
  · bv_omega

theorem flagOf_bool (on : Bool) : flagOf (if on then 1 else 0) = some on := by
  cases on <;> decide

/-! ## Requests that join the shelf change queue -/

/-- A quota field that is not all ones names the quota of its value (R6). -/
theorem quotaOf_some {q : BitVec 32} (h : q ≠ 0xFFFFFFFF#32) : quotaOf q = some q.toNat := if_neg h

theorem exec_configure_queued {b : Byte} {tp : TickPeriod} {l g r gr : BitVec 32} (h : admits s p t)
    (hs : s.mode = .serving) (htp : periodOf b = some tp)
    (hr : 100 ≤ l.toNat ∧ l.toNat ≤ 60000 ∧ 10 ≤ g.toNat ∧ g.toNat ≤ 10000 ∧ 10 ≤ r.toNat ∧ r.toNat ≤ 60000 ∧
      100 ≤ gr.toNat ∧ gr.toNat ≤ 600000) :
    exec (.configure p t b l g r gr) s =
      .next (queued (.configure ⟨tp, l.toNat, g.toNat, r.toNat, gr.toNat⟩) p t s) := by
  refine (request_admits _ _ h).trans (congrArg _ ?_)
  unfold judgeConfigure
  rw [if_neg (by rw [taken_mode, hs]; decide), htp]
  exact (if_pos hr).trans (enqueue_taken _)

theorem exec_configure_refused {b : Byte} {l g r gr : BitVec 32} {reason : Reason} (h : admits s p t)
    (hs : s.mode = .serving)
    (hr : (2 < b.toNat ∧ reason = .badForm) ∨
      (b.toNat ≤ 2 ∧ reason = .range ∧
        (l.toNat < 100 ∨ 60000 < l.toNat ∨ g.toNat < 10 ∨ 10000 < g.toNat ∨ r.toNat < 10 ∨ 60000 < r.toNat ∨
          gr.toNat < 100 ∨ 600000 < gr.toNat))) :
    exec (.configure p t b l g r gr) s = .next (answered p t 0x04 (.refused reason) .empty s) := by
  refine (request_admits _ _ h).trans (congrArg _ ?_)
  unfold judgeConfigure
  rw [if_neg (by rw [taken_mode, hs]; decide)]
  rcases hr with ⟨hb, rfl⟩ | ⟨hb, rfl, hr⟩
  · rw [periodOf_high hb]
    exact refuse_taken _ _ (admits_linkUp h)
  · obtain ⟨tp, htp⟩ := periodOf_low hb
    rw [htp]
    exact (if_neg (by omega)).trans (refuse_taken _ _ (admits_linkUp h))

theorem exec_setTenant_queued {te : BitVec 16} {q : BitVec 32} (h : admits s p t) (hs : s.mode = .serving)
    (hte : te.toNat ≤ 255) (hq : ∀ n, quotaOf q = some n → n ≤ 33554432) :
    exec (.setTenant p t te q) s = .next (queued (.setTenant te.toNat (quotaOf q)) p t s) := by
  refine (request_admits _ _ h).trans (congrArg _ ?_)
  unfold judgeSetTenant
  refine (if_neg (Nat.not_lt.mpr hte)).trans ((if_neg ?_).trans (unlessFrozen_enqueue _ hs))
  cases hq' : quotaOf q with
  | none => exact Bool.false_ne_true
  | some n => exact fun e => absurd (hq n hq') (Nat.not_le.mpr (of_decide_eq_true e))

theorem exec_setTenant_refused {te : BitVec 16} {q : BitVec 32} {reason : Reason} (h : admits s p t)
    (hr : (255 < te.toNat ∧ reason = .badForm) ∨
      (te.toNat ≤ 255 ∧ q ≠ 0xFFFFFFFF#32 ∧ 33554432 < q.toNat ∧ reason = .range)) :
    exec (.setTenant p t te q) s = .next (answered p t 0x25 (.refused reason) .empty s) := by
  refine (request_admits _ _ h).trans (congrArg _ ?_)
  unfold judgeSetTenant
  rcases hr with ⟨hte, rfl⟩ | ⟨hte, hq, hlt, rfl⟩
  · exact (if_pos hte).trans (refuse_taken _ _ (admits_linkUp h))
  · rw [quotaOf_some hq]
    exact (if_neg (Nat.not_lt.mpr hte)).trans ((if_pos (decide_eq_true hlt)).trans (refuse_taken _ _ (admits_linkUp h)))

theorem exec_addSpan_queued {l : BitVec 32} (n : SpanId) (k : PoolId) (h : admits s p t) (hs : s.mode = .serving)
    (hl : 1 ≤ l.toNat) (hl' : l.toNat ≤ 16777216) :
    exec (.addSpan p t (BitVec.ofNat 8 n.val) (BitVec.ofNat 8 k.val) l) s = .next (queued (.addSpan n k l.toNat) p t s) := by
  refine (request_admits _ _ h).trans (congrArg _ ?_)
  unfold judgeAddSpan
  rw [spanOf_ofNat, poolOf_ofNat]
  refine (if_neg ?_).trans (unlessFrozen_enqueue _ hs)
  simp only [Config.maxExtents]
  omega

theorem exec_addSpan_refused {n k : Byte} {l : BitVec 32} {reason : Reason} (h : admits s p t)
    (hr : ((15 < n.toNat ∨ 7 < k.toNat) ∧ reason = .badForm) ∨
      (n.toNat ≤ 15 ∧ k.toNat ≤ 7 ∧ (l.toNat = 0 ∨ 16777216 < l.toNat) ∧ reason = .range)) :
    exec (.addSpan p t n k l) s = .next (answered p t 0x50 (.refused reason) .empty s) := by
  refine (request_admits _ _ h).trans (congrArg _ ?_)
  unfold judgeAddSpan
  rcases hr with ⟨hf, rfl⟩ | ⟨hn, hk, hl, rfl⟩
  · by_cases hn : 15 < n.toNat
    · rw [spanOf_high hn]
      exact refuse_taken _ _ (admits_linkUp h)
    · obtain ⟨m, hm⟩ := spanOf_low (Nat.not_lt.mp hn)
      rw [hm, poolOf_high (hf.resolve_left hn)]
      exact refuse_taken _ _ (admits_linkUp h)
  · obtain ⟨m, hm⟩ := spanOf_low hn
    obtain ⟨j, hj⟩ := poolOf_low hk
    rw [hm, hj]
    exact (if_pos hl).trans (refuse_taken _ _ (admits_linkUp h))

theorem exec_drainSpan_queued (n : SpanId) (on : Bool) (h : admits s p t) (hs : s.mode = .serving) :
    exec (.drainSpan p t (BitVec.ofNat 8 n.val) (if on then 1 else 0)) s = .next (queued (.drainSpan n on) p t s) := by
  refine (request_admits _ _ h).trans (congrArg _ ?_)
  unfold judgeDrainSpan
  rw [spanOf_ofNat, flagOf_bool]
  exact unlessFrozen_enqueue _ hs

theorem exec_drainSpan_refused {n b : Byte} (h : admits s p t) (hf : 15 < n.toNat ∨ 1 < b.toNat) :
    exec (.drainSpan p t n b) s = .next (answered p t 0x51 (.refused .badForm) .empty s) := by
  refine (request_admits _ _ h).trans (congrArg _ ?_)
  unfold judgeDrainSpan
  by_cases hn : 15 < n.toNat
  · rw [spanOf_high hn]
    exact refuse_taken _ _ (admits_linkUp h)
  · obtain ⟨m, hm⟩ := spanOf_low (Nat.not_lt.mp hn)
    rw [hm, flagOf_high (hf.resolve_left hn)]
    exact refuse_taken _ _ (admits_linkUp h)

theorem exec_removeSpan_queued (n : SpanId) (h : admits s p t) (hs : s.mode = .serving) :
    exec (.removeSpan p t (BitVec.ofNat 8 n.val)) s = .next (queued (.removeSpan n) p t s) := by
  refine (request_admits _ _ h).trans (congrArg _ ?_)
  unfold judgeRemoveSpan
  rw [spanOf_ofNat]
  exact unlessFrozen_enqueue _ hs

theorem exec_removeSpan_refused {n : Byte} (h : admits s p t) (hn : 15 < n.toNat) :
    exec (.removeSpan p t n) s = .next (answered p t 0x52 (.refused .badForm) .empty s) := by
  refine (request_admits _ _ h).trans (congrArg _ ?_)
  unfold judgeRemoveSpan
  rw [spanOf_high hn]
  exact refuse_taken _ _ (admits_linkUp h)

theorem exec_setPool_queued {w c f : BitVec 32} (k : PoolId) (h : admits s p t) (hs : s.mode = .serving)
    (hw : w.toNat ≤ 33554432) (hc : c.toNat ≤ w.toNat) (hf : f.toNat ≤ 33554432) :
    exec (.setPool p t (BitVec.ofNat 8 k.val) w c f) s =
      .next (queued (.setPool k ⟨w.toNat, c.toNat, f.toNat⟩) p t s) := by
  refine (request_admits _ _ h).trans (congrArg _ ?_)
  unfold judgeSetPool
  rw [poolOf_ofNat]
  refine (if_neg ?_).trans (unlessFrozen_enqueue _ hs)
  simp only [Config.maxTotal]
  omega

theorem exec_setPool_refused {k : Byte} {w c f : BitVec 32} {reason : Reason} (h : admits s p t)
    (hr : (7 < k.toNat ∧ reason = .badForm) ∨
      (k.toNat ≤ 7 ∧ reason = .range ∧
        (33554432 < w.toNat ∨ 33554432 < c.toNat ∨ 33554432 < f.toNat ∨ w.toNat < c.toNat))) :
    exec (.setPool p t k w c f) s = .next (answered p t 0x53 (.refused reason) .empty s) := by
  refine (request_admits _ _ h).trans (congrArg _ ?_)
  unfold judgeSetPool
  rcases hr with ⟨hk, rfl⟩ | ⟨hk, rfl, hr⟩
  · rw [poolOf_high hk]
    exact refuse_taken _ _ (admits_linkUp h)
  · obtain ⟨j, hj⟩ := poolOf_low hk
    rw [hj]
    exact (if_pos hr).trans (refuse_taken _ _ (admits_linkUp h))

/-- Settles O33, command by command: queued in range, refused BAD_FORM by form, refused RANGE by quantity. -/
theorem shelfRequestsQueue : Obligations.ShelfRequestsQueue := by
  intro p t s h hs
  refine ⟨fun b tp l g r gr htp h1 h2 h3 h4 h5 h6 h7 h8 =>
      exec_configure_queued h hs htp ⟨h1, h2, h3, h4, h5, h6, h7, h8⟩, fun te q hte hq => ?_,
    fun te hte => ?_, fun n k l hl hl' => exec_addSpan_queued n k h hs hl hl',
    fun n on => exec_drainSpan_queued n on h hs, fun n => exec_removeSpan_queued n h hs,
    fun k w c f hw hc hf => exec_setPool_queued k h hs hw hc hf,
    fun b l g r gr reason hr => exec_configure_refused h hs hr,
    fun te q reason hr => exec_setTenant_refused h hr, fun n k l reason hr => exec_addSpan_refused h hr,
    fun n b hf => exec_drainSpan_refused h hf, fun n hn => exec_removeSpan_refused h hn,
    fun k w c f reason hr => exec_setPool_refused h hr⟩
  · have hne : q ≠ 0xFFFFFFFF#32 := by rintro rfl; revert hq; decide
    rw [exec_setTenant_queued h hs hte (by rw [quotaOf_some hne]; rintro n ⟨⟩; exact hq), quotaOf_some hne]
  · exact exec_setTenant_queued h hs hte (by intro n hn; cases hn)

/-! ## Requests that name a volume (R3) -/

theorem volumeRefusal_named {v : Nat} (h : named s v) : volumeRefusal s v = none := by
  unfold volumeRefusal
  refine (if_neg (Nat.not_lt.mpr h.1)).trans ?_
  rcases h.2 with hs | hs <;> rw [hs]

theorem volumeRefusal_refused {v : Nat} {r : Reason} (h : refusedVolume s v r) : volumeRefusal s v = some r := by
  unfold volumeRefusal
  rcases h with ⟨hv, rfl⟩ | ⟨hv, hs, rfl⟩ | ⟨hv, hs, rfl⟩
  · exact if_pos hv
  · rw [hs]
    exact if_neg (Nat.not_lt.mpr hv)
  · rw [hs]
    exact if_neg (Nat.not_lt.mpr hv)

/-- A request that names a volume which passes R3 goes on. -/
theorem onVolume_named {o : Origin} {kind : RequestKind} {v : Nat} {k : State → State} (h : named s v) :
    onVolume o kind v k (taken p t s) = k (taken p t s) := by
  unfold onVolume
  rw [volumeRefusal_taken, volumeRefusal_named h]

/-- A request that names a volume which R3 refuses is answered with its reason. -/
theorem onVolume_refused {kind : RequestKind} {v : Nat} {k : State → State} {r : Reason} (h : admits s p t)
    (hr : refusedVolume s v r) :
    onVolume ⟨p, t⟩ kind v k (taken p t s) = answered p t kind.code (.refused r) .empty s := by
  unfold onVolume
  rw [volumeRefusal_taken, volumeRefusal_refused hr]
  exact refuse_taken _ _ (admits_linkUp h)

/-- The same where the FROZEN check comes first (R116, R50, R126). -/
theorem unlessFrozen_onVolume_refused {kind : RequestKind} {v : Nat} {k : State → State} {r : Reason} (h : admits s p t)
    (hs : s.mode = .serving) (hr : refusedVolume s v r) :
    unlessFrozen ⟨p, t⟩ kind (onVolume ⟨p, t⟩ kind v k) (taken p t s) =
      answered p t kind.code (.refused r) .empty s :=
  (unlessFrozen_serving (s := taken p t s) hs).trans (onVolume_refused h hr)

theorem modeOf_none {m : Byte} (h1 : m ≠ 1#8) (h2 : m ≠ 2#8) : modeOf m = none := by
  rw [modeOf, if_neg h1, if_neg h2]

theorem modeOf_some {m : Byte} (h : m = 1#8 ∨ m = 2#8) : ∃ st, modeOf m = some st := by
  rcases h with rfl | rfl
  · exact ⟨.active, rfl⟩
  · exact ⟨.readOnly, rfl⟩

/-! ## Volume requests that pass their arrival checks -/

theorem exec_createVolume_queued {v te : BitVec 16} {size : BitVec 32} {m : Byte} {mode : VolState} (k : PoolId)
    (h : admits s p t) (hs : s.mode = .serving) (hv : v.toNat ≤ 4095) (hd : (s.volume v.toNat).state ≠ .deleting)
    (hte : te.toNat ≤ 255) (h1 : 1 ≤ size.toNat) (h2 : size.toNat ≤ 16777216) (hm : modeOf m = some mode) :
    exec (.createVolume p t v te (BitVec.ofNat 8 k.val) size m) s =
      .next (queued (.createVolume v.toNat te.toNat k size.toNat mode) p t s) := by
  refine (request_admits _ _ h).trans (congrArg _ ?_)
  unfold judgeCreate
  rw [poolOf_ofNat, hm]
  refine (if_neg (Nat.not_lt.mpr hv)).trans ((if_neg hd).trans ((if_neg (Nat.not_lt.mpr hte)).trans
    ((if_neg ?_).trans (unlessFrozen_enqueue _ hs))))
  simp only [Config.maxExtents]
  omega

theorem exec_createVolume_refused {v te : BitVec 16} {size : BitVec 32} {k m : Byte} {r : Reason} (h : admits s p t)
    (hr : (4095 < v.toNat ∧ r = .badForm) ∨
      (v.toNat ≤ 4095 ∧ (s.volume v.toNat).state = .deleting ∧ r = .volumeState) ∨
      (v.toNat ≤ 4095 ∧ (s.volume v.toNat).state ≠ .deleting ∧
        (((255 < te.toNat ∨ 7 < k.toNat ∨ (m ≠ 1#8 ∧ m ≠ 2#8)) ∧ r = .badForm) ∨
          (te.toNat ≤ 255 ∧ k.toNat ≤ 7 ∧ (m = 1#8 ∨ m = 2#8) ∧ (size.toNat = 0 ∨ 16777216 < size.toNat) ∧
            r = .range)))) :
    exec (.createVolume p t v te k size m) s = .next (answered p t 0x20 (.refused r) .empty s) := by
  refine (request_admits _ _ h).trans (congrArg _ ?_)
  have refused (r : Reason) : refuse ⟨p, t⟩ .createVolume r (taken p t s) = answered p t 0x20 (.refused r) .empty s :=
    refuse_taken _ _ (admits_linkUp h)
  unfold judgeCreate
  rcases hr with ⟨hv, rfl⟩ | ⟨hv, hd, rfl⟩ | ⟨hv, hd, hr⟩
  · exact (if_pos hv).trans (refused _)
  · exact (if_neg (Nat.not_lt.mpr hv)).trans ((if_pos hd).trans (refused _))
  · refine (if_neg (Nat.not_lt.mpr hv)).trans ((if_neg hd).trans ?_)
    rcases hr with ⟨hf, rfl⟩ | ⟨hte, hk, hm, hl, rfl⟩
    · by_cases hk : 7 < k.toNat
      · rw [poolOf_high hk]
        exact refused _
      obtain ⟨j, hj⟩ := poolOf_low (Nat.not_lt.mp hk)
      by_cases hm : m = 1#8 ∨ m = 2#8
      · obtain ⟨st, hst⟩ := modeOf_some hm
        rw [hj, hst]
        refine (if_pos ?_).trans (refused _)
        rcases hf with hte | hk' | ⟨h1, h2⟩
        · exact hte
        · exact absurd hk' hk
        · exact absurd hm (not_or.mpr ⟨h1, h2⟩)
      · obtain ⟨h1, h2⟩ := not_or.mp hm
        rw [hj, modeOf_none h1 h2]
        exact refused _
    · obtain ⟨j, hj⟩ := poolOf_low hk
      obtain ⟨st, hst⟩ := modeOf_some hm
      rw [hj, hst]
      exact (if_neg (Nat.not_lt.mpr hte)).trans ((if_pos hl).trans (refused _))

theorem exec_deleteVolume_queued {v : BitVec 16} (h : admits s p t) (hs : s.mode = .serving) (hv : named s v.toNat) :
    exec (.deleteVolume p t v) s = .next (queued (.deleteVolume v.toNat) p t s) :=
  (request_admits _ _ h).trans (congrArg _ ((onVolume_named hv).trans (unlessFrozen_enqueue _ hs)))

theorem exec_resizeVolume_queued {v : BitVec 16} {size : BitVec 32} (h : admits s p t) (hs : s.mode = .serving)
    (hv : named s v.toNat) (h1 : 1 ≤ size.toNat) (h2 : size.toNat ≤ 16777216) :
    exec (.resizeVolume p t v size) s = .next (queued (.resizeVolume v.toNat size.toNat) p t s) := by
  refine (request_admits _ _ h).trans (congrArg _ ((onVolume_named hv).trans ?_))
  refine (if_neg ?_).trans (unlessFrozen_enqueue _ hs)
  simp only [Config.maxExtents]
  omega

theorem exec_resizeVolume_range {v : BitVec 16} {size : BitVec 32} (h : admits s p t) (hv : named s v.toNat)
    (hl : size.toNat = 0 ∨ 16777216 < size.toNat) :
    exec (.resizeVolume p t v size) s = .next (answered p t 0x22 (.refused .range) .empty s) :=
  (request_admits _ _ h).trans (congrArg _ ((onVolume_named hv).trans
    ((if_pos hl).trans (refuse_taken _ _ (admits_linkUp h)))))

theorem exec_setVolumeMode_queued {v : BitVec 16} {m : Byte} {mode : VolState} (h : admits s p t)
    (hs : s.mode = .serving) (hv : named s v.toNat) (hm : modeOf m = some mode) :
    exec (.setVolumeMode p t v m) s = .next (queued (.setVolumeMode v.toNat mode) p t s) := by
  refine (request_admits _ _ h).trans (congrArg _ ((onVolume_named hv).trans ?_))
  unfold judgeMode
  rw [hm]
  exact unlessFrozen_enqueue _ hs

theorem exec_setVolumeMode_badForm {v : BitVec 16} {m : Byte} (h : admits s p t) (hv : named s v.toNat)
    (h1 : m ≠ 1#8) (h2 : m ≠ 2#8) :
    exec (.setVolumeMode p t v m) s = .next (answered p t 0x23 (.refused .badForm) .empty s) := by
  refine (request_admits _ _ h).trans (congrArg _ ((onVolume_named hv).trans ?_))
  unfold judgeMode
  rw [modeOf_none h1 h2]
  exact refuse_taken _ _ (admits_linkUp h)

theorem exec_noteWritten_queued {v : BitVec 16} {i : BitVec 32} {w : Mask} {r : Reads} (h : admits s p t)
    (hs : s.mode = .serving) (hv : named s v.toNat) (hw : w ≠ 0) :
    exec (.noteWritten p t v i w r) s = .next (queued (.noteWritten v.toNat i.toNat w) p t s) :=
  (request_admits _ _ h).trans (congrArg _ ((onVolume_named hv).trans
    ((unlessFrozen_serving (s := taken p t s) hs).trans ((if_neg hw).trans (enqueue_taken _)))))

/-- NoteWritten of no sub-block, with its cell read well, is judged at once (R16). -/
theorem exec_noteWritten_nothing {v : BitVec 16} {i : BitVec 32} (h : admits s p t) (hs : s.mode = .serving)
    (hv : named s v.toNat) :
    exec (.noteWritten p t v i 0 []) s = .next
      (if (s.volume v.toNat).size ≤ i.toNat then answered p t 0x31 (.refused .range) .empty s
      else match s.entry? v.toNat i.toNat with
        | none => answered p t 0x31 (.refused .notMapped) .empty s
        | some e => answered p t 0x31 .done (.noted e.unwritten (s.lease v.toNat).wanted) s) := by
  refine (request_admits _ _ h).trans (congrArg _ ((onVolume_named hv).trans
    ((unlessFrozen_serving (s := taken p t s) hs).trans ((if_pos rfl).trans ?_))))
  unfold noteNothing
  rw [taken_volume]
  split
  · exact refuse_taken _ _ (admits_linkUp h)
  · simp only [cellReads, List.filterMap_nil, readCells, taken_entry?, taken_lease]
    cases s.entry? v.toNat i.toNat with
    | none => exact refuse_taken _ _ (admits_linkUp h)
    | some e => exact answer_taken _ _ _ (admits_linkUp h)

theorem exec_unmap_queued {v c : BitVec 16} {f : BitVec 32} (h : admits s p t) (hs : s.mode = .serving)
    (hv : named s v.toNat) (h1 : 1 ≤ c.toNat) (h2 : c.toNat ≤ 4096) :
    exec (.unmap p t v f c) s = .next (queued (.unmap v.toNat f.toNat c.toNat) p t s) := by
  refine (request_admits _ _ h).trans (congrArg _ ((unlessFrozen_serving (s := taken p t s) hs).trans
    ((onVolume_named hv).trans ?_)))
  refine (if_neg ?_).trans (enqueue_taken _)
  simp only [Config.removalLimit]
  omega

theorem exec_unmap_badForm {v c : BitVec 16} {f : BitVec 32} (h : admits s p t) (hs : s.mode = .serving)
    (hv : named s v.toNat) (hc : c.toNat = 0 ∨ 4096 < c.toNat) :
    exec (.unmap p t v f c) s = .next (answered p t 0x32 (.refused .badForm) .empty s) :=
  (request_admits _ _ h).trans (congrArg _ ((unlessFrozen_serving (s := taken p t s) hs).trans
    ((onVolume_named hv).trans ((if_pos hc).trans (refuse_taken _ _ (admits_linkUp h))))))

theorem exec_queryVolume_refused {v : BitVec 16} {b : Byte} {r : Reason} (h : admits s p t)
    (hr : (4095 < v.toNat ∧ r = .badForm) ∨ (v.toNat ≤ 4095 ∧ (s.volume v.toNat).state = .absent ∧ r = .noVolume)) :
    exec (.queryVolume p t v b) s = .next (answered p t 0x24 (.refused r) .empty s) := by
  refine (request_admits _ _ h).trans (congrArg _ ?_)
  rcases hr with ⟨hv, rfl⟩ | ⟨hv, ha, rfl⟩
  · exact (if_pos hv).trans (refuse_taken _ _ (admits_linkUp h))
  · exact (if_neg (Nat.not_lt.mpr hv)).trans ((if_pos ha).trans (refuse_taken _ _ (admits_linkUp h)))

/-- Settles O34: each request queued or refused by its own checks; R3's refusals are `onVolume_refused`. -/
theorem volumeRequestsQueue : Obligations.VolumeRequestsQueue := by
  intro p t v s h hs
  refine ⟨fun te k size hv hd hte h1 h2 => ⟨exec_createVolume_queued k h hs hv hd hte h1 h2 rfl,
    exec_createVolume_queued k h hs hv hd hte h1 h2 rfl⟩, fun hv => ?_, fun r hr => ?_,
    fun te k m size r hr => exec_createVolume_refused h hr, fun b r hr => exec_queryVolume_refused h hr⟩
  · refine ⟨exec_deleteVolume_queued h hs hv, fun size h1 h2 => exec_resizeVolume_queued h hs hv h1 h2,
      exec_setVolumeMode_queued h hs hv rfl, exec_setVolumeMode_queued h hs hv rfl,
      fun i w r hw => exec_noteWritten_queued h hs hv hw, fun i e hi he => ?_,
      fun f c h1 h2 => exec_unmap_queued h hs hv h1 h2, fun size hl => exec_resizeVolume_range h hv hl,
      fun m h1 h2 => exec_setVolumeMode_badForm h hv h1 h2, fun i hi => ?_, fun i hi he => ?_,
      fun f c hc => exec_unmap_badForm h hs hv hc⟩
    · rw [exec_noteWritten_nothing h hs hv, if_neg (Nat.not_le.mpr hi), he]
    · rw [exec_noteWritten_nothing h hs hv, if_pos hi]
    · rw [exec_noteWritten_nothing h hs hv, if_neg (Nat.not_le.mpr hi), he]
  · have judged {kind : RequestKind} {k : State → State} :
        request p t kind (onVolume ⟨p, t⟩ kind v.toNat k) s = .next (answered p t kind.code (.refused r) .empty s) :=
      (request_admits _ _ h).trans (congrArg _ (onVolume_refused h hr))
    have frozenFirst {kind : RequestKind} {k : State → State} :
        request p t kind (unlessFrozen ⟨p, t⟩ kind (onVolume ⟨p, t⟩ kind v.toNat k)) s =
          .next (answered p t kind.code (.refused r) .empty s) :=
      (request_admits _ _ h).trans (congrArg _ (unlessFrozen_onVolume_refused h hs hr))
    exact ⟨judged, fun _ => judged, fun _ => judged, fun _ _ _ => judged, fun _ _ => frozenFirst,
      fun _ _ _ => judged, fun _ _ _ => frozenFirst, fun _ _ => frozenFirst, fun _ _ => judged, judged⟩

/-! ## QueryVolume (R12, R21) -/

theorem reportVolume_volume (v : Nat) (s : State) : (reportVolume v s).volume = s.volume :=
  keeps_of_eraseReport State.volume (reportVolume_erase v s)

/-- The latch of a volume takes the value, and no other volume changes (R12). -/
theorem setLatch_volume (v w : Nat) (b : Bool) (s : State) :
    (setLatch v b s).volume w = if v = w then { s.volume v with latch := b } else s.volume w := by
  unfold setLatch
  split
  · rename_i h
    split
    · subst_vars; rfl
    · rfl
  · rw [reportVolume_volume, updateVolume_eq, volume_setVolume]

theorem setLatch_touches (v : Nat) (b : Bool) (s : State) :
    setLatch v b s = { s with
      ports := (setLatch v b s).ports, volumes := (setLatch v b s).volumes, watches := (setLatch v b s).watches } := by
  unfold setLatch
  split
  · rfl
  · exact (congrArg (fun x : State => { x with
      ports := (reportVolume v (s.updateVolume v (fun r => { r with latch := b }))).ports
      volumes := (reportVolume v (s.updateVolume v (fun r => { r with latch := b }))).volumes
      watches := (reportVolume v (s.updateVolume v (fun r => { r with latch := b }))).watches })
      (reportVolume_erase v (s.updateVolume v (fun r => { r with latch := b }))) :)

theorem setLatch_grows (v : Nat) (b : Bool) (s : State) : portsGrow s (setLatch v b s) := by
  unfold setLatch
  split
  · exact portsGrow_refl s
  · exact reportVolume_grows v (s.updateVolume v (fun r => { r with latch := b }))

/-- A latch that changes is reported to the watch list (R12, R170). -/
theorem setLatch_rejudged {v : Nat} {b : Bool} (h : (s.volume v).latch ≠ b) : rejudged v s (setLatch v b s) := by
  unfold setLatch
  rw [if_neg h]
  exact reportVolume_rejudged v (s.updateVolume v (fun r => { r with latch := b }))

theorem exec_queryVolume_badForm {v : BitVec 16} {b : Byte} (h : admits s p t) (hv : v.toNat ≤ 4095)
    (ha : (s.volume v.toNat).state ≠ .absent) (hb : 1 < b.toNat) :
    exec (.queryVolume p t v b) s = .next (answered p t 0x24 (.refused .badForm) .empty s) := by
  refine (request_admits _ _ h).trans (congrArg _ ?_)
  unfold judgeQueryVolume
  rw [flagOf_high hb]
  refine (if_neg (Nat.not_lt.mpr hv)).trans ((if_neg ha).trans ?_)
  exact refuse_taken _ _ (admits_linkUp h)

/-- The answer is formed first, then the latch is cleared as the flag asks (R12). -/
theorem exec_queryVolume_done {v : BitVec 16} {b : Byte} {c : Bool} (h : admits s p t) (hv : v.toNat ≤ 4095)
    (ha : (s.volume v.toNat).state ≠ .absent) (hb : flagOf b = some c) :
    exec (.queryVolume p t v b) s = .next
      (if c then setLatch v.toNat false (answered p t 0x24 .done (volumeBody s v.toNat) s)
      else answered p t 0x24 .done (volumeBody s v.toNat) s) := by
  refine (request_admits _ _ h).trans (congrArg _ ?_)
  unfold judgeQueryVolume
  rw [hb]
  refine (if_neg (Nat.not_lt.mpr hv)).trans ((if_neg ha).trans ?_)
  have hans : answer ⟨p, t⟩ RequestKind.queryVolume.code .done (volumeBody (taken p t s) v.toNat) (taken p t s) =
      answered p t 0x24 .done (volumeBody s v.toNat) s := answer_taken _ _ _ (admits_linkUp h)
  dsimp only
  rw [hans]

/-- The answer that has joined the port's queue stands in front of what the event added after it. -/
theorem answered_gains {u : State} {code : Byte} {outcome : AnswerOutcome} {body : AnswerBody}
    (hg : portsGrow (answered p t code outcome body s) u) : gains p ⟨t, code, outcome, s.generation, body⟩ s u := by
  obtain ⟨-, -, -, rest, hr⟩ := hg p
  refine ⟨rest, ?_⟩
  rw [hr]
  simp [answered]

theorem answered_grows (code : Byte) (outcome : AnswerOutcome) (body : AnswerBody) :
    portsGrow (taken p t s) (answered p t code outcome body s) := fun q => by
  unfold taken answered
  simp only [putAt_get]
  split
  · exact ⟨rfl, rfl, rfl, _, rfl⟩
  · exact grows_refl _

/-- Settles O37: the answer first; clear latch 1 then is `setLatch`, which changes a latch that is 1 only. -/
theorem queryVolumeReports : Obligations.QueryVolumeReports := by
  intro p t v body s h hv ha hbody
  subst hbody
  refine ⟨exec_queryVolume_done (c := false) h hv ha rfl, fun b hb => exec_queryVolume_badForm h hv ha hb,
    fun hl => ?_, fun hl => ⟨_, exec_queryVolume_done (c := true) h hv ha rfl, ?_, fun x hx => ?_, ?_, ?_, ?_, ?_⟩⟩
  · rw [exec_queryVolume_done (c := true) h hv ha rfl, if_pos rfl]
    exact congrArg _ (if_pos hl)
  · exact (setLatch_volume _ _ _ _).trans (if_pos rfl)
  · exact (setLatch_volume _ _ _ _).trans (if_neg (Ne.symm hx))
  · exact answered_gains (setLatch_grows _ _ _)
  · exact portsGrow_trans (answered_grows _ _ _) (setLatch_grows _ _ _)
  · obtain ⟨hw, hm⟩ := setLatch_rejudged (v := v.toNat) (b := false)
      (s := answered p t 0x24 .done (volumeBody s v.toNat) s)
      (show (s.volume v.toNat).latch ≠ false by rw [hl]; decide)
    refine ⟨hw, fun w hmem hit hup => hm w hmem hit ?_⟩
    exact (portsGrow_linkUp (answered_grows _ _ _) _).trans ((taken_linkUp _).trans hup)
  · exact setLatch_touches _ _ _

/-! ## Resolve (R13, R14) -/

theorem runIndices_eq (first n : Nat) : runIndices first n = (List.range n).map (fun k => first + k) := by
  induction n generalizing first with
  | zero => rfl
  | succ n ih =>
    rw [runIndices, ih, List.range_succ_eq_map, List.map_cons, List.map_map]
    exact congrArg (first :: ·) (List.map_congr_left (fun k _ => by simp only [Function.comp]; omega))

theorem exec_resolve_badForm {v : BitVec 16} {f : BitVec 32} {c : Byte} {reads : Reads} (h : admits s p t)
    (hv : named s v.toNat) (hc : c.toNat = 0 ∨ 64 < c.toNat) :
    exec (.resolve p t v f c reads) s = .next (answered p t 0x30 (.refused .badForm) .empty s) :=
  (request_admits _ _ h).trans (congrArg _ ((onVolume_named hv).trans
    ((if_pos hc).trans (refuse_taken _ _ (admits_linkUp h)))))

theorem exec_resolve_range {v : BitVec 16} {f : BitVec 32} {c : Byte} {reads : Reads} (h : admits s p t)
    (hv : named s v.toNat) (h1 : 1 ≤ c.toNat) (h2 : c.toNat ≤ 64)
    (hr : (s.volume v.toNat).size ≤ f.toNat + c.toNat - 1) :
    exec (.resolve p t v f c reads) s = .next (answered p t 0x30 (.refused .range) .empty s) := by
  refine (request_admits _ _ h).trans (congrArg _ ((onVolume_named hv).trans ?_))
  refine (if_neg (by omega)).trans ((if_pos ?_).trans (refuse_taken _ _ (admits_linkUp h)))
  rw [runBelow, taken_volume, decide_eq_false (Nat.not_lt.mpr hr)]
  rfl

/-- A Resolve that passes its checks reads the cells of its run and is then answered (R13, R15). -/
theorem exec_resolve_run {v : BitVec 16} {f : BitVec 32} {c : Byte} {reads : Reads} (h : admits s p t)
    (hv : named s v.toNat) (h1 : 1 ≤ c.toNat) (h2 : c.toNat ≤ 64)
    (hr : f.toNat + c.toNat - 1 < (s.volume v.toNat).size) :
    ∃ u, u = resolveCells v.toNat (cellReads v.toNat (fun i => decide (f.toNat ≤ i ∧ i < f.toNat + c.toNat)) reads)
        (taken p t s) ∧
      exec (.resolve p t v f c reads) s =
        .next (answer ⟨p, t⟩ 0x30 .done (resolveBody u v.toNat f.toNat c.toNat) u) := by
  refine ⟨_, rfl, (request_admits _ _ h).trans (congrArg _ ((onVolume_named hv).trans ?_))⟩
  refine (if_neg (by omega)).trans (if_neg ?_)
  rw [runBelow, taken_volume, decide_eq_true hr]
  exact Bool.false_ne_true

theorem indexReport_poisoned {v i : Nat} (h : (v, i) ∈ s.poison) : indexReport s v i = .poisoned := if_pos h

theorem indexReport_moving {v i n : Nat} {e : Entry} {g : Grant} {x : Nat × Extent} {rest : List (Nat × Extent)}
    (h : (v, i) ∉ s.poison) (he : s.entry? v i = some e) (hr : s.relocationOf v i = some (n, g))
    (hx : g.extents = x :: rest) :
    indexReport s v i = .moving e.placement x.2 e.unwritten (decide (g.state = .binding)) := by
  unfold indexReport
  simp only [if_neg h, he, hr, hx]

theorem indexReport_mapped {v i : Nat} {e : Entry} (h : (v, i) ∉ s.poison) (he : s.entry? v i = some e)
    (hr : s.relocationOf v i = none) : indexReport s v i = .mapped e.placement e.unwritten := by
  unfold indexReport
  simp only [if_neg h, he, hr]

theorem indexReport_pending {v i n : Nat} {g : Grant} (h : (v, i) ∉ s.poison) (he : s.entry? v i = none)
    (ha : s.allocationOf v i = some (n, g)) :
    indexReport s v i = .pending (decide (g.state = .binding)) g.owner := by
  unfold indexReport
  simp only [if_neg h, he, ha]

theorem indexReport_unmapped {v i : Nat} (h : (v, i) ∉ s.poison) (he : s.entry? v i = none)
    (ha : s.allocationOf v i = none) : indexReport s v i = .unmapped := by
  unfold indexReport
  simp only [if_neg h, he, ha]

/-- Settles O38: with every read good the answer reports each index of the run, by the rows of Table 1-4. -/
theorem resolveReports : Obligations.ResolveReports := by
  refine ⟨fun p t v f c s h hv => ⟨exec_resolve_badForm h hv, exec_resolve_range h hv, fun h1 h2 hr => ?_⟩,
    fun s v i => ⟨indexReport_poisoned, fun e n g x rest => indexReport_moving, fun e => indexReport_mapped,
      fun n g => indexReport_pending, indexReport_unmapped⟩⟩
  obtain ⟨u, rfl, hu⟩ := exec_resolve_run (reads := []) h hv h1 h2 hr
  rw [hu]
  simp only [cellReads, List.filterMap_nil, resolveCells, resolveBody, runIndices_eq, List.map_map]
  exact congrArg _ (answer_taken _ _ _ (admits_linkUp h))

end Sys2Proof.Machine
end

section
/-! PROOFS. Facts about tables, runs of indices and change queues that the proofs share, and the validation of the front of the
shelf change queue (R142). -/

namespace Sys2Proof.Machine

open State

/-! ## Tables as lists -/

namespace Table

variable {α : Type}

/-- A key is listed exactly when an element of the table has it. -/
theorem get?_ne_none_iff (t : Table α) (n : Nat) : get? t n ≠ none ↔ ∃ a, (n, a) ∈ t := by
  induction t with
  | nil => simp
  | cons e t ih =>
    obtain ⟨k, b⟩ := e
    by_cases h : k = n
    · subst h; simp [get?]
    · simp [get?, h, ih, Ne.symm h]

theorem get?_of_mem (t : Table α) (n : Nat) (a : α) (hw : wf t = true) (h : (n, a) ∈ t) : get? t n = some a := by
  induction t with
  | nil => cases h
  | cons e t ih =>
    obtain ⟨k, b⟩ := e
    rw [wf_cons] at hw
    rcases List.mem_cons.mp h with h | h
    · cases h; simp [get?]
    · have : k < n := hw.1 _ h
      simp [get?, Nat.ne_of_lt this, ih hw.2 h]

theorem get?_eq_some_iff (t : Table α) (n : Nat) (a : α) (hw : wf t = true) : get? t n = some a ↔ (n, a) ∈ t :=
  ⟨mem_of_get? t n a, get?_of_mem t n a hw⟩

theorem wf_filter (t : Table α) (f : Nat × α → Bool) (h : wf t = true) : wf (t.filter f) = true := by
  simp only [wf, decide_eq_true_eq] at h ⊢
  exact h.sublist (List.filter_sublist.map Prod.fst)

theorem wf_tail (e : Nat × α) (t : Table α) (h : wf (e :: t) = true) : wf t = true := ((wf_cons _ _ _).mp h).2

theorem wf_pairwise (t : Table α) (h : wf t = true) : (t.map Prod.fst).Pairwise (· < ·) := of_decide_eq_true h

theorem wf_nodup (t : Table α) (h : wf t = true) : (t.map Prod.fst).Nodup :=
  (wf_pairwise t h).imp (fun hab => Nat.ne_of_lt hab)

/-- The table without the keys of a list. -/
theorem foldl_erase (ns : List Nat) (t : Table α) :
    ns.foldl (fun t n => erase n t) t = t.filter (fun e => decide (e.1 ∉ ns)) := by
  induction ns generalizing t with
  | nil => simp
  | cons n ns ih =>
    rw [List.foldl_cons, ih, erase, List.filter_filter]
    exact List.filter_congr (fun e _ => by simp [Bool.and_comm])

/-- The elements that a test passes are those whose keys it passes, since a key is listed once. -/
theorem filter_keys (t : Table α) (f : Nat × α → Bool) (h : wf t = true) :
    t.filter (fun e => decide (e.1 ∉ (t.filter f).map Prod.fst)) = t.filter (fun e => !f e) := by
  refine List.filter_congr (fun e he => ?_)
  have : e.1 ∈ (t.filter f).map Prod.fst ↔ f e = true := by
    constructor
    · intro hm
      obtain ⟨x, hx, hxe⟩ := List.mem_map.mp hm
      obtain ⟨hxt, hfx⟩ := List.mem_filter.mp hx
      have h1 := get?_of_mem t e.1 x.2 h (by rw [← hxe]; exact hxt)
      have h2 := get?_of_mem t e.1 e.2 h he
      have : x = e := Prod.ext hxe (Option.some.inj (h1.symm.trans h2))
      rw [← this]; exact hfx
    · exact fun hf => List.mem_map.mpr ⟨e, List.mem_filter.mpr ⟨he, hf⟩, rfl⟩
  cases hf : f e <;> simp [this, hf]

end Table

/-! ## Runs of indices -/

theorem mem_runIndices (first n i : Nat) : i ∈ runIndices first n ↔ first ≤ i ∧ i < first + n := by
  rw [runIndices_eq, List.mem_map]
  simp only [List.mem_range]
  constructor
  · rintro ⟨k, hk, rfl⟩
    omega
  · exact fun h => ⟨i - first, by omega, by omega⟩

theorem find?_runIndices_none {f : Nat → Bool} (first n : Nat) :
    (runIndices first n).find? f = none ↔ ∀ i, first ≤ i → i < first + n → f i = false := by
  rw [List.find?_eq_none]
  simp only [mem_runIndices, Bool.not_eq_true]
  exact ⟨fun h i h1 h2 => h i ⟨h1, h2⟩, fun h i hi => h i hi.1 hi.2⟩

/-- The index found is the first of the run that meets the test. -/
theorem find?_runIndices_some {f : Nat → Bool} {first n i : Nat} (h1 : first ≤ i) (h2 : i < first + n) (hi : f i = true)
    (hlt : ∀ j, first ≤ j → j < i → f j = false) : (runIndices first n).find? f = some i := by
  induction n generalizing first with
  | zero => omega
  | succ n ih =>
    rw [runIndices, List.find?_cons]
    by_cases h : first = i
    · rw [h, hi]
    · rw [hlt first (Nat.le_refl _) (by omega)]
      exact ih (by omega) (by omega) (fun j hj => hlt j (by omega))

/-! ## Reads that are good -/

@[simp] theorem cellReads_nil (v : Nat) (f : Nat → Bool) : cellReads v f [] = [] := rfl
@[simp] theorem readCells_nil (v : Nat) (s : State) : readCells v [] s = (s, true) := rfl

/-! ## Steps that are due -/

variable {s u w : State}

theorem finishUntil_due {d : Due} (h : due? s = some d) : finishUntil d s = s := by
  unfold finishUntil
  cases dueBound s with
  | zero => rfl
  | succ n =>
    unfold takeDues
    rw [h]
    exact if_pos (decide_eq_true rfl)

/-- A step that is due first is taken by its own command at once (log 4). -/
theorem stepDue_due {d : Due} {take : State → State} (h : due? s = some d) : stepDue d take s = .next (take s) := by
  unfold stepDue
  rw [finishUntil_due h]
  exact congrArg _ (if_pos h)

/-! ## Change queues -/

/-- An intent that is formed holds the front of its queue and waits for its slot (R142). -/
theorem formIntent_forms {rest : List Item} {flight : Flight} {i : Intent} (hq : (w.queue i.queue).waiting = rest)
    (ho : otherQueues i.queue s w) (hl : w.logWait = s.logWait) : forms rest flight i s (formIntent flight i w) := by
  unfold formIntent
  refine ⟨?_, fun x hx => ?_, ?_⟩
  · exact (queue_setQueue_self _ _ w).trans (congrArg (ChangeQueue.mk (some flight)) hq)
  · exact (queue_setQueue_other _ _ _ w (Ne.symm hx)).trans (ho x hx)
  · exact congrArg (· ++ [i]) ((setQueue_logWait _ _ w).trans hl)

theorem otherQueues_setQueue (q : QueueId) (c : ChangeQueue) (s : State) : otherQueues q s (s.setQueue q c) :=
  fun _ hx => queue_setQueue_other _ _ _ s (Ne.symm hx)

/-- A front that can be validated is judged in the state with its item taken from the queue (R142). -/
theorem validateFront_item {q : QueueId} {r : Request} {o : Option Origin} {rest : List Item} {reads : Reads}
    (hq : s.queue q = ⟨none, ⟨r, o⟩ :: rest⟩) :
    validateFront q reads s = validateRequest r o reads (s.setQueue q ⟨none, rest⟩) := by
  unfold validateFront
  rw [hq]

/-- An answer at validation ends the request and changes nothing else (R142). -/
theorem answer_endsFront {q : QueueId} {rest : List Item} {p : Port} {t : Tag} {code : Byte} {outcome : AnswerOutcome}
    {body : AnswerBody} (hup : s.linkUp p = true) :
    endsFront q rest p t code outcome body s (answer ⟨p, t⟩ code outcome body (s.setQueue q ⟨none, rest⟩)) := by
  have hup' : (s.setQueue q ⟨none, rest⟩).linkUp p = true := by
    rw [State.linkUp, setQueue_ports]
    exact hup
  rw [answer_ports hup']
  refine ⟨?_, fun x hx => ?_, ?_⟩
  · exact queue_setQueue_self q ⟨none, rest⟩ s
  · exact queue_setQueue_other q x ⟨none, rest⟩ s (Ne.symm hx)
  · cases q <;> rfl

/-! ## The shelf change queue (R6, R38, R40 to R42, R107) -/

section Shelf

variable {r : Request} {o : Option Origin} {reads : Reads}

theorem exec_validate_shelf {rest : List Item} (hd : due? s = some (.front .shelf))
    (hq : s.shelf = ⟨none, ⟨r, o⟩ :: rest⟩) :
    exec (.validate .shelf reads) s = .next (validateRequest r o reads { s with shelf := ⟨none, rest⟩ }) :=
  (stepDue_due hd).trans (congrArg _ (validateFront_item hq))

/-- The shelf requests that form their intent, with its kind and its effect. -/
theorem validateRequest_shelf_forms {kind : IntentKind} {e : Effect}
    (h : (∃ te q, r = .setTenant te q ∧ kind = .tenant te ∧ e = .setTenant te q) ∨
      (∃ k settings, r = .setPool k settings ∧ kind = .pool k ∧ e = .setPool k settings) ∨
      (∃ timing, r = .configure timing ∧ kind = .config timing ∧ e = .setConfig timing) ∨
      (∃ n k l, r = .addSpan n k l ∧ (s.spans.get n).state = .absent ∧ s.registeredTotal + l ≤ 33554432 ∧
        kind = .span .add n k ∧ e = .setSpan n .online k l) ∨
      (∃ n, r = .drainSpan n true ∧ (s.spans.get n).state = .online ∧ kind = .span .drain n (s.spans.get n).pool ∧
        e = .setSpan n .draining (s.spans.get n).pool (s.spans.get n).length) ∨
      (∃ n, r = .drainSpan n false ∧ (s.spans.get n).state = .draining ∧
        kind = .span .drain n (s.spans.get n).pool ∧
        e = .setSpan n .online (s.spans.get n).pool (s.spans.get n).length) ∨
      (∃ n, r = .removeSpan n ∧ (s.spans.get n).state = .draining ∧
        (s.spans.get n).freeCount = (s.spans.get n).length ∧ kind = .span .remove n (s.spans.get n).pool ∧
        e = .setSpan n .absent (s.spans.get n).pool (s.spans.get n).length)) :
    validateRequest r o reads s = formIntent .intent (simpleIntent .shelf kind o e) s := by
  rcases h with ⟨te, q, rfl, rfl, rfl⟩ | ⟨k, settings, rfl, rfl, rfl⟩ | ⟨timing, rfl, rfl, rfl⟩ |
    ⟨n, k, l, rfl, ha, hl, rfl, rfl⟩ | ⟨n, rfl, hs, rfl, rfl⟩ | ⟨n, rfl, hs, rfl, rfl⟩ | ⟨n, rfl, hs, hf, rfl, rfl⟩
  · rfl
  · rfl
  · rfl
  · exact (if_neg (not_not.mpr ha)).trans (if_neg (Nat.not_lt.mpr hl))
  · exact (if_neg (by rw [hs]; decide)).trans (if_neg (by rw [hs]; decide))
  · exact (if_neg (by rw [hs]; decide)).trans (if_neg (by rw [hs]; decide))
  · exact if_pos ⟨hs, hf⟩

/-- The shelf requests that are answered at their validation. -/
theorem validateRequest_shelf_answers {code : Byte} {outcome : AnswerOutcome} {body : AnswerBody}
    (h : (∃ n k l, r = .addSpan n k l ∧ (s.spans.get n).state ≠ .absent ∧ code = 0x50#8 ∧
        outcome = .refused .spanState ∧ body = .empty) ∨
      (∃ n k l, r = .addSpan n k l ∧ (s.spans.get n).state = .absent ∧ 33554432 < s.registeredTotal + l ∧
        code = 0x50#8 ∧ outcome = .refused .capacity ∧ body = .empty) ∨
      (∃ n on, r = .drainSpan n on ∧ (s.spans.get n).state = .absent ∧ code = 0x51#8 ∧
        outcome = .refused .spanState ∧ body = .empty) ∨
      (∃ n on, r = .drainSpan n on ∧ (s.spans.get n).state = (if on then .draining else .online) ∧ code = 0x51#8 ∧
        outcome = .done ∧ body = .spanDrained (s.spans.get n).state (s.spans.get n).freeCount) ∨
      (∃ n, r = .removeSpan n ∧
        ¬ ((s.spans.get n).state = .draining ∧ (s.spans.get n).freeCount = (s.spans.get n).length) ∧
        code = 0x52#8 ∧ outcome = .refused .spanState ∧ body = .empty)) :
    validateRequest r o reads s = answer? o code outcome body s := by
  rcases h with ⟨n, k, l, rfl, hs, rfl, rfl, rfl⟩ | ⟨n, k, l, rfl, hs, hl, rfl, rfl, rfl⟩ |
    ⟨n, on, rfl, hs, rfl, rfl, rfl⟩ | ⟨n, on, rfl, hs, rfl, rfl, rfl⟩ | ⟨n, rfl, hs, rfl, rfl, rfl⟩
  · exact if_pos hs
  · exact (if_neg (not_not.mpr hs)).trans (if_pos hl)
  · exact if_pos hs
  · exact (if_neg (by rw [hs]; cases on <;> decide)).trans (if_pos hs)
  · exact if_neg hs

end Shelf

/-- Settles O55: the item is taken from the queue, and its validation forms the intent or answers. -/
theorem validateShelfRequests : Obligations.ValidateShelfRequests := by
  intro r p t rest reads s hd hq hup
  refine ⟨fun kind e h => ?_, fun code outcome body h => ?_⟩
  · rw [exec_validate_shelf hd hq, validateRequest_shelf_forms (s := { s with shelf := ⟨none, rest⟩ }) h]
    rfl
  · rw [exec_validate_shelf hd hq, validateRequest_shelf_answers (s := { s with shelf := ⟨none, rest⟩ }) h]
    exact congrArg _ (answer_ports (s := { s with shelf := ⟨none, rest⟩ }) (o := ⟨p, t⟩) hup)

end Sys2Proof.Machine
end

section
/-! PROOFS. The validation of the front of a volume's change queue (Table 8-1, R142). -/

namespace Sys2Proof.Machine

open State

variable {s u w : State} {v : Nat} {p : Port} {t : Tag} {o : Option Origin} {rest : List Item} {r : Request}

/-! ## The forming of an intent and the answer of a front -/

theorem exec_validate_volume (hd : due? s = some (.front (.volume v)))
    (hq : s.queue (.volume v) = ⟨none, ⟨r, o⟩ :: rest⟩) :
    exec (.validate (.volume v) []) s =
      .next (validateRequest r o [] (s.setQueue (.volume v) ⟨none, rest⟩)) :=
  (stepDue_due hd).trans (congrArg _ (validateFront_item hq))

/-- A validation that forms its intent touches the volume's queue and the log wait queue. -/
theorem exec_validate_volume_forms {flight : Flight} {i : Intent} (hd : due? s = some (.front (.volume v)))
    (hq : s.queue (.volume v) = ⟨none, ⟨r, o⟩ :: rest⟩) (hi : i.queue = .volume v)
    (h : validateRequest r o [] (s.setQueue (.volume v) ⟨none, rest⟩) =
      formIntent flight i (s.setQueue (.volume v) ⟨none, rest⟩)) :
    ∃ u, exec (.validate (.volume v) []) s = .next u ∧ forms rest flight i s u ∧
      u = { s with queues := u.queues, logWait := u.logWait } := by
  refine ⟨_, (exec_validate_volume hd hq).trans (congrArg _ h), formIntent_forms ?_ ?_ ?_, ?_⟩
  · rw [hi]; exact congrArg _ (queue_setQueue_self _ _ _)
  · rw [hi]; exact otherQueues_setQueue _ _ _
  · rfl
  · unfold formIntent
    rw [hi]
    rfl

/-- A validation that answers changes nothing but the volume's queue. -/
theorem exec_validate_volume_answers {code : Byte} {outcome : AnswerOutcome} {body : AnswerBody}
    (hd : due? s = some (.front (.volume v))) (hq : s.queue (.volume v) = ⟨none, ⟨r, o⟩ :: rest⟩)
    (ho : o = some ⟨p, t⟩) (hup : s.linkUp p = true)
    (h : validateRequest r o [] (s.setQueue (.volume v) ⟨none, rest⟩) =
      answer? o code outcome body (s.setQueue (.volume v) ⟨none, rest⟩)) :
    ∃ u, exec (.validate (.volume v) []) s = .next u ∧ endsFront (.volume v) rest p t code outcome body s u := by
  subst ho
  exact ⟨_, (exec_validate_volume hd hq).trans (congrArg _ h), answer_endsFront hup⟩

/-! ## Who may ask (R70) -/

theorem itemMayManage_of (h : (w.lease v).hold.holder? = some p ∨ (w.lease v).hold.holder? = none) :
    itemMayManage w v (some ⟨p, t⟩) = true := by
  rcases h with h | h <;> simp [itemMayManage, itemHolds, Lease.heldBy, Lease.unheld, h]

theorem itemMayManage_other {h : Port} (hh : (w.lease v).hold.holder? = some h) (hp : h ≠ p) :
    itemMayManage w v (some ⟨p, t⟩) = false := by
  simp [itemMayManage, itemHolds, Lease.heldBy, Lease.unheld, hh, hp]

/-! ## CreateVolume (R18) -/

theorem validateCreate_absent (te : Nat) (k : PoolId) (size : Nat) (m : VolState) (h : (w.volume v).state = .absent) :
    validateCreate v te k size m o w =
      formIntent .intent (simpleIntent (.volume v) .volumeCreate o (.setVolume v m te k size)) w := by
  unfold validateCreate; rw [h]

theorem validateCreate_exists (te : Nat) (k : PoolId) (size : Nat) (m : VolState)
    (h : (w.volume v).state = .active ∨ (w.volume v).state = .readOnly) :
    validateCreate v te k size m o w = answer? o 0x20 (.refused .exists) .empty w := by
  unfold validateCreate
  rcases h with h | h <;> rw [h] <;> rfl

/-! ## ResizeVolume (R19) -/

/-- An entry or a grant's index at or beyond a size. -/
theorem mappedBeyond_iff (size : Nat) : mappedBeyond w v size = true ↔
    (∃ i x, size ≤ i ∧ w.entry? v i = some x) ∨
      ∃ g ∈ w.grants, g.2.volume = v ∧ ∃ x ∈ g.2.extents, size ≤ x.1 := by
  have entries : (w.mapOf v).any (fun e => decide (size ≤ e.1)) = true ↔ ∃ i x, size ≤ i ∧ w.entry? v i = some x := by
    rw [List.any_eq_true]
    constructor
    · rintro ⟨⟨i, x⟩, hm, hi⟩
      obtain ⟨y, hy⟩ := Option.ne_none_iff_exists'.mp ((Table.get?_ne_none_iff _ i).mpr ⟨x, hm⟩)
      exact ⟨i, y, of_decide_eq_true hi, hy⟩
    · rintro ⟨i, x, hi, hx⟩
      exact ⟨(i, x), Table.mem_of_get? _ _ _ hx, decide_eq_true hi⟩
  unfold mappedBeyond
  rw [Bool.or_eq_true, entries, List.any_eq_true]
  simp only [Bool.and_eq_true, decide_eq_true_eq, List.any_eq_true]

theorem mappedBeyond_false {size : Nat} (he : ∀ i, size ≤ i → w.entry? v i = none)
    (hg : ∀ g ∈ w.grants, g.2.volume = v → ∀ x ∈ g.2.extents, x.1 < size) : mappedBeyond w v size = false := by
  rw [← Bool.not_eq_true, mappedBeyond_iff]
  rintro (⟨i, x, hi, hx⟩ | ⟨g, hm, hv, x, hx, hs⟩)
  · rw [he i hi] at hx; cases hx
  · exact absurd (hg g hm hv x hx) (Nat.not_lt.mpr hs)

section Resize

variable {size : Nat}

theorem validateResize_notHolder (h : itemMayManage w v o = false) :
    validateResize v size o [] w = answer? o 0x22 (.refused .notHolder) .empty w := by
  unfold validateResize
  rw [h]
  rfl

theorem validateResize_grow (h : itemMayManage w v o = true) (hlt : (w.volume v).size < size) :
    validateResize v size o [] w = formIntent .intent (simpleIntent (.volume v) (.volumeResize (w.volume v).size size) o
      (.setVolume v (w.volume v).state (w.volume v).tenant (w.volume v).pool size)) w := by
  unfold validateResize
  rw [h]
  exact if_pos hlt

theorem validateResize_same (h : itemMayManage w v o = true) :
    validateResize v (w.volume v).size o [] w =
      answer? o 0x22 .done (.resized (w.volume v).size (w.volume v).size) w := by
  unfold validateResize
  rw [h]
  exact (if_neg (Nat.lt_irrefl _)).trans (if_pos rfl)

/-- A lowered size goes on to its check of entries and grants. -/
theorem validateResize_lower (h : itemMayManage w v o = true) (hlt : size < (w.volume v).size) :
    validateResize v size o [] w =
      if mappedBeyond w v size then answer? o 0x22 (.refused .mappedBeyond) .empty w
      else formIntent (.shrink size) (simpleIntent (.volume v) (.volumeResize (w.volume v).size size) o
        (.setVolume v (w.volume v).state (w.volume v).tenant (w.volume v).pool size)) w := by
  unfold validateResize
  rw [h]
  exact (if_neg (Nat.lt_asymm hlt)).trans (if_neg (Nat.ne_of_lt hlt))

end Resize

/-! ## SetVolumeMode (R20) -/

theorem validateMode_notHolder (m : VolState) (h : itemMayManage w v o = false) :
    validateMode v m o w = answer? o 0x23 (.refused .notHolder) .empty w := by
  unfold validateMode
  rw [h]
  rfl

theorem validateMode_switch {m : VolState} (h : itemMayManage w v o = true) (hm : (w.volume v).state ≠ m) :
    validateMode v m o w = formIntent .intent (simpleIntent (.volume v) (.volumeMode m) o
      (.setVolume v m (w.volume v).tenant (w.volume v).pool (w.volume v).size)) w := by
  unfold validateMode
  rw [h]
  exact if_neg hm

theorem validateMode_same (h : itemMayManage w v o = true) :
    validateMode v (w.volume v).state o w = answer? o 0x23 .done (.modeSet (w.volume v).state) w := by
  unfold validateMode
  rw [h]
  exact if_pos rfl

/-! ## NoteWritten (R16) -/

section Note

variable {i : Nat} {wr : Mask}

theorem validateNote_notHolder (h : itemHolds w v o = false) :
    validateNote v i wr o [] w = answer? o 0x31 (.refused .notHolder) .empty w := by
  unfold validateNote
  rw [h]
  rfl

theorem validateNote_state (h : itemHolds w v o = true) (hs : (w.volume v).state ≠ .active) :
    validateNote v i wr o [] w = answer? o 0x31 (.refused .volumeState) .empty w := by
  unfold validateNote
  rw [h]
  exact if_pos hs

theorem validateNote_range (h : itemHolds w v o = true) (hs : (w.volume v).state = .active)
    (hi : (w.volume v).size ≤ i) : validateNote v i wr o [] w = answer? o 0x31 (.refused .range) .empty w := by
  unfold validateNote
  rw [h]
  exact (if_neg (not_not.mpr hs)).trans (if_pos hi)

theorem validateNote_notMapped (h : itemHolds w v o = true) (hs : (w.volume v).state = .active)
    (hi : i < (w.volume v).size) (he : w.entry? v i = none) :
    validateNote v i wr o [] w = answer? o 0x31 (.refused .notMapped) .empty w := by
  unfold validateNote
  rw [h]
  refine (if_neg (not_not.mpr hs)).trans ((if_neg (Nat.not_le.mpr hi)).trans ?_)
  simp only [cellReads_nil, readCells_nil, he]
  rfl

/-- On an entry the request forms its intent, unless none of its sub-blocks is unwritten. -/
theorem validateNote_entry {e : Entry} (h : itemHolds w v o = true) (hs : (w.volume v).state = .active)
    (hi : i < (w.volume v).size) (he : w.entry? v i = some e) :
    validateNote v i wr o [] w =
      if e.unwritten &&& wr = 0 then answer? o 0x31 .done (.noted e.unwritten (w.lease v).wanted) w
      else formIntent .intent (simpleIntent (.volume v) (.note i) o (.setMask v i (e.unwritten &&& ~~~wr))) w := by
  unfold validateNote
  rw [h]
  refine (if_neg (not_not.mpr hs)).trans ((if_neg (Nat.not_le.mpr hi)).trans ?_)
  simp only [cellReads_nil, readCells_nil, he]
  rfl

end Note

/-! ## Unmap (R116, R117) -/

theorem unmapBlocked_false_iff (i : Nat) : unmapBlocked w v i = false ↔
    w.allocationOf v i = none ∧ ∀ n g, w.relocationOf v i = some (n, g) → g.state ≠ .binding := by
  unfold unmapBlocked
  cases ha : w.allocationOf v i with
  | some a => simp
  | none =>
    cases hr : w.relocationOf v i with
    | none => simp
    | some g => simp [Prod.ext_iff]

theorem unmapBlocked_of {i : Nat}
    (h : w.allocationOf v i ≠ none ∨ ∃ n g, w.relocationOf v i = some (n, g) ∧ g.state = .binding) :
    unmapBlocked w v i = true := by
  rw [← Bool.not_eq_false, unmapBlocked_false_iff]
  rintro ⟨ha, hr⟩
  rcases h with h | ⟨n, g, hg, hb⟩
  · exact h ha
  · exact hr n g hg hb

theorem mem_entriesIn (first count i : Nat) :
    i ∈ entriesIn w v first count ↔ first ≤ i ∧ i < first + count ∧ w.entry? v i ≠ none := by
  unfold entriesIn State.entry?
  rw [Table.get?_ne_none_iff, List.mem_map]
  constructor
  · rintro ⟨⟨j, e⟩, hm, rfl⟩
    obtain ⟨hm, hr⟩ := List.mem_filter.mp hm
    obtain ⟨h1, h2⟩ := of_decide_eq_true hr
    exact ⟨h1, h2, e, hm⟩
  · rintro ⟨h1, h2, e, hm⟩
    exact ⟨(i, e), List.mem_filter.mpr ⟨hm, decide_eq_true ⟨h1, h2⟩⟩, rfl⟩

theorem mapOf_wf (h : tablesLaw w) (v : Nat) : Table.wf (w.mapOf v) = true := by
  obtain ⟨-, -, -, hm, -⟩ := h
  unfold State.mapOf Table.getD
  cases hv : Table.get? w.maps v with
  | none => rfl
  | some m => exact hm _ (Table.mem_of_get? _ _ _ hv)

theorem grants_wf (h : tablesLaw w) : Table.wf w.grants = true := by
  obtain ⟨-, -, -, -, hg, -⟩ := h
  exact hg

theorem entriesIn_pairwise (h : tablesLaw w) (first count : Nat) : (entriesIn w v first count).Pairwise (· < ·) :=
  (Table.wf_pairwise _ (mapOf_wf h v)).sublist (List.filter_sublist.map Prod.fst)

section Unmap

variable {f c : Nat}

theorem validateUnmap_notHolder (h : itemHolds w v o = false) :
    validateUnmap v f c o [] w = answer? o 0x32 (.refused .notHolder) .empty w := by
  unfold validateUnmap
  rw [h]
  rfl

theorem validateUnmap_state (h : itemHolds w v o = true) (hs : (w.volume v).state ≠ .active) :
    validateUnmap v f c o [] w = answer? o 0x32 (.refused .volumeState) .empty w := by
  unfold validateUnmap
  rw [h]
  exact if_pos hs

theorem validateUnmap_range (h : itemHolds w v o = true) (hs : (w.volume v).state = .active)
    (hr : (w.volume v).size ≤ f + c - 1) : validateUnmap v f c o [] w = answer? o 0x32 (.refused .range) .empty w := by
  unfold validateUnmap
  rw [h, runBelow, decide_eq_false (Nat.not_lt.mpr hr)]
  exact (if_neg (not_not.mpr hs)).trans (if_pos rfl)

/-- An index of the run in a grant refuses the Unmap (R116 check 4). -/
theorem validateUnmap_inGrant {i : Nat} (h : itemHolds w v o = true) (hs : (w.volume v).state = .active)
    (hr : f + c - 1 < (w.volume v).size) (hi : (runIndices f c).find? (unmapBlocked w v) = some i) :
    validateUnmap v f c o [] w = answer? o 0x32 (.refused .inGrant) (.index i) w := by
  unfold validateUnmap
  rw [h, runBelow, decide_eq_true hr]
  refine (if_neg (not_not.mpr hs)).trans ((if_neg (by decide)).trans ?_)
  simp only [cellReads_nil, readCells_nil, hi]
  rfl

/-- With no index in a grant the entries of the run and the admission decide (R116 checks 5 and 6). -/
theorem validateUnmap_free (h : itemHolds w v o = true) (hs : (w.volume v).state = .active)
    (hr : f + c - 1 < (w.volume v).size) (hi : (runIndices f c).find? (unmapBlocked w v) = none) :
    validateUnmap v f c o [] w =
      if (entriesIn w v f c).isEmpty then answer? o 0x32 .done (.trimmed 0 0 (w.lease v).wanted) w
      else if 3072 ≤ w.admission then answer? o 0x32 (.refused .graceFull) .empty w
      else formUnmap v (entriesIn w v f c) (movingIn w v f c) o w := by
  unfold validateUnmap
  rw [h, runBelow, decide_eq_true hr]
  refine (if_neg (not_not.mpr hs)).trans ((if_neg (by decide)).trans ?_)
  simp only [cellReads_nil, readCells_nil, hi]
  rfl

end Unmap

/-- A pool whose reserved extents, n of them, have passed to grace. -/
def Pool.cancelled (n : Nat) (r : Pool) : Pool := { r with reserved := r.reserved - n, grace := r.grace + n }

/-- The state in which the grants of a list, of a volume of pool `k`, have been dropped into a forming batch. -/
def cancelAll (k : PoolId) (l : Table Grant) (s : State) : State :=
  { s with
    grants := s.grants.filter (fun e => decide (e.1 ∉ l.map Prod.fst))
    pools := putAt s.pools k ((s.pools.get k).cancelled (l.map (fun e => e.2.extents.length)).sum) }

theorem cancelAll_queue (k : PoolId) (l : Table Grant) (n : Nat) (s : State) (q : QueueId) :
    (cancelAll k l { s with promises := n }).queue q = s.queue q := by
  cases q <;> rfl

theorem cancelled_zero (r : Pool) : r.cancelled 0 = r := by
  unfold Pool.cancelled
  simp only [Nat.cast_zero, sub_zero, add_zero]

theorem cancelled_cancelled (r : Pool) (m n : Nat) : (r.cancelled m).cancelled n = r.cancelled (m + n) := by
  unfold Pool.cancelled
  simp only [Nat.cast_add, sub_sub, add_assoc]

theorem cancelAll_nil (k : PoolId) (s : State) : cancelAll k [] s = s := by
  have hg : s.grants.filter (fun e => decide (e.1 ∉ ([] : List Nat))) = s.grants :=
    List.filter_eq_self.mpr (fun _ _ => rfl)
  unfold cancelAll
  rw [List.map_nil, List.map_nil, List.sum_nil, cancelled_zero, putAt_self, hg]

/-- One grant is dropped into the batch, then the others. -/
theorem cancelAll_cons (k : PoolId) (e : Nat × Grant) (l : Table Grant) (s : State) :
    cancelAll k l ((s.freeGrant e.1).updatePool k (Pool.cancelled e.2.extents.length)) = cancelAll k (e :: l) s := by
  have hg : (Table.erase e.1 s.grants).filter (fun y => decide (y.1 ∉ l.map Prod.fst)) =
      s.grants.filter (fun y => decide (y.1 ∉ (e :: l).map Prod.fst)) := by
    rw [Table.erase, List.filter_filter, List.map_cons]
    exact List.filter_congr (fun y _ => by rw [Bool.eq_iff_iff]; simp [and_comm])
  unfold cancelAll State.updatePool State.freeGrant
  simp only [hg, putAt_putAt, putAt_get_self, cancelled_cancelled, List.map_cons, List.sum_cons]

/-- STAGED grants of one volume dropped into a forming batch: their records are FREE, their extents pass from reserved to grace
in the volume's pool and join the batch in order (R117, R136). -/
theorem foldl_cancelInto {l : Table Grant} {k : PoolId} (hn : (l.map Prod.fst).Nodup)
    (hl : ∀ e ∈ l, w.grant? e.1 = some e.2 ∧ e.2.volume = v) (hk : (w.volume v).pool = k) (x : List Extent) :
    (l.map Prod.fst).foldl (fun r n => cancelInto n r) (w, x) =
      (cancelAll k l w, x ++ l.flatMap (fun e => e.2.extents.map Prod.snd)) := by
  induction l generalizing w x with
  | nil => rw [cancelAll_nil]; simp
  | cons e l ih =>
    obtain ⟨he, hev⟩ := hl e List.mem_cons_self
    rw [List.map_cons, List.nodup_cons] at hn
    have hstep : cancelInto e.1 (w, x) =
        ((w.freeGrant e.1).updatePool k (Pool.cancelled e.2.extents.length), x ++ e.2.extents.map Prod.snd) := by
      unfold cancelInto
      simp only [he]
      rw [hev, hk]
      rfl
    have hrest : ∀ y ∈ l, ((w.freeGrant e.1).updatePool k (Pool.cancelled e.2.extents.length)).grant? y.1 = some y.2 ∧
        y.2.volume = v := fun y hy => by
      obtain ⟨hy1, hy2⟩ := hl y (List.mem_cons_of_mem _ hy)
      refine ⟨(Table.get?_erase_other _ _ _ ?_).trans hy1, hy2⟩
      intro hey
      exact hn.1 (hey ▸ List.mem_map_of_mem hy)
    rw [List.map_cons, List.foldl_cons, hstep, ih hn.2 hrest hk, cancelAll_cons, List.flatMap_cons, List.append_assoc]

/-- The STAGED relocation grants that an Unmap cancels. -/
def cancelledBy (s : State) (v f c : Nat) : Table Grant :=
  s.grants.filter (fun e => e.2.isStaged &&
    decide (e.2.kind = .relocate ∧ e.2.volume = v ∧ f ≤ e.2.first ∧ e.2.first < f + c))

theorem movingIn_eq (f c : Nat) : movingIn w v f c = (cancelledBy w v f c).map Prod.fst := rfl

theorem cancelledBy_named (hw : Table.wf w.grants = true) (f c : Nat) :
    ∀ e ∈ cancelledBy w v f c, w.grant? e.1 = some e.2 ∧ e.2.volume = v := fun e he => by
  obtain ⟨hm, hf⟩ := List.mem_filter.mp he
  rw [Bool.and_eq_true, decide_eq_true_eq] at hf
  exact ⟨Table.get?_of_mem _ _ _ hw hm, hf.2.2.1⟩

/-- The intent of an Unmap, and what its forming takes (R117). -/
theorem formUnmap_eq (hw : Table.wf w.grants = true) (f c : Nat) (held : List Nat) :
    formUnmap v held (movingIn w v f c) o w =
      formIntent (.trim held)
        ⟨.trim (cancelledBy w v f c).length, .volume v, o, o.map Origin.port, held.map (fun i => .removeEntry v i),
          some ⟨(w.volume v).pool, (cancelledBy w v f c).flatMap (fun e => e.2.extents.map Prod.snd)⟩⟩
        (cancelAll (w.volume v).pool (cancelledBy w v f c) { w with promises := w.promises + 1 }) := by
  have hf := foldl_cancelInto (w := { w with promises := w.promises + 1 }) (l := cancelledBy w v f c) (Table.wf_nodup _ (Table.wf_filter _ _ hw))
    (cancelledBy_named (v := v) hw f c) rfl []
  rw [List.nil_append] at hf
  unfold formUnmap
  dsimp only
  rw [movingIn_eq, hf, List.length_map]
  rfl

/-- The grants that are left are those that were not cancelled. -/
theorem cancelAll_grants (hw : Table.wf s.grants = true) (hg : w.grants = s.grants) (k : PoolId) (f c : Nat) :
    (cancelAll k (cancelledBy s v f c) w).grants = s.grants.filter (fun e => decide (e ∉ cancelledBy s v f c)) := by
  unfold cancelAll
  rw [hg]
  refine (Table.filter_keys _ _ hw).trans (List.filter_congr (fun e he => ?_))
  rw [Bool.eq_iff_iff, decide_eq_true_eq]
  unfold cancelledBy
  rw [List.mem_filter, Bool.not_eq_true', ← Bool.not_eq_true]
  exact ⟨fun hn hm => hn hm.2, fun hn hf => hn ⟨he, hf⟩⟩

/-! ## DeleteVolume (R22) -/

theorem validateDelete_notHolder (h : itemMayManage w v o = false) :
    validateDelete v o w = answer? o 0x21 (.refused .notHolder) .empty w := by
  unfold validateDelete
  rw [h]
  rfl

theorem validateDelete_busy (h : itemMayManage w v o = true)
    (hb : ∃ e ∈ w.grants, e.2.volume = v ∧ e.2.state = .binding) :
    validateDelete v o w = answer? o 0x21 (.refused .busyVolume) .empty w := by
  have hb' : bindingOn w v = true := by
    obtain ⟨e, he, hv, hs⟩ := hb
    exact List.any_eq_true.mpr ⟨e, he, by rw [hv, hs]; simp⟩
  unfold validateDelete
  rw [h, hb']
  rfl

/-- A volume that is DELETING, with its record (R22). -/
def markDeleting (v : Nat) (o : Option Origin) (s : State) : State :=
  s.setVolume v { s.volume v with state := .deleting, deletion := some ⟨o, .marking, false⟩ }

/-- The intent that marks a deletion. -/
def deleteMark (v : Nat) (o : Option Origin) (r : Volume) : Intent :=
  simpleIntent (.volume v) .deleteMark o (.setVolume v .deleting r.tenant r.pool r.size)

/-- A DeleteVolume that passes its checks marks its volume, refuses the requests behind it, forms its intent and reports the
change (R22). -/
theorem validateDelete_forms (h : itemMayManage w v o = true)
    (hb : ∀ e ∈ w.grants, e.2.volume = v → e.2.state ≠ .binding) :
    validateDelete v o w = reportVolume v (formIntent .deletion (deleteMark v o (w.volume v))
      (refuseBehind (w.queue (.volume v)) ((markDeleting v o w).setQueue (.volume v) .empty))) := by
  have hb' : bindingOn w v = false := by
    rw [← Bool.not_eq_true]
    intro ha
    obtain ⟨e, he, hx⟩ := List.any_eq_true.mp ha
    rw [Bool.and_eq_true, decide_eq_true_eq, decide_eq_true_eq] at hx
    exact hb e he hx.1 hx.2
  unfold validateDelete
  rw [h, hb']
  rfl

theorem refuseBehind_erase (c : ChangeQueue) (s : State) : (refuseBehind c s).erasePorts = s.erasePorts :=
  foldl_keeps State.erasePorts _ (fun b _ => answer?_erase _ _ _ _ b) _ _

theorem refuseBehind_grows (c : ChangeQueue) (s : State) : portsGrow s (refuseBehind c s) :=
  foldl_grows (fun b _ => answer?_grows _ _ _ _ b) _ _

theorem refuseBehind_mem {c : ChangeQueue} {i : Item} {b : Origin} (hi : i ∈ c.waiting) (ho : i.origin = some b)
    (hup : s.linkUp b.port = true) :
    ⟨b.tag, i.request.kind.code, .refused .volumeState, s.generation, .empty⟩ ∈
      ((refuseBehind c s).ports.get b.port).answers :=
  foldl_answers_mem (o := Item.origin) (code := fun i => i.request.kind.code) (outcome := fun _ => .refused .volumeState)
    (body := fun _ _ => .empty) (fun _ _ _ _ => rfl) hi ho hup

/-- The forming of an intent touches its queue and the log wait queue. -/
theorem formIntent_keeps {γ : Type} (g : State → γ) (flight : Flight) (i : Intent) (s : State)
    (hg : ∀ (t : State) (l : List Intent), g { t with logWait := l } = g t := by intros; rfl)
    (hq : ∀ (t : State) (q : QueueId) (c : ChangeQueue), g (t.setQueue q c) = g t := by intro t q c; cases q <;> rfl) :
    g (formIntent flight i s) = g s := by
  unfold formIntent
  exact (hg _ _).trans (hq _ _ _)

/-- Where the front is a DeleteVolume that passes its checks: the state after its validation. -/
theorem validateDelete_spec {s u : State} (hu : u = validateDelete v (some ⟨p, t⟩) (s.setQueue (.volume v) ⟨none, rest⟩))
    (hm : (s.lease v).hold.holder? = some p ∨ (s.lease v).hold.holder? = none)
    (hb : ∀ e ∈ s.grants, e.2.volume = v → e.2.state ≠ .binding) :
    (∀ x, u.volume x = if v = x then
      { s.volume v with state := .deleting, deletion := some ⟨some ⟨p, t⟩, .marking, false⟩ } else s.volume x) ∧
    forms [] .deletion (deleteMark v (some ⟨p, t⟩) (s.volume v)) s u ∧
    (∀ i ∈ rest, ∀ b, i.origin = some b → s.linkUp b.port = true →
      ⟨b.tag, i.request.kind.code, .refused .volumeState, s.generation, .empty⟩ ∈ (u.ports.get b.port).answers) ∧
    (∀ x, x ∈ u.watches ↔ x ∈ s.watches ∧ ∀ y ∈ x.items, y.volume ≠ v) ∧ portsGrow s u ∧
    u = { s with
      ports := u.ports, volumes := u.volumes, queues := u.queues, logWait := u.logWait, watches := u.watches } := by
  let a := s.setQueue (.volume v) ⟨none, rest⟩
  let b := (markDeleting v (some ⟨p, t⟩) a).setQueue (.volume v) .empty
  obtain ⟨c, hcb⟩ : ∃ c, c = refuseBehind ⟨none, rest⟩ b := ⟨_, rfl⟩
  let d := formIntent .deletion (deleteMark v (some ⟨p, t⟩) (s.volume v)) c
  have hqa : a.queue (.volume v) = ⟨none, rest⟩ := queue_setQueue_self _ _ _
  have hud : u = reportVolume v d := by
    rw [hu, validateDelete_forms (w := a) (itemMayManage_of hm) hb, hqa, ← hcb]
    rfl
  have hc : c.erasePorts = b.erasePorts := hcb ▸ refuseBehind_erase _ _
  have he : u.eraseReport = d.eraseReport := hud ▸ reportVolume_erase v d
  have hvol : ∀ x, d.volume x = if v = x then
      { s.volume v with state := .deleting, deletion := some ⟨some ⟨p, t⟩, .marking, false⟩ } else s.volume x := fun x => by
    rw [formIntent_keeps State.volume, keeps_of_erasePorts State.volume hc]
    exact volume_setVolume v x { a.volume v with
      state := .deleting, deletion := some ⟨some ⟨p, t⟩, .marking, false⟩ } a
  have hgrow : portsGrow s d := by
    have hbc : portsGrow b c := hcb ▸ refuseBehind_grows _ b
    exact fun q => portsGrow_trans hbc (portsGrow_of_ports (formIntent_keeps State.ports _ _ c)) q
  have hport : ∀ {q : Port} {x : Answer}, x ∈ (c.ports.get q).answers → x ∈ (u.ports.get q).answers := by
    intro q x hx
    rw [hud]
    refine portsGrow_mem (reportVolume_grows v d) ?_
    rw [formIntent_keeps State.ports]
    exact hx
  refine ⟨fun x => ?_, ?_, fun i hi y hy hup => ?_, fun x => ?_, ?_, ?_⟩
  · rw [keeps_of_eraseReport State.volume he]
    exact hvol x
  · have hf : forms [] .deletion (deleteMark v (some ⟨p, t⟩) (s.volume v)) s d := by
      refine formIntent_forms ?_ (fun x hx => ?_) ?_
      · rw [keeps_of_erasePorts State.queue hc]
        exact congrArg _ (queue_setQueue_self (.volume v) .empty (markDeleting v _ a))
      · rw [keeps_of_erasePorts State.queue hc]
        exact (queue_setQueue_other _ _ _ (markDeleting v _ a) (Ne.symm hx)).trans
          (queue_setQueue_other _ _ _ s (Ne.symm hx))
      · rw [keeps_of_erasePorts State.logWait hc]
        rfl
    obtain ⟨h1, h2, h3⟩ := hf
    refine ⟨?_, fun x hx => ?_, ?_⟩
    · rw [keeps_of_eraseReport State.queue he]; exact h1
    · rw [keeps_of_eraseReport State.queue he]; exact h2 x hx
    · rw [keeps_of_eraseReport State.logWait he]; exact h3
  · exact hport (hcb ▸ refuseBehind_mem (c := ⟨none, rest⟩) (s := b) hi hy hup)
  · have hdel : ∀ it : WatchExpect, it.volume = v → itemDiffers d it = true := fun it hit => by
      unfold itemDiffers
      rw [hit, hvol v, if_pos rfl]
      rfl
    have hw : d.watches = s.watches := by
      rw [formIntent_keeps State.watches, keeps_of_erasePorts State.watches hc]
      rfl
    rw [hud, reportVolume_watches, hw, List.mem_filter]
    refine and_congr_right (fun _ => ?_)
    unfold watchHit
    rw [Bool.not_eq_true', List.any_eq_false]
    refine forall₂_congr (fun y _ => ?_)
    rw [Bool.and_eq_true, decide_eq_true_eq, not_and]
    exact ⟨fun h hy => h hy (hdel y hy), fun h hy => absurd hy h⟩
  · rw [hud]
    exact portsGrow_trans hgrow (reportVolume_grows v d)
  · let g : State → State := fun x => { x with
      ports := u.ports, volumes := u.volumes, queues := u.queues, logWait := u.logWait, watches := u.watches }
    calc u = g u := rfl
      _ = g d := keeps_of_eraseReport g he
      _ = g c := rfl
      _ = g b := keeps_of_erasePorts g hc
      _ = g s := rfl

/-! ## The obligation, form by form -/

section Forms

variable {flight : Flight} {kind : IntentKind} {e : Effect} {code : Byte} {outcome : AnswerOutcome} {body : AnswerBody}

/-- The requests of a holder, or on a lease that nobody holds, that form an intent on one effect. -/
theorem validateRequest_volume_forms
    (h : (∃ te k size m, r = .createVolume v te k size m ∧ (w.volume v).state = .absent ∧ flight = .intent ∧
        kind = .volumeCreate ∧ e = .setVolume v m te k size) ∨
      ((w.lease v).hold.holder? = some p ∨ (w.lease v).hold.holder? = none) ∧
        ((∃ size, r = .resizeVolume v size ∧ kind = .volumeResize (w.volume v).size size ∧
            e = .setVolume v (w.volume v).state (w.volume v).tenant (w.volume v).pool size ∧
            (((w.volume v).size < size ∧ flight = .intent) ∨
              (size < (w.volume v).size ∧ flight = .shrink size ∧ (∀ i, size ≤ i → w.entry? v i = none) ∧
                ∀ g ∈ w.grants, g.2.volume = v → ∀ x ∈ g.2.extents, x.1 < size))) ∨
          (∃ m, r = .setVolumeMode v m ∧ (w.volume v).state ≠ m ∧ flight = .intent ∧ kind = .volumeMode m ∧
            e = .setVolume v m (w.volume v).tenant (w.volume v).pool (w.volume v).size)) ∨
      (∃ i wr x, r = .noteWritten v i wr ∧ (w.lease v).heldBy p = true ∧ (w.volume v).state = .active ∧
        i < (w.volume v).size ∧ w.entry? v i = some x ∧ x.unwritten &&& wr ≠ 0 ∧ flight = .intent ∧
        kind = .note i ∧ e = .setMask v i (x.unwritten &&& ~~~wr))) :
    validateRequest r (some ⟨p, t⟩) [] w = formIntent flight (simpleIntent (.volume v) kind (some ⟨p, t⟩) e) w := by
  rcases h with ⟨te, k, size, m, rfl, ha, rfl, rfl, rfl⟩ | ⟨hm, ⟨size, rfl, rfl, rfl, hs⟩ | ⟨m, rfl, hne, rfl, rfl, rfl⟩⟩ |
    ⟨i, wr, x, rfl, hh, ha, hi, hx, hne, rfl, rfl, rfl⟩
  · exact validateCreate_absent te k size m ha
  · rcases hs with ⟨hlt, rfl⟩ | ⟨hlt, rfl, he, hg⟩
    · exact validateResize_grow (itemMayManage_of hm) hlt
    · exact (validateResize_lower (itemMayManage_of hm) hlt).trans
        (if_neg (by rw [mappedBeyond_false he hg]; exact Bool.false_ne_true))
  · exact validateMode_switch (itemMayManage_of hm) hne
  · exact (validateNote_entry (o := some ⟨p, t⟩) hh ha hi hx).trans (if_neg hne)

/-- The requests refused since another head holds the lease. -/
theorem validateRequest_notHolder
    (h : (∃ h, (w.lease v).hold.holder? = some h ∧ h ≠ p) ∧ outcome = .refused .notHolder ∧ body = .empty ∧
      (r = .deleteVolume v ∧ code = 0x21#8 ∨ (∃ size, r = .resizeVolume v size) ∧ code = 0x22#8 ∨
        (∃ m, r = .setVolumeMode v m) ∧ code = 0x23#8)) :
    validateRequest r (some ⟨p, t⟩) [] w = answer? (some ⟨p, t⟩) code outcome body w := by
  obtain ⟨⟨h, hh, hp⟩, rfl, rfl, hr⟩ := h
  have hm : itemMayManage w v (some ⟨p, t⟩) = false := itemMayManage_other hh hp
  rcases hr with ⟨rfl, rfl⟩ | ⟨⟨size, rfl⟩, rfl⟩ | ⟨⟨m, rfl⟩, rfl⟩
  · exact validateDelete_notHolder hm
  · exact validateResize_notHolder hm
  · exact validateMode_notHolder m hm

/-- The requests that only the holder may make, from another head. -/
theorem validateRequest_notHeld
    (h : (w.lease v).heldBy p = false ∧ outcome = .refused .notHolder ∧ body = .empty ∧
      ((∃ i wr, r = .noteWritten v i wr) ∧ code = 0x31#8 ∨ (∃ f c, r = .unmap v f c) ∧ code = 0x32#8)) :
    validateRequest r (some ⟨p, t⟩) [] w = answer? (some ⟨p, t⟩) code outcome body w := by
  obtain ⟨hh, rfl, rfl, hr⟩ := h
  rcases hr with ⟨⟨i, wr, rfl⟩, rfl⟩ | ⟨⟨f, c, rfl⟩, rfl⟩
  · exact validateNote_notHolder hh
  · exact validateUnmap_notHolder hh

/-- The requests that a holder, or any head while nobody holds the lease, is answered at once. -/
theorem validateRequest_managed
    (h : ((w.lease v).hold.holder? = some p ∨ (w.lease v).hold.holder? = none) ∧
      ((r = .deleteVolume v ∧ (∃ e ∈ w.grants, e.2.volume = v ∧ e.2.state = .binding) ∧ code = 0x21#8 ∧
          outcome = .refused .busyVolume ∧ body = .empty) ∨
        (r = .resizeVolume v (w.volume v).size ∧ code = 0x22#8 ∧ outcome = .done ∧
          body = .resized (w.volume v).size (w.volume v).size) ∨
        (∃ size, r = .resizeVolume v size ∧ size < (w.volume v).size ∧
          ((∃ i x, size ≤ i ∧ w.entry? v i = some x) ∨
            ∃ g ∈ w.grants, g.2.volume = v ∧ ∃ x ∈ g.2.extents, size ≤ x.1) ∧
          code = 0x22#8 ∧ outcome = .refused .mappedBeyond ∧ body = .empty) ∨
        (r = .setVolumeMode v (w.volume v).state ∧ code = 0x23#8 ∧ outcome = .done ∧
          body = .modeSet (w.volume v).state))) :
    validateRequest r (some ⟨p, t⟩) [] w = answer? (some ⟨p, t⟩) code outcome body w := by
  obtain ⟨hm, hr⟩ := h
  have hm' : itemMayManage w v (some ⟨p, t⟩) = true := itemMayManage_of hm
  rcases hr with ⟨rfl, hb, rfl, rfl, rfl⟩ | ⟨rfl, rfl, rfl, rfl⟩ | ⟨size, rfl, hlt, hb, rfl, rfl, rfl⟩ |
    ⟨rfl, rfl, rfl, rfl⟩
  · exact validateDelete_busy hm' hb
  · exact validateResize_same hm'
  · exact (validateResize_lower hm' hlt).trans (if_pos ((mappedBeyond_iff size).mpr hb))
  · exact validateMode_same hm'

/-- A holder's NoteWritten that forms no intent. -/
theorem validateRequest_note {i : Nat} {wr : Mask} (hh : (w.lease v).heldBy p = true)
    (h : ((w.volume v).state ≠ .active ∧ outcome = .refused .volumeState ∧ body = .empty) ∨
      ((w.volume v).state = .active ∧ (w.volume v).size ≤ i ∧ outcome = .refused .range ∧ body = .empty) ∨
      ((w.volume v).state = .active ∧ i < (w.volume v).size ∧ w.entry? v i = none ∧
        outcome = .refused .notMapped ∧ body = .empty) ∨
      (∃ x, (w.volume v).state = .active ∧ i < (w.volume v).size ∧ w.entry? v i = some x ∧
        x.unwritten &&& wr = 0 ∧ outcome = .done ∧ body = .noted x.unwritten (w.lease v).wanted)) :
    validateRequest (.noteWritten v i wr) (some ⟨p, t⟩) [] w = answer? (some ⟨p, t⟩) 0x31 outcome body w := by
  rcases h with ⟨hs, rfl, rfl⟩ | ⟨hs, hi, rfl, rfl⟩ | ⟨hs, hi, he, rfl, rfl⟩ | ⟨x, hs, hi, he, hx, rfl, rfl⟩
  · exact validateNote_state hh hs
  · exact validateNote_range hh hs hi
  · exact validateNote_notMapped hh hs hi he
  · exact (validateNote_entry (o := some ⟨p, t⟩) hh hs hi he).trans (if_pos hx)

/-- A holder's Unmap that forms no intent. -/
theorem validateRequest_unmap {f c : Nat} (hh : (w.lease v).heldBy p = true)
    (h : ((w.volume v).state ≠ .active ∧ outcome = .refused .volumeState ∧ body = .empty) ∨
      ((w.volume v).state = .active ∧ (w.volume v).size ≤ f + c - 1 ∧ outcome = .refused .range ∧ body = .empty) ∨
      ((w.volume v).state = .active ∧ f + c - 1 < (w.volume v).size ∧
        ((∃ i, f ≤ i ∧ i < f + c ∧
            (∀ j, f ≤ j → j < i → w.allocationOf v j = none ∧
              ∀ n g, w.relocationOf v j = some (n, g) → g.state ≠ .binding) ∧
            (w.allocationOf v i ≠ none ∨ ∃ n g, w.relocationOf v i = some (n, g) ∧ g.state = .binding) ∧
            outcome = .refused .inGrant ∧ body = .index i) ∨
          ((∀ i, f ≤ i → i < f + c → w.allocationOf v i = none ∧
              ∀ n g, w.relocationOf v i = some (n, g) → g.state ≠ .binding) ∧
            (((∃ i e, f ≤ i ∧ i < f + c ∧ w.entry? v i = some e) ∧ 3072 ≤ w.admission ∧
                outcome = .refused .graceFull ∧ body = .empty) ∨
              ((∀ i, f ≤ i → i < f + c → w.entry? v i = none) ∧ outcome = .done ∧
                body = .trimmed 0 0 (w.lease v).wanted)))))) :
    validateRequest (.unmap v f c) (some ⟨p, t⟩) [] w = answer? (some ⟨p, t⟩) 0x32 outcome body w := by
  rcases h with ⟨hs, rfl, rfl⟩ | ⟨hs, hr, rfl, rfl⟩ |
    ⟨hs, hr, ⟨i, h1, h2, hlt, hi, rfl, rfl⟩ | ⟨hfree, ⟨⟨i, e, h1, h2, he⟩, ha, rfl, rfl⟩ | ⟨hno, rfl, rfl⟩⟩⟩
  · exact validateUnmap_state hh hs
  · exact validateUnmap_range hh hs hr
  · exact validateUnmap_inGrant hh hs hr (find?_runIndices_some h1 h2 (unmapBlocked_of hi)
      (fun j hj hji => (unmapBlocked_false_iff j).mpr (hlt j hj hji)))
  · have hf := (find?_runIndices_none f c).mpr (fun i h1 h2 => (unmapBlocked_false_iff i).mpr (hfree i h1 h2))
    have hmem : i ∈ entriesIn w v f c := (mem_entriesIn f c i).mpr ⟨h1, h2, by rw [he]; exact Option.some_ne_none e⟩
    refine (validateUnmap_free (o := some ⟨p, t⟩) hh hs hr hf).trans ((if_neg ?_).trans (if_pos ha))
    rw [List.isEmpty_iff]
    exact List.ne_nil_of_mem hmem
  · have hf := (find?_runIndices_none f c).mpr (fun i h1 h2 => (unmapBlocked_false_iff i).mpr (hfree i h1 h2))
    refine (validateUnmap_free (o := some ⟨p, t⟩) hh hs hr hf).trans (if_pos ?_)
    rw [List.isEmpty_iff, List.eq_nil_iff_forall_not_mem]
    intro i hi
    obtain ⟨h1, h2, he⟩ := (mem_entriesIn f c i).mp hi
    exact he (hno i h1 h2)

end Forms

theorem validateBind_forms {n : Nat} {adv : Bool} {wr : List Mask} {g : Grant} (hg : w.grant? n = some g) :
    validateBind v n adv wr o w = formIntent .intent ⟨.bind n adv, .volume v, o, o.map Origin.port,
      (g.extents.zip wr).map (fun e => .setEntry v e.1.1 e.1.2 (~~~e.2)), none⟩ w := by
  unfold validateBind
  rw [hg]
  rfl

theorem validateMove_forms {n : Nat} {f : Forming} {g : Grant} (hg : w.grant? n = some g) :
    validateMove v n f o w = formIntent .intent ⟨.move n, .volume v, o, some g.owner,
      g.extents.map (fun e => .setPlacement v e.1 e.2), some f⟩ w := by
  unfold validateMove
  rw [hg]
  rfl

/-- An Unmap that is granted admission (R117): its intent, the grants it cancels and what they return. -/
theorem exec_validate_unmap_forms {f c : Nat} (hd : due? s = some (.front (.volume v)))
    (hq : s.queue (.volume v) = ⟨none, ⟨.unmap v f c, some ⟨p, t⟩⟩ :: rest⟩) (htab : tablesLaw s)
    (hh : (s.lease v).heldBy p = true) (hs : (s.volume v).state = .active) (hr : f + c - 1 < (s.volume v).size)
    (hfree : ∀ i, f ≤ i → i < f + c → s.allocationOf v i = none ∧
      ∀ n g, s.relocationOf v i = some (n, g) → g.state ≠ .binding)
    (he : ∃ i e, f ≤ i ∧ i < f + c ∧ s.entry? v i = some e) (ha : s.admission < 3072) :
    exec (.validate (.volume v) []) s = .next (formIntent (.trim (entriesIn s v f c))
      ⟨.trim (cancelledBy s v f c).length, .volume v, some ⟨p, t⟩, some p,
        (entriesIn s v f c).map (fun i => .removeEntry v i),
        some ⟨(s.volume v).pool, (cancelledBy s v f c).flatMap (fun e => e.2.extents.map Prod.snd)⟩⟩
      (cancelAll (s.volume v).pool (cancelledBy s v f c)
        { s.setQueue (.volume v) ⟨none, rest⟩ with promises := s.promises + 1 })) := by
  rw [exec_validate_volume hd hq]
  have hf : (runIndices f c).find? (unmapBlocked s v) = none :=
    (find?_runIndices_none f c).mpr (fun i h1 h2 => (unmapBlocked_false_iff i).mpr (hfree i h1 h2))
  have hne : (entriesIn s v f c).isEmpty ≠ true := by
    obtain ⟨i, e, h1, h2, he⟩ := he
    rw [ne_eq, List.isEmpty_iff]
    exact List.ne_nil_of_mem ((mem_entriesIn f c i).mpr ⟨h1, h2, by rw [he]; exact Option.some_ne_none e⟩)
  refine congrArg _ ((validateUnmap_free (o := some ⟨p, t⟩) (w := s.setQueue (.volume v) ⟨none, rest⟩) hh hs hr hf).trans
    ((if_neg hne).trans ((if_neg (Nat.not_le.mpr ha)).trans ?_)))
  exact formUnmap_eq (w := s.setQueue (.volume v) ⟨none, rest⟩) (grants_wf (w := s) htab) f c _

/-- Settles O56, request by request: the item is taken from the queue, and its validation forms the intent or answers. -/
theorem validateVolumeRequests : Obligations.ValidateVolumeRequests := by
  intro r v o rest s hd hq
  refine ⟨fun n adv wr g hr hg => ?_, fun n f g hr hg => ?_, fun p t ho hup => ⟨fun flight kind e h => ?_,
    fun code outcome body h => ?_, fun hr hm hb => ?_, fun f c hr htab hh hs hrun hfree he ha => ?_⟩⟩
  · subst hr
    exact exec_validate_volume_forms hd hq rfl (validateBind_forms (w := s.setQueue (.volume v) ⟨none, rest⟩) hg)
  · subst hr
    exact exec_validate_volume_forms hd hq rfl (validateMove_forms (w := s.setQueue (.volume v) ⟨none, rest⟩) hg)
  · subst ho
    exact exec_validate_volume_forms hd hq rfl
      (validateRequest_volume_forms (w := s.setQueue (.volume v) ⟨none, rest⟩) h)
  · subst ho
    refine exec_validate_volume_answers hd hq rfl hup ?_
    rcases h with ⟨te, k, size, m, rfl, hs, rfl, rfl, rfl⟩ | h | h | h | ⟨hh, ⟨i, wr, rfl, rfl, h⟩ | ⟨f, c, rfl, rfl, h⟩⟩
    · exact validateCreate_exists (w := s.setQueue (.volume v) ⟨none, rest⟩) te k size m hs
    · exact validateRequest_notHolder (w := s.setQueue (.volume v) ⟨none, rest⟩) h
    · exact validateRequest_notHeld (w := s.setQueue (.volume v) ⟨none, rest⟩) h
    · exact validateRequest_managed (w := s.setQueue (.volume v) ⟨none, rest⟩) h
    · exact validateRequest_note (w := s.setQueue (.volume v) ⟨none, rest⟩) hh h
    · exact validateRequest_unmap (w := s.setQueue (.volume v) ⟨none, rest⟩) hh h
  · subst hr ho
    obtain ⟨hvol, hf, hans, hw, hg, hu⟩ := validateDelete_spec (v := v) (rest := rest) rfl hm hb
    exact ⟨_, exec_validate_volume hd hq, (hvol v).trans (if_pos rfl), fun x hx => (hvol x).trans (if_neg (Ne.symm hx)),
      hf, hans, hw, hg, hu⟩
  · subst hr ho
    refine ⟨_, entriesIn s v f c, cancelledBy s v f c, exec_validate_unmap_forms hd hq htab hh hs hrun hfree he ha,
      mem_entriesIn f c, entriesIn_pairwise htab f c, rfl, (formIntent_keeps State.grants _ _ _).trans (cancelAll_grants (grants_wf htab) rfl (s.volume v).pool f c),
      formIntent_keeps State.promises _ _ _, formIntent_forms ?_ ?_ ?_, ?_, ?_, fun k hk => ?_, ?_⟩
    · rw [cancelAll_queue, queue_setQueue_self]
    · exact fun x hx => (cancelAll_queue _ _ _ _ x).trans (otherQueues_setQueue (.volume v) ⟨none, rest⟩ s x hx)
    · rfl
    · exact congrArg Pool.reserved (putAt_get_self _ _ _)
    · exact congrArg Pool.grace (putAt_get_self _ _ _)
    · exact putAt_get_other _ _ _ _ (Ne.symm hk)
    · unfold formIntent cancelAll
      rfl

end Sys2Proof.Machine
end

section
/-! PROOFS. The loss of a link: the waiter queues, the change queues, the log and the deletions, without the port (R151, R178). -/

namespace Sys2Proof.Machine

open State

variable {p : Port} {s : State}

/-! ## The waiter queues without a port -/

/-- A recall that no waiter marks is withdrawn (R82). -/
def Hold.unlessMarked (h : Hold) (marked : Bool) : Hold :=
  match h with
  | .recalling p n => if marked then .recalling p n else .held p
  | .free => .free
  | .held p => .held p
  | .orphaned => .orphaned

/-- The waiters of a record other than a port. -/
def Lease.othersThan (l : Lease) (p : Port) : List Waiter := l.waiters.filter (fun w => decide (w.port ≠ p))

/-- A lease record without one waiter. -/
def Lease.without (l : Lease) (p : Port) : Lease :=
  ⟨l.hold.unlessMarked ((l.othersThan p).any Waiter.marked), l.epoch, l.othersThan p⟩

theorem unlessMarked_holder? (h : Hold) (m : Bool) : (h.unlessMarked m).holder? = h.holder? := by
  cases h with
  | recalling p n => cases m <;> rfl
  | free => rfl
  | held p => rfl
  | orphaned => rfl

theorem unlessMarked_isRecalling (h : Hold) (m : Bool) : (h.unlessMarked m).isRecalling = (h.isRecalling && m) := by
  cases h with
  | recalling p n => cases m <;> rfl
  | free => rfl
  | held p => rfl
  | orphaned => rfl

theorem unlessMarked_same {h : Hold} {m : Bool} (hm : h.isRecalling = m) : h.unlessMarked m = h := by
  subst hm
  cases h <;> rfl

theorem without_without (l : Lease) (p : Port) : (l.without p).without p = l.without p := by
  have ho : (l.without p).othersThan p = l.othersThan p := by
    unfold Lease.without Lease.othersThan
    rw [List.filter_filter]
    exact List.filter_congr (fun w _ => by simp)
  unfold Lease.without at ho ⊢
  rw [ho]
  cases hh : l.hold with
  | recalling q n => cases hm : (l.othersThan p).any Waiter.marked <;> rfl
  | free => rfl
  | held q => rfl
  | orphaned => rfl

/-- A lawful record that a port does not wait for is the same without the port. -/
theorem without_same {l : Lease} (hl : l.lawful) (hp : ∀ w ∈ l.waiters, w.port ≠ p) : l.without p = l := by
  obtain ⟨-, -, -, hr⟩ := hl
  have ho : l.othersThan p = l.waiters := List.filter_eq_self.mpr (fun w hw => decide_eq_true (hp w hw))
  unfold Lease.without
  rw [ho, unlessMarked_same hr]

/-- A lawful record stays RECALLING exactly while a waiter carries a mark. -/
theorem without_isRecalling {l : Lease} (hl : l.lawful) (p : Port) :
    (l.without p).hold.isRecalling = (l.othersThan p).any Waiter.marked := by
  obtain ⟨-, -, -, hr⟩ := hl
  refine (unlessMarked_isRecalling _ _).trans ?_
  rw [hr, Bool.and_eq_right_iff_imp]
  intro h
  obtain ⟨w, hw, hm⟩ := List.any_eq_true.mp h
  exact List.any_eq_true.mpr ⟨w, List.mem_of_mem_filter hw, hm⟩

/-- A waiter that leaves: its record is without it, and a holder may be told. -/
theorem departWaiter_eq (p : Port) (v : Nat) (s : State) :
    departWaiter p v s = s.setLease v ((s.lease v).without p) ∨
    ∃ h, (s.lease v).hold.holder? = some h ∧ (s.lease v).othersThan p ≠ [] ∧
      departWaiter p v s = addNotice h (.leaseWanted v false) (s.setLease v ((s.lease v).without p)) := by
  unfold departWaiter Lease.without
  obtain ⟨l, hl⟩ : ∃ l, s.lease v = l := ⟨_, rfl⟩
  rw [hl]
  obtain ⟨hold, epoch, waiters⟩ := l
  cases hold with
  | recalling h n =>
    dsimp only [Lease.othersThan, Hold.unlessMarked]
    split
    · exact Or.inl rfl
    · split
      · exact Or.inl rfl
      · rename_i hn
        exact Or.inr ⟨h, rfl, fun he => hn (List.isEmpty_iff.mpr he), rfl⟩
  | free => exact Or.inl rfl
  | held h => exact Or.inl rfl
  | orphaned => exact Or.inl rfl

theorem departWaiter_lease (p : Port) (v w : Nat) (s : State) :
    (departWaiter p v s).lease w = if v = w then (s.lease v).without p else s.lease w := by
  rcases departWaiter_eq p v s with h | ⟨q, -, -, h⟩
  · rw [h, lease_setLease]
  · rw [h, keeps_of_erasePorts State.lease (addNotice_erase _ _ _), lease_setLease]

theorem departWaiter_grows (p : Port) (v : Nat) (s : State) : portsGrow s (departWaiter p v s) := by
  rcases departWaiter_eq p v s with h | ⟨q, -, -, h⟩
  · rw [h]; exact portsGrow_of_ports rfl
  · rw [h]; exact portsGrow_trans (portsGrow_of_ports (u := s.setLease v ((s.lease v).without p)) rfl) (addNotice_grows _ _ _)

theorem addNotice_answers (p q : Port) (n : Notice) (s : State) :
    ((addNotice p n s).ports.get q).answers = (s.ports.get q).answers := by
  unfold addNotice
  split
  · rw [updatePort_ports, putAt_get]
    split
    · subst_vars; rfl
    · rfl
  · rfl

theorem addNotice_other {p q : Port} (h : p ≠ q) (n : Notice) (s : State) :
    (addNotice p n s).ports.get q = s.ports.get q := by
  unfold addNotice
  split
  · rw [updatePort_ports, putAt_get_other _ _ _ _ h]
  · rfl

theorem departWaiter_watches (p : Port) (v : Nat) (s : State) : (departWaiter p v s).watches = s.watches := by
  rcases departWaiter_eq p v s with h | ⟨q, -, -, h⟩
  · rw [h]; rfl
  · rw [h, keeps_of_erasePorts State.watches (addNotice_erase _ _ _)]; rfl

theorem departWaiter_answers (p q : Port) (v : Nat) (s : State) :
    ((departWaiter p v s).ports.get q).answers = (s.ports.get q).answers := by
  rcases departWaiter_eq p v s with h | ⟨r, -, -, h⟩
  · rw [h]; rfl
  · rw [h, addNotice_answers]; rfl

/-- A waiter is not told of its own departure: it does not hold the lease. -/
theorem departWaiter_own {p : Port} {v : Nat} (hh : (s.lease v).hold.holder? ≠ some p) :
    (departWaiter p v s).ports.get p = s.ports.get p := by
  rcases departWaiter_eq p v s with h | ⟨q, hq, -, h⟩
  · rw [h]; rfl
  · have hqp : q ≠ p := fun e => hh (e ▸ hq)
    rw [h, addNotice_other hqp]; rfl

/-- The records of every volume that is named are without the port. -/
theorem foldl_departWaiter_lease (p : Port) (l : List (Nat × Tag)) (v : Nat) (s : State) :
    (l.foldl (fun s c => departWaiter p c.1 s) s).lease v =
      if v ∈ l.map Prod.fst then (s.lease v).without p else s.lease v := by
  induction l generalizing s with
  | nil => rfl
  | cons c l ih =>
    rw [List.foldl_cons, ih, departWaiter_lease]
    by_cases hv : c.1 = v
    · subst hv
      simp [without_without]
    · simp [hv, Ne.symm hv]

theorem foldl_departWaiter_answers (p q : Port) (l : List (Nat × Tag)) (s : State) :
    ((l.foldl (fun s c => departWaiter p c.1 s) s).ports.get q).answers = (s.ports.get q).answers :=
  foldl_keeps (fun s => (s.ports.get q).answers) _ (fun b _ => departWaiter_answers _ _ _ b) _ _

theorem foldl_departWaiter_own {p : Port} {l : List (Nat × Tag)}
    (h : ∀ c ∈ l, (s.lease c.1).hold.holder? ≠ some p) :
    (l.foldl (fun s c => departWaiter p c.1 s) s).ports.get p = s.ports.get p := by
  induction l generalizing s with
  | nil => rfl
  | cons c l ih =>
    rw [List.foldl_cons, ih, departWaiter_own (h c List.mem_cons_self)]
    intro d hd
    have := h d (List.mem_cons_of_mem _ hd)
    rw [departWaiter_lease]
    split
    · rename_i e
      rw [← e] at this
      unfold Lease.without
      rwa [unlessMarked_holder?]
    · exact this

/-- A volume is among the waiting Claims of a port exactly when the port waits for its lease. -/
theorem mem_waitingClaims (hw : Table.wf s.leases = true) (p : Port) (v : Nat) :
    v ∈ (waitingClaims s p).map Prod.fst ↔ ∃ w ∈ (s.lease v).waiters, w.port = p := by
  unfold waitingClaims
  constructor
  · intro h
    obtain ⟨c, hc, rfl⟩ := List.mem_map.mp h
    obtain ⟨e, he, hce⟩ := List.mem_flatMap.mp hc
    obtain ⟨w, hwm, rfl⟩ := List.mem_map.mp hce
    obtain ⟨hwe, hwp⟩ := List.mem_filter.mp hwm
    have hl : s.lease e.1 = e.2 := congrArg (fun x => Option.getD x Lease.fresh) (Table.get?_of_mem s.leases e.1 e.2 hw he)
    exact ⟨w, hl ▸ hwe, of_decide_eq_true hwp⟩
  · rintro ⟨w, hwm, hwp⟩
    have hg : ∃ l, Table.get? s.leases v = some l := by
      cases hg : Table.get? s.leases v with
      | some l => exact ⟨l, rfl⟩
      | none =>
        have hl : s.lease v = .fresh := congrArg (fun x => Option.getD x Lease.fresh) hg
        rw [hl] at hwm
        cases hwm
    obtain ⟨l, hg⟩ := hg
    have hl : s.lease v = l := congrArg (fun x => Option.getD x Lease.fresh) hg
    refine List.mem_map.mpr ⟨(v, w.tag), List.mem_flatMap.mpr ⟨(v, l), Table.mem_of_get? _ _ _ hg, ?_⟩, rfl⟩
    exact List.mem_map.mpr ⟨w, List.mem_filter.mpr ⟨hl ▸ hwm, decide_eq_true hwp⟩, rfl⟩

/-- After a port has left every waiter queue, each lawful record is without it. -/
theorem departAll_lease (hw : Table.wf s.leases = true) (hl : leaseLaw s) (p : Port) (v : Nat) :
    (departAll p s).lease v = (s.lease v).without p := by
  unfold departAll
  rw [foldl_departWaiter_lease]
  split
  · rfl
  · rename_i h
    rw [mem_waitingClaims hw] at h
    exact (without_same (hl v) (fun w hwm e => h ⟨w, hwm, e⟩)).symm

theorem departAll_grows (p : Port) (s : State) : portsGrow s (departAll p s) :=
  foldl_grows (fun b _ => departWaiter_grows _ _ b) _ _

theorem departAll_watches (p : Port) (s : State) : (departAll p s).watches = s.watches :=
  foldl_keeps State.watches _ (fun b _ => departWaiter_watches _ _ b) _ _

theorem departAll_answers (p q : Port) (s : State) :
    ((departAll p s).ports.get q).answers = (s.ports.get q).answers := foldl_departWaiter_answers _ _ _ _

/-- A port that waits nowhere as holder is not told of its own departures. -/
theorem departAll_own (hw : Table.wf s.leases = true) (hl : leaseLaw s) (p : Port) :
    (departAll p s).ports.get p = s.ports.get p := by
  refine foldl_departWaiter_own (fun c hc => ?_)
  obtain ⟨w, hwm, hwp⟩ := (mem_waitingClaims hw p c.1).mp (List.mem_map_of_mem hc)
  obtain ⟨-, hne, -, -⟩ := hl c.1
  exact hwp ▸ hne w hwm

/-! ## The queues, the log and the deletions without a port -/

/-- A write of each queue that is listed, read back. -/
theorem foldl_setQueue_queue (f : ChangeQueue → ChangeQueue) {l : Table ChangeQueue} (hl : (l.map Prod.fst).Nodup) (v : Nat)
    (s : State) :
    (l.foldl (fun s e => s.setQueue (.volume e.1) (f e.2)) s).queue (.volume v) =
      ((Table.get? l v).map f).getD (s.queue (.volume v)) := by
  induction l generalizing s with
  | nil => rfl
  | cons e l ih =>
    obtain ⟨k, c⟩ := e
    obtain ⟨hk, hl⟩ := List.nodup_cons.mp hl
    rw [List.foldl_cons, ih hl]
    by_cases h : k = v
    · subst h
      have hn : Table.get? l k = none := by
        by_contra hc
        obtain ⟨a, ha⟩ := (Table.get?_ne_none_iff l k).mp hc
        exact hk (List.mem_map.mpr ⟨(k, a), ha, rfl⟩)
      simp [hn, Table.get?]
    · have hne : QueueId.volume k ≠ .volume v := fun e => h (QueueId.volume.inj e)
      rw [queue_setQueue_other _ _ _ _ hne]
      simp [Table.get?, h]

/-- The write of volume queues touches these queues. -/
theorem foldl_setQueue_touches (f : ChangeQueue → ChangeQueue) (l : Table ChangeQueue) (s : State) :
    { l.foldl (fun s e => s.setQueue (.volume e.1) (f e.2)) s with queues := [] } = { s with queues := [] } :=
  foldl_keeps (fun s : State => { s with queues := [] }) (fun (s : State) (e : Nat × ChangeQueue) => s.setQueue (.volume e.1) (f e.2))
    (fun _ _ => rfl) _ _

theorem foldl_setQueue_keeps {γ : Type} (g : State → γ) (f : ChangeQueue → ChangeQueue) (l : Table ChangeQueue) (s : State)
    (hg : ∀ t : State, g { t with queues := [] } = g t := by intro; rfl) :
    g (l.foldl (fun s e => s.setQueue (.volume e.1) (f e.2)) s) = g s := by
  rw [← hg, foldl_setQueue_touches, hg]

theorem stripWork_queue (hw : Table.wf s.queues = true) (p : Port) (q : QueueId) :
    (stripWork p s).queue q = stripQueue p (s.queue q) := by
  cases q with
  | shelf => rfl
  | volume v =>
    refine (foldl_setQueue_queue (stripQueue p) (Table.wf_nodup _ hw) v s).trans ?_
    show _ = stripQueue p ((Table.get? s.queues v).getD .empty)
    cases h : Table.get? s.queues v with
    | some c => rfl
    | none => exact congrArg (fun x => Option.getD x ChangeQueue.empty) h

theorem stripWork_volume (p : Port) (v : Nat) (s : State) :
    (stripWork p s).volume v = { s.volume v with deletion := (s.volume v).deletion.map (stripDeletion p) } := by
  refine (congrArg (fun x => Option.getD x Volume.absent) (Table.get?_map
    (fun r : Volume => { r with deletion := r.deletion.map (stripDeletion p) }) s.volumes v)).trans ?_
  unfold State.volume Table.getD
  cases Table.get? s.volumes v <;> rfl

/-- What the strip of queues, log and deletions leaves as it was. -/
theorem stripWork_keeps {γ : Type} (g : State → γ) (p : Port) (s : State)
    (hg : ∀ (t : State) q h w l v, g { t with queues := q, shelf := h, logWait := w, log := l, volumes := v } = g t := by
      intros; rfl) :
    g (stripWork p s) = g s := by
  unfold stripWork
  refine (hg (s.queues.foldl (fun s e => s.setQueue (.volume e.1) (stripQueue p e.2)) s) _ _ _ _ _).trans ?_
  exact foldl_setQueue_keeps g _ _ _ (fun t => hg t _ _ _ _ _)

/-! ## The obligation -/

theorem stripItem_eq (p : Port) (i : Item) : stripItem p i =
    if i.origin.map Origin.port ≠ some p then some i
    else if i.request.kind = .bind ∨ i.request.kind = .completeRelocate then some ⟨i.request, none⟩ else none := by
  have hc : i.request.carried = true ↔ i.request.kind = .bind ∨ i.request.kind = .completeRelocate := by
    cases i.request <;> simp [Request.carried, Request.kind]
  unfold stripItem ofPort
  by_cases h : i.origin.map Origin.port = some p
  · simp only [h, hc]
    simp
  · simp [h]

theorem stripIntent_eq (p : Port) (i : Intent) :
    stripIntent p i = if i.origin.map Origin.port = some p then { i with origin := none } else i := by
  unfold stripIntent ofPort
  simp only [decide_eq_true_eq]

theorem stripDeletion_eq (p : Port) (d : Deletion) :
    stripDeletion p d = if d.requester.map Origin.port = some p then { d with requester := none } else d := by
  unfold stripDeletion ofPort
  simp only [decide_eq_true_eq]

/-- The lost port keeps nothing but one INVALIDATE_ALL of a JOINED head (R177, R178). -/
theorem addNotice_down (h : s.ports.get p = .down) (g : Gen) : (addNotice p (.invalidateAll g) s).ports.get p =
    { HeadPort.down with notices := if s.joined p = true then [.invalidateAll g] else [] } := by
  unfold addNotice
  split
  · rw [updatePort_ports, putAt_get_self, h]
    rfl
  · exact h

/-- Settles O54: the three parts of the loss, one after the other, each by what it writes. -/
theorem linkDownLosesPort : Obligations.LinkDownLosesPort := by
  intro p s hset ht hl hup
  obtain ⟨-, -, -, -, -, hleases, hqueues, -⟩ := ht
  have wfOf {α : Type} [DecidableEq α] {d : α} {t : Table α} (h : Table.wfD d t = true) : Table.wf t = true :=
    (Bool.and_eq_true_iff.mp h).1
  let a := s.updatePort p HeadPort.lostLink
  obtain ⟨b, hb⟩ : ∃ b, b = stripWork p a := ⟨_, rfl⟩
  obtain ⟨c, hc⟩ : ∃ c, c = departAll p b := ⟨_, rfl⟩
  let d : State := { c with watches := c.watches.filter (fun w => decide (w.port ≠ p)) }
  let u := addNotice p (.invalidateAll c.generation) d
  have hexec : exec (.linkDown p) s = .next u := by
    rw [show exec (.linkDown p) s = event (fun s => if s.linkUp p then loseLink p s else s) s from rfl,
      event_settled _ hset, if_pos hup]
    unfold loseLink
    rw [← hb, ← hc]
  have hu : u.erasePorts = d.erasePorts := addNotice_erase _ _ _
  have hce : c.eraseLease = b.eraseLease := hc ▸ departAll_erase p b
  have fromC {γ : Type} (g : State → γ) (hg : ∀ t : State, g t.eraseLease = g t := by intro; rfl) : g c = g b := by
    rw [← hg c, hce, hg]
  have hbl : b.leases = s.leases := hb ▸ stripWork_keeps State.leases p a
  have hlb : leaseLaw b := fun v => by rw [State.lease, hbl]; exact hl v
  have hwb : Table.wf b.leases = true := hbl ▸ wfOf hleases
  have hbp : b.ports = a.ports := hb ▸ stripWork_keeps State.ports p a
  have hgen : c.generation = s.generation := (fromC State.generation).trans (hb ▸ stripWork_keeps State.generation p a)
  have hjoin : d.joined p = s.joined p :=
    (fromC (State.joined · p)).trans (hb ▸ stripWork_keeps (State.joined · p) p a)
  have hlease : ∀ v, u.lease v = (s.lease v).without p := fun v => by
    rw [keeps_of_erasePorts State.lease hu]
    show c.lease v = _
    rw [hc, departAll_lease hwb hlb, State.lease, hbl]
    rfl
  refine ⟨u, hexec, ?_, fun v => ?_, ?_, fun q => ?_, ?_, ?_, fun v => ?_, fun q hq => ?_, ?_⟩
  · have hd : d.ports.get p = .down := by
      show c.ports.get p = _
      rw [hc, departAll_own hwb hlb, hbp, updatePort_ports, putAt_get_self]
      rfl
    rw [← hjoin, ← hgen]
    exact addNotice_down hd _
  · rw [hlease]
    exact ⟨unlessMarked_holder? _ _, rfl, rfl, without_isRecalling (hl v) p⟩
  · rw [keeps_of_erasePorts State.watches hu]
    have hw : c.watches = s.watches := by
      rw [hc, departAll_watches, hb, stripWork_keeps State.watches]
      rfl
    show c.watches.filter _ = _
    rw [hw]
  · rw [keeps_of_erasePorts State.queue hu, show d.queue q = c.queue q by cases q <;> rfl, fromC State.queue, hb,
      stripWork_queue (s := a) (wfOf hqueues)]
    refine ⟨by cases q <;> rfl, ?_⟩
    show (s.queue q).waiting.filterMap (stripItem p) = _
    exact congrArg (List.filterMap · _) (funext (stripItem_eq p))
  · rw [keeps_of_erasePorts State.logWait hu]
    show c.logWait = _
    rw [fromC State.logWait, hb]
    exact congrArg (List.map · s.logWait) (funext (stripIntent_eq p))
  · rw [keeps_of_erasePorts State.log hu]
    show c.log = _
    rw [fromC State.log, hb]
    refine congrArg (List.map · s.log) (funext fun l => ?_)
    rw [stripIntent_eq]
    split <;> rfl
  · rw [keeps_of_erasePorts State.volume hu]
    show c.volume v = _
    rw [fromC State.volume, hb, stripWork_volume]
    exact congrArg (fun f => { s.volume v with deletion := (s.volume v).deletion.map f }) (funext (stripDeletion_eq p))
  · have hgd : portsGrow b u := by
      have hbc : portsGrow b c := hc ▸ departAll_grows p b
      exact fun r => portsGrow_trans hbc (addNotice_grows p (.invalidateAll c.generation) d) r
    have hs : b.ports.get q = s.ports.get q := by
      rw [hbp, updatePort_ports, putAt_get_other _ _ _ _ (Ne.symm hq)]
    refine ⟨hs ▸ hgd q, ?_⟩
    rw [addNotice_answers]
    show (c.ports.get q).answers = _
    rw [hc, departAll_answers, hs]
  · let g : State → State := fun x => { x with
      ports := u.ports, leases := u.leases, watches := u.watches, queues := u.queues, shelf := u.shelf,
      logWait := u.logWait, log := u.log, volumes := u.volumes }
    calc u = g u := rfl
      _ = g d := keeps_of_erasePorts g hu
      _ = g c := rfl
      _ = g b := fromC g
      _ = g a := hb ▸ stripWork_keeps g p a
      _ = g s := rfl

end Sys2Proof.Machine
end

section
/-! PROOFS. What a release of batches does: the free sets, the counts of a pool and its level, the deletions that it serves, and
what the other forms of a batch's formation leave as it was (R111 to R114). -/

namespace Sys2Proof.Machine

open State

variable {s u : State}

/-- What reads none of the fields that an erasure drops is kept. -/
theorem keeps_of_erase {γ : Type} {e : State → State} (g : State → γ) (h : e u = e s) (hg : ∀ t : State, g (e t) = g t) :
    g u = g s := by
  rw [← hg u, h, hg]

/-- A step behind one that keeps the ports. -/
theorem portsGrow_after {b : State} (h : portsGrow b u) (hb : b.ports = s.ports) : portsGrow s u :=
  portsGrow_trans (portsGrow_of_ports hb) h

/-! ## Free sets that gain a member -/

namespace FreeSet

/-- The gap before a first run is the only thing that the rest of a free set asks of it. -/
theorem wf_cons (lo hi : Nat) (t : FreeSet) :
    wf ((lo, hi) :: t) = true ↔ lo ≤ hi ∧ (∀ r ∈ t.head?, hi + 1 < r.1) ∧ wf t = true := by
  cases t with
  | nil => simp [wf]
  | cons r t => obtain ⟨lo', hi'⟩ := r; simp [wf, and_assoc]

theorem head?_insert (i : Nat) (f : FreeSet) : ∀ r ∈ (insert i f).head?, r.1 = i ∨ ∃ x ∈ f.head?, r.1 = x.1 := by
  cases f with
  | nil => simp [insert]
  | cons x t =>
    obtain ⟨lo, hi⟩ := x
    unfold insert
    split_ifs with h1 h2 h3 h4
    · simp
    · simp
    · simp
    · cases t with
      | nil => simp
      | cons y t' => obtain ⟨lo', hi'⟩ := y; dsimp only; split <;> simp
    · simp

theorem wf_insert (i : Nat) (f : FreeSet) (h : wf f = true) : wf (insert i f) = true := by
  induction f with
  | nil => simp [insert, wf]
  | cons x t ih =>
    obtain ⟨lo, hi⟩ := x
    have hw := h
    rw [wf_cons] at h
    obtain ⟨hle, hgap, ht⟩ := h
    unfold insert
    split_ifs with h1 h2 h3 h4
    · rw [wf_cons]
      exact ⟨Nat.le_refl i, by simpa using h1, hw⟩
    · rw [wf_cons]
      exact ⟨by omega, hgap, ht⟩
    · exact hw
    · cases t with
      | nil => simp [wf]; omega
      | cons y t' =>
        obtain ⟨lo', hi'⟩ := y
        have hlt : hi + 1 < lo' := hgap (lo', hi') rfl
        have htc := ht
        rw [wf_cons] at ht
        obtain ⟨hle', hgap', ht'⟩ := ht
        dsimp only
        split_ifs with h5
        · rw [wf_cons]
          exact ⟨by omega, hgap', ht'⟩
        · rw [wf_cons]
          exact ⟨by omega, fun r hr => by cases hr; simp only; omega, htc⟩
    · rw [wf_cons]
      refine ⟨hle, fun r hr => ?_, ih ht⟩
      rcases head?_insert i t r hr with he | ⟨y, hy, he⟩
      · rw [he]; omega
      · rw [he]; exact hgap y hy

theorem mem_cons (j lo hi : Nat) (t : FreeSet) :
    mem j ((lo, hi) :: t) = true ↔ (lo ≤ j ∧ j ≤ hi) ∨ mem j t = true := by
  simp [mem]

/-- A free set in canonical form gains the index alone. -/
theorem mem_insert (i j : Nat) (f : FreeSet) (h : wf f = true) :
    mem j (insert i f) = true ↔ mem j f = true ∨ j = i := by
  induction f with
  | nil => simp [insert, mem]; omega
  | cons x t ih =>
    obtain ⟨lo, hi⟩ := x
    rw [wf_cons] at h
    obtain ⟨hle, hgap, ht⟩ := h
    unfold insert
    split_ifs with h1 h2 h3 h4
    · grind [mem_cons]
    · grind [mem_cons]
    · grind [mem_cons]
    · cases t with
      | nil => grind [mem_cons]
      | cons y t' =>
        obtain ⟨lo', hi'⟩ := y
        have hlt : hi + 1 < lo' := hgap (lo', hi') rfl
        have hle' : lo' ≤ hi' := ((wf_cons lo' hi' t').mp ht).1
        dsimp only
        split_ifs with h5
        · grind [mem_cons]
        · grind [mem_cons]
    · rw [mem_cons, mem_cons, ih ht, or_assoc]

end FreeSet

/-! ## The spans of returned extents -/

theorem returnExtent_get (e : Extent) (spans : Vector Span 16) (n : SpanId) :
    (returnExtent e spans).get n = if e.span = n then
      { spans.get n with free := FreeSet.insert e.index (spans.get n).free, freeCount := (spans.get n).freeCount + 1 }
    else spans.get n := by
  unfold returnExtent
  rw [putAt_get]
  split
  · subst_vars; rfl
  · rfl

theorem returned_freeCount (l : List Extent) (spans : Vector Span 16) (n : SpanId) :
    ((l.foldl (fun sp e => returnExtent e sp) spans).get n).freeCount =
      (spans.get n).freeCount + (l.filter (fun e => decide (e.span = n))).length := by
  induction l generalizing spans with
  | nil => rfl
  | cons e l ih =>
    rw [List.foldl_cons, ih, returnExtent_get, List.filter_cons]
    by_cases h : e.span = n
    · simp only [h, if_true, decide_true, List.length_cons]
      omega
    · simp [h]

theorem returned_free (l : List Extent) (spans : Vector Span 16) (n : SpanId) (i : Nat)
    (h : FreeSet.wf (spans.get n).free = true) :
    FreeSet.mem i ((l.foldl (fun sp e => returnExtent e sp) spans).get n).free = true ↔
      FreeSet.mem i (spans.get n).free = true ∨ ⟨n, i⟩ ∈ l := by
  induction l generalizing spans with
  | nil => simp
  | cons e l ih =>
    obtain ⟨m, j⟩ := e
    rw [List.foldl_cons]
    by_cases hm : m = n
    · subst hm
      have hg : (returnExtent ⟨m, j⟩ spans).get m = { spans.get m with
          free := FreeSet.insert j (spans.get m).free, freeCount := (spans.get m).freeCount + 1 } :=
        (returnExtent_get _ _ _).trans (if_pos rfl)
      rw [ih (returnExtent ⟨m, j⟩ spans) (by rw [hg]; exact FreeSet.wf_insert _ _ h), hg, FreeSet.mem_insert _ _ _ h]
      simp [or_assoc]
    · have hg : (returnExtent ⟨m, j⟩ spans).get n = spans.get n := (returnExtent_get _ _ _).trans (if_neg hm)
      rw [ih (returnExtent ⟨m, j⟩ spans) (by rw [hg]; exact h), hg]
      simp [Ne.symm hm]

/-! ## The level of a pool -/

theorem notifyJoined_grows (but : Option Port) (n : Notice) (s : State) : portsGrow s (notifyJoined but n s) :=
  foldl_grows (fun b p => by split; exacts [portsGrow_refl b, addNotice_grows p n b]) _ _

theorem judgeLevel_pools (k : PoolId) (s : State) :
    (judgeLevel k s).pools = putAt s.pools k { s.pools.get k with level := (s.pools.get k).judged } := by
  unfold judgeLevel
  split
  · rename_i h
    rw [h]
    exact (putAt_self s.pools k).symm
  · rw [keeps_of_erasePorts State.pools (notifyJoined_erase _ _ _)]
    rfl

theorem judgeLevel_grows (k : PoolId) (s : State) : portsGrow s (judgeLevel k s) := by
  unfold judgeLevel
  split
  · exact portsGrow_refl s
  · exact portsGrow_after (notifyJoined_grows _ _ _) rfl

/-- What reads neither ports nor pools is kept when a level is judged. -/
theorem judgeLevel_keeps {γ : Type} (g : State → γ) (k : PoolId) (s : State)
    (hg : ∀ t : State, g t.eraseLevel = g t := by intro; rfl) : g (judgeLevel k s) = g s :=
  keeps_of_erase g (judgeLevel_erase k s) hg

/-! ## The service of paused deletions -/

/-- A deletion that goes on, twice, goes on. -/
theorem unpaused_append (v w : Nat) (granted : List Nat) (r : Volume) :
    unpaused granted v (unpaused [w] v r) = unpaused (w :: granted) v r := by
  unfold unpaused
  by_cases h1 : v = w
  · subst h1
    by_cases h2 : v ∈ granted
    · cases r.deletion <;> simp [h2]
    · simp [h2]
  · simp [h1]

theorem grantRemoval_unpaused (v w : Nat) (s : State) : (grantRemoval v s).volume w = unpaused [v] w (s.volume w) := by
  unfold grantRemoval updateDeletion
  rw [updateVolume_eq, volume_setVolume]
  unfold unpaused
  by_cases h : v = w
  · subst h
    rw [if_pos rfl, if_pos (List.mem_singleton_self v)]
    rfl
  · rw [if_neg h, if_neg (fun hm => h (List.mem_singleton.mp hm).symm)]
    rfl

/-- The service grants as many deletions as there is room for (R113, R114). -/
theorem serveList_grants (l : List Nat) (s : State) :
    ∃ granted, l = granted ++ (serveList l s).admissionWait ∧ (serveList l s).deletionsDue = s.deletionsDue ++ granted ∧
      (serveList l s).promises = s.promises + granted.length ∧
      granted.length = min l.length (Config.admissionLimit - s.admission) ∧
      ∀ v, (serveList l s).volume v = unpaused granted v (s.volume v) := by
  induction l generalizing s with
  | nil => exact ⟨[], rfl, (List.append_nil _).symm, rfl, (Nat.zero_min _).symm, fun v => rfl⟩
  | cons w rest ih =>
    unfold serveList
    split
    · rename_i h
      obtain ⟨granted, hl, hd, hp, hn, hv⟩ := ih (grantRemoval w s)
      refine ⟨w :: granted, congrArg (w :: ·) hl, hd.trans ?_, hp.trans ?_, ?_, fun v => ?_⟩
      · show s.deletionsDue ++ [w] ++ granted = _
        rw [List.append_assoc]
        rfl
      · show s.promises + 1 + granted.length = s.promises + (granted.length + 1)
        omega
      · have ha : (grantRemoval w s).admission = s.admission + 1 := rfl
        rw [ha] at hn
        rw [List.length_cons, List.length_cons, hn]
        omega
      · rw [hv, grantRemoval_unpaused, unpaused_append]
    · rename_i h
      refine ⟨[], rfl, (List.append_nil _).symm, rfl, ?_, fun v => rfl⟩
      rw [Nat.sub_eq_zero_of_le (Nat.not_lt.mp h), Nat.min_zero]
      rfl

theorem serveWaiting_keeps {γ : Type} (g : State → γ) (s : State)
    (hg : ∀ t : State, g t.eraseServe = g t := by intro; rfl) : g (serveWaiting s) = g s :=
  keeps_of_erase g (serveWaiting_erase s) hg

theorem serveWaiting_grows (s : State) : portsGrow s (serveWaiting s) :=
  portsGrow_of_ports (serveWaiting_keeps State.ports s)

/-! ## The release of batches -/

theorem returnBatch_grows (b : Batch) (rest : List Batch) (s : State) : portsGrow s (returnBatch b rest s) := by
  unfold returnBatch
  exact portsGrow_after (judgeLevel_grows _ _) rfl

theorem releaseOldest_grows (b : Batch) (rest : List Batch) (s : State) : portsGrow s (releaseOldest b rest s) := by
  have h : portsGrow s (serveWaiting (returnBatch b rest s)) :=
    portsGrow_trans (returnBatch_grows b rest s) (serveWaiting_grows _)
  exact h

theorem releaseLoop_grows (n : Nat) (s : State) : portsGrow s (releaseLoop n s) := by
  induction n generalizing s with
  | zero => exact portsGrow_refl s
  | succ n ih =>
    unfold releaseLoop
    split
    · exact portsGrow_refl s
    · split
      · exact portsGrow_trans (releaseOldest_grows _ _ s) (ih _)
      · exact portsGrow_refl s

theorem releaseTest_grows (s : State) : portsGrow s (releaseTest s) := releaseLoop_grows _ s

theorem announceBatch_grows (o : Option Port) (v : Option Nat) (g : Gen) (s : State) :
    portsGrow s (announceBatch o v g s) := by
  refine foldl_grows (fun b p => ?_) _ _
  split
  · exact portsGrow_refl b
  · cases v with
    | none => exact addNotice_grows _ _ b
    | some v => exact portsGrow_trans (addNotice_grows _ _ b) (addNotice_grows _ _ _)

theorem formBatch_grows (k : PoolId) (x : List Extent) (o : Option Port) (v : Option Nat) (s : State) :
    portsGrow s (formBatch k x o v s) := by
  unfold formBatch
  exact portsGrow_after (portsGrow_trans (announceBatch_grows _ _ _ _) (releaseTest_grows _)) rfl

theorem formPromised_grows (f : Forming) (o : Option Port) (v : Nat) (s : State) : portsGrow s (formPromised f o v s) := by
  unfold formPromised
  exact portsGrow_after (formBatch_grows _ _ _ _ _) rfl

theorem settleForming_grows (f : Forming) (v : Nat) (s : State) : portsGrow s (settleForming f v s) := by
  unfold settleForming
  split
  · exact portsGrow_after (serveWaiting_grows _) rfl
  · exact formPromised_grows _ _ _ _

/-! ## While no deletion is paused -/

/-- Everything but what a release of batches moves while no deletion is paused. -/
def State.eraseRelease (s : State) : State :=
  { s with
    ports := Vector.replicate 4 .down, pools := Vector.replicate 8 .empty, spans := Vector.replicate 16 .absent
    grace := [], stall := .stopped, generation := 0, promises := 0 }

theorem returnBatch_release (b : Batch) (rest : List Batch) (s : State) :
    (returnBatch b rest s).eraseRelease = s.eraseRelease := by
  unfold returnBatch
  exact (judgeLevel_keeps State.eraseRelease _ _).trans rfl

theorem releaseOldest_release (b : Batch) (rest : List Batch) (h : s.admissionWait = []) :
    (releaseOldest b rest s).eraseRelease = s.eraseRelease := by
  have hb := returnBatch_release b rest s
  have hw : (returnBatch b rest s).admissionWait = [] := (congrArg State.admissionWait hb :).trans h
  unfold releaseOldest
  rw [serveWaiting_empty _ hw]
  exact hb

theorem releaseLoop_release (n : Nat) (h : s.admissionWait = []) : (releaseLoop n s).eraseRelease = s.eraseRelease := by
  induction n generalizing s with
  | zero => rfl
  | succ n ih =>
    unfold releaseLoop
    split
    · rfl
    · split
      · rename_i b rest _ _
        have hb := releaseOldest_release b rest h
        exact (ih (s := releaseOldest b rest s) ((congrArg State.admissionWait hb :).trans h)).trans hb
      · rfl

theorem formBatch_release (k : PoolId) (x : List Extent) (o : Option Port) (v : Option Nat) (h : s.admissionWait = []) :
    (formBatch k x o v s).eraseRelease = s.eraseRelease := by
  unfold formBatch releaseTest
  dsimp only
  refine (releaseLoop_release _ ?_).trans ?_
  · exact (keeps_of_erasePorts State.admissionWait (announceBatch_erase _ _ _ _)).trans h
  · exact (keeps_of_erasePorts State.eraseRelease (announceBatch_erase _ _ _ _)).trans rfl

theorem settleForming_release (f : Forming) (v : Nat) (h : s.admissionWait = []) :
    (settleForming f v s).eraseRelease = s.eraseRelease := by
  unfold settleForming
  split
  · unfold withdrawPromise
    rw [serveWaiting_empty _ (show State.admissionWait { s with promises := s.promises - 1 } = [] from h)]
    rfl
  · exact (formBatch_release (s := { s with promises := s.promises - 1 }) _ _ _ _ h).trans rfl

theorem foldl_settleForming_release (l : List (Nat × Forming)) (h : s.admissionWait = []) :
    (l.foldl (fun t f => settleForming f.2 f.1 t) s).eraseRelease = s.eraseRelease := by
  induction l generalizing s with
  | nil => rfl
  | cons f l ih =>
    have hf := settleForming_release f.2 f.1 h
    exact (ih (s := settleForming f.2 f.1 s) ((congrArg State.admissionWait hf :).trans h)).trans hf

end Sys2Proof.Machine
end

section
/-! PROOFS. The freeze of the part: what it stops, what it leaves as it was (R160, R162, R163), and the reads that it follows. -/

namespace Sys2Proof.Machine

open State

variable {s u : State}

/-! ## The requests that a freeze ends -/

/-- Everything but what the end of the requests and deletions moves: the ports, the volumes' deletions and the waiter queues. -/
def State.eraseStop (s : State) : State :=
  { s with ports := Vector.replicate 4 .down, volumes := [], leases := [] }

theorem ports_stop (h : u.erasePorts = s.erasePorts) : u.eraseStop = s.eraseStop :=
  (congrArg State.eraseStop h : u.erasePorts.eraseStop = s.erasePorts.eraseStop)

theorem refuseFrozen_erase (o : Option Origin) (k : RequestKind) (s : State) :
    (refuseFrozen o k s).erasePorts = s.erasePorts := by
  cases o with
  | none => rfl
  | some o => exact refuse_erase o k .frozen s

theorem refuseFrozen_grows (o : Option Origin) (k : RequestKind) (s : State) : portsGrow s (refuseFrozen o k s) := by
  cases o with
  | none => exact portsGrow_refl s
  | some o => exact answer_grows o k.code (.refused .frozen) .empty s

theorem refuseWaiting_erase (c : ChangeQueue) (s : State) : (refuseWaiting c s).erasePorts = s.erasePorts :=
  foldl_keeps State.erasePorts _ (fun b _ => refuseFrozen_erase _ _ b) _ _

theorem refuseWaiting_grows (c : ChangeQueue) (s : State) : portsGrow s (refuseWaiting c s) :=
  foldl_grows (fun b _ => refuseFrozen_grows _ _ b) _ _

theorem refuseIntent_erase (i : Intent) (s : State) : (refuseIntent i s).erasePorts = s.erasePorts := by
  unfold refuseIntent
  split
  · rfl
  · exact refuseFrozen_erase _ _ s

theorem refuseIntent_grows (i : Intent) (s : State) : portsGrow s (refuseIntent i s) := by
  unfold refuseIntent
  split
  · exact portsGrow_refl s
  · exact refuseFrozen_grows _ _ s

theorem clearClaims_erase (v : Nat) (s : State) : (clearClaims v s).eraseStop = s.eraseStop := by
  unfold clearClaims
  dsimp only
  exact (foldl_keeps State.eraseStop _ (fun b _ => ports_stop (refuse_erase _ _ _ b)) _ _).trans rfl

theorem clearClaims_volume (v : Nat) (s : State) : (clearClaims v s).volume = s.volume := by
  unfold clearClaims
  dsimp only
  exact (foldl_keeps State.volume _ (fun b _ => keeps_of_erasePorts _ (refuse_erase _ _ _ b)) _ _).trans rfl

theorem clearClaims_grows (v : Nat) (s : State) : portsGrow s (clearClaims v s) := by
  unfold clearClaims
  dsimp only
  exact portsGrow_after (foldl_grows (fun b _ => answer_grows _ _ _ _ b) _ _) rfl

/-- The deletion's record is gone; a marking one clears the waiter queue too. -/
theorem stopDeletion_eq (v : Nat) (s : State) : stopDeletion v s = s ∨
    ∃ o, ∃ t, t = (refuseFrozen o .deleteVolume s).updateVolume v (fun r => { r with deletion := none }) ∧
      (stopDeletion v s = t ∨ stopDeletion v s = clearClaims v t) := by
  unfold stopDeletion
  split
  · exact Or.inl rfl
  · rename_i d _
    refine Or.inr ⟨d.requester, _, rfl, ?_⟩
    dsimp only
    split
    · exact Or.inr rfl
    · exact Or.inl rfl

theorem stopDeletion_erase (v : Nat) (s : State) : (stopDeletion v s).eraseStop = s.eraseStop := by
  rcases stopDeletion_eq v s with h | ⟨o, t, ht, h⟩
  · rw [h]
  · have hts : t.eraseStop = s.eraseStop := by
      rw [ht]
      exact (ports_stop (refuseFrozen_erase o .deleteVolume s) :)
    rcases h with h | h
    · rw [h, hts]
    · rw [h, clearClaims_erase, hts]

theorem stopDeletion_grows (v : Nat) (s : State) : portsGrow s (stopDeletion v s) := by
  rcases stopDeletion_eq v s with h | ⟨o, t, ht, h⟩
  · rw [h]; exact portsGrow_refl s
  · have hts : portsGrow s t := by
      rw [ht]
      exact refuseFrozen_grows o .deleteVolume s
    rcases h with h | h
    · rw [h]; exact hts
    · rw [h]; exact portsGrow_trans hts (clearClaims_grows v t)

/-- The stop of a deletion touches of every volume its deletion alone. -/
theorem stopDeletion_volume (v w : Nat) (s : State) :
    { (stopDeletion v s).volume w with deletion := none } = { s.volume w with deletion := none } := by
  rcases stopDeletion_eq v s with h | ⟨o, t, ht, h⟩
  · rw [h]
  · have hts : { t.volume w with deletion := none } = { s.volume w with deletion := none } := by
      rw [ht, updateVolume_eq, volume_setVolume, keeps_of_erasePorts State.volume (refuseFrozen_erase _ _ _)]
      split
      · subst_vars; rfl
      · rfl
    rcases h with h | h
    · rw [h, hts]
    · rw [h, clearClaims_volume, hts]

/-- The first part of a freeze: every request and deletion under way has ended, the queues stand. -/
def stopRequests (s : State) : State :=
  let a := refuseWaiting s.shelf (s.queues.foldl (fun t e => refuseWaiting e.2 t) s)
  s.volumes.foldl (fun t e => stopDeletion e.1 t) ((liveIntents s).foldl (fun t i => refuseIntent i t) a)

theorem stopWork_eq (s : State) : stopWork s =
    (allForming s).foldl (fun t f => settleForming f.2 f.1 t) (emptyQueues (stopRequests s)) := rfl

/-- The requests of queues and intents are refused at the ports. -/
theorem refuseAll_erase (s : State) :
    ((liveIntents s).foldl (fun t i => refuseIntent i t)
      (refuseWaiting s.shelf (s.queues.foldl (fun t e => refuseWaiting e.2 t) s))).erasePorts = s.erasePorts := by
  rw [foldl_keeps State.erasePorts _ (fun b _ => refuseIntent_erase _ b), refuseWaiting_erase,
    foldl_keeps State.erasePorts _ (fun b _ => refuseWaiting_erase _ b)]

theorem stopRequests_erase (s : State) : (stopRequests s).eraseStop = s.eraseStop := by
  unfold stopRequests
  dsimp only
  rw [foldl_keeps State.eraseStop _ (fun b _ => stopDeletion_erase _ b)]
  exact ports_stop (refuseAll_erase s)

theorem stopRequests_volume (w : Nat) (s : State) :
    { (stopRequests s).volume w with deletion := none } = { s.volume w with deletion := none } := by
  unfold stopRequests
  dsimp only
  refine (foldl_keeps (fun t : State => { t.volume w with deletion := none }) _
    (fun b _ => stopDeletion_volume _ w b) _ _).trans ?_
  exact congrArg (fun r : Nat → Volume => { r w with deletion := none })
    (keeps_of_erasePorts State.volume (refuseAll_erase s))

theorem stopRequests_grows (s : State) : portsGrow s (stopRequests s) := by
  unfold stopRequests
  exact portsGrow_trans (portsGrow_trans (portsGrow_trans (foldl_grows (fun b _ => refuseWaiting_grows _ b) _ s)
    (refuseWaiting_grows _ _)) (foldl_grows (fun b _ => refuseIntent_grows _ b) _ _))
    (foldl_grows (fun b _ => stopDeletion_grows _ b) _ _)

/-! ## The freeze -/

/-- The part as a freeze begins. -/
def frozenBy (cause : FreezeCause) (s : State) : State := { s with mode := .frozen, freezeCause := some cause }

theorem freeze_eq (cause : FreezeCause) (s : State) :
    freeze cause s = notifyJoined none (.partFrozen cause) (stopWork (frozenBy cause s)) := rfl

theorem stopWork_release (s : State) : (stopWork s).eraseRelease = (emptyQueues (stopRequests s)).eraseRelease := by
  rw [stopWork_eq]
  exact foldl_settleForming_release (allForming s) rfl

theorem freeze_release (cause : FreezeCause) (s : State) :
    (freeze cause s).eraseRelease = (emptyQueues (stopRequests (frozenBy cause s))).eraseRelease := by
  rw [freeze_eq, keeps_of_erasePorts State.eraseRelease (notifyJoined_erase _ _ _), stopWork_release]

/-- What a freeze sets and stops: the mode and its cause; every queue is empty, and an intent in the log stays only for the store
writes that are under way. -/
theorem freeze_stops (cause : FreezeCause) (s : State) :
    (freeze cause s).mode = .frozen ∧ (freeze cause s).freezeCause = some cause ∧ (freeze cause s).queues = [] ∧
    (freeze cause s).shelf = .empty ∧ (freeze cause s).logWait = [] ∧ (freeze cause s).admissionWait = [] ∧
    (freeze cause s).deletionsDue = [] ∧
    (freeze cause s).log = s.log.map (fun l => { l with intent := { l.intent with origin := none, forming := none } }) := by
  have h := freeze_release cause s
  have hs := stopRequests_erase (frozenBy cause s)
  refine ⟨?_, ?_, ?_, ?_, ?_, ?_, ?_, ?_⟩
  · rw [keeps_of_erase State.mode h (fun _ => rfl)]
    exact keeps_of_erase State.mode hs (fun _ => rfl)
  · rw [keeps_of_erase State.freezeCause h (fun _ => rfl)]
    exact keeps_of_erase State.freezeCause hs (fun _ => rfl)
  · exact keeps_of_erase State.queues h (fun _ => rfl)
  · exact keeps_of_erase State.shelf h (fun _ => rfl)
  · exact keeps_of_erase State.logWait h (fun _ => rfl)
  · exact keeps_of_erase State.admissionWait h (fun _ => rfl)
  · exact keeps_of_erase State.deletionsDue h (fun _ => rfl)
  · rw [keeps_of_erase State.log h (fun _ => rfl)]
    exact congrArg (List.map _) (keeps_of_erase (s := frozenBy cause s) State.log hs (fun _ => rfl))

/-- Everything but what a freeze moves. -/
def State.eraseFreeze (s : State) : State :=
  { s with
    mode := .frozen, freezeCause := none, ports := Vector.replicate 4 .down, volumes := [], leases := []
    queues := [], shelf := .empty, logWait := [], admissionWait := [], deletionsDue := [], log := []
    pools := Vector.replicate 8 .empty, spans := Vector.replicate 16 .absent
    grace := [], stall := .stopped, generation := 0, promises := 0 }

theorem release_freeze (h : u.eraseRelease = s.eraseRelease) : u.eraseFreeze = s.eraseFreeze :=
  (congrArg State.eraseFreeze h : u.eraseRelease.eraseFreeze = s.eraseRelease.eraseFreeze)

theorem stop_freeze (h : u.eraseStop = s.eraseStop) : u.eraseFreeze = s.eraseFreeze :=
  (congrArg State.eraseFreeze h : u.eraseStop.eraseFreeze = s.eraseStop.eraseFreeze)

theorem emptyQueues_freeze (s : State) : (emptyQueues s).eraseFreeze = s.eraseFreeze := rfl

theorem frozenBy_freeze (cause : FreezeCause) (s : State) : (frozenBy cause s).eraseFreeze = s.eraseFreeze := rfl

/-- What reads none of the fields that a freeze moves is kept. -/
theorem freeze_keeps {γ : Type} (g : State → γ) (cause : FreezeCause) (s : State)
    (hg : ∀ t : State, g t.eraseFreeze = g t := by intro; rfl) : g (freeze cause s) = g s := by
  have h : (freeze cause s).eraseFreeze = s.eraseFreeze := by
    rw [release_freeze (freeze_release cause s), emptyQueues_freeze, stop_freeze (stopRequests_erase _), frozenBy_freeze]
  exact keeps_of_erase g h hg

/-- A freeze touches of every volume its deletion alone. -/
theorem freeze_volume (cause : FreezeCause) (w : Nat) (s : State) :
    { (freeze cause s).volume w with deletion := none } = { s.volume w with deletion := none } := by
  rw [keeps_of_erase State.volume (freeze_release cause s) (fun _ => rfl)]
  exact stopRequests_volume w (frozenBy cause s)

theorem freeze_grows (cause : FreezeCause) (s : State) : portsGrow s (freeze cause s) := by
  rw [freeze_eq, stopWork_eq]
  refine portsGrow_trans ?_ (notifyJoined_grows _ _ _)
  refine portsGrow_trans ?_ (foldl_grows (fun b _ => settleForming_grows _ _ b) _ _)
  exact stopRequests_grows (frozenBy cause s)

/-- With no forming batch to settle, a freeze moves no extent and no generation. -/
theorem freeze_unforming {γ : Type} (g : State → γ) (cause : FreezeCause) (h : allForming (frozenBy cause s) = [])
    (hg : ∀ t : State, g { t with
      mode := .frozen, freezeCause := none, ports := Vector.replicate 4 .down, volumes := [], leases := []
      queues := [], shelf := .empty, logWait := [], admissionWait := [], deletionsDue := [], log := [] } = g t := by
      intro; rfl) :
    g (freeze cause s) = g s := by
  let e : State → State := fun t => { t with
    mode := .frozen, freezeCause := none, ports := Vector.replicate 4 .down, volumes := [], leases := []
    queues := [], shelf := .empty, logWait := [], admissionWait := [], deletionsDue := [], log := [] }
  have he : e (freeze cause s) = e s := by
    rw [freeze_eq, keeps_of_erasePorts e (notifyJoined_erase _ _ _), stopWork_eq, h]
    exact (congrArg e (stopRequests_erase (frozenBy cause s)) :)
  exact keeps_of_erase g he hg

/-! ## Store faults -/

/-- A freezing fault while SERVING is recorded and freezes the part. -/
theorem storeFault_serving {kind : FaultKind} (source : FaultSource) (area : StoreArea) (hs : s.mode = .serving)
    (hk : kind ≠ .corrected) : storeFault source kind area s =
      freeze ⟨source, kind⟩ (recordFault source kind (.store area s.faultsMet) { s with faultsMet := s.faultsMet + 1 }) := by
  unfold storeFault
  dsimp only
  rw [if_neg hk]
  show (match s.mode with
    | .serving => _
    | .recovering => _
    | .frozen => _) = _
  rw [hs]

/-- A fault while FROZEN is recorded and freezes nothing anew. -/
theorem storeFault_frozen (source : FaultSource) (kind : FaultKind) (area : StoreArea) (hs : s.mode = .frozen) :
    storeFault source kind area s =
      recordFault source kind (.store area s.faultsMet) { s with faultsMet := s.faultsMet + 1 } := by
  unfold storeFault
  dsimp only
  split
  · rfl
  · show (match s.mode with
      | .serving => _
      | .recovering => _
      | .frozen => _) = _
    rw [hs]

theorem mem_insertPair (v i : Nat) (l : List (Nat × Nat)) : (v, i) ∈ insertPair v i l := by
  induction l with
  | nil => exact List.mem_singleton_self _
  | cons x l ih =>
    obtain ⟨w, j⟩ := x
    unfold insertPair
    split
    · exact List.mem_cons_self
    · split
      · rename_i h
        rw [h.1, h.2]
        exact List.mem_cons_self
      · exact List.mem_cons_of_mem _ ih

/-- The part as an uncorrectable read of an entry cell has been recorded. -/
def poisonedBy (v i : Nat) (s : State) : State :=
  { s with
    poison := insertPair v i s.poison, faultsMet := s.faultsMet + 1
    faults := s.faults.put .mapStore (s.faults.mapStore.take .uncorrectable (.store (.entry v i) s.faultsMet)) }

theorem poisonedRead_serving (v i : Nat) (hs : s.mode = .serving) :
    poisonedRead v i s = freeze ⟨.mapStore, .uncorrectable⟩ (poisonedBy v i s) :=
  storeFault_serving (s := { s with poison := insertPair v i s.poison }) .mapStore (.entry v i) hs (by decide)

theorem poisonedRead_frozen (v i : Nat) (hs : s.mode = .frozen) : poisonedRead v i s = poisonedBy v i s :=
  storeFault_frozen (s := { s with poison := insertPair v i s.poison }) .mapStore .uncorrectable (.entry v i) hs

/-- What an uncorrectable read of an entry cell leaves: in either mode the index is poisoned and the fault recorded. -/
theorem poisonedRead_records (v i : Nat) (hs : s.mode = .serving ∨ s.mode = .frozen) :
    (poisonedRead v i s).mode = .frozen ∧ (v, i) ∈ (poisonedRead v i s).poison ∧
    (poisonedRead v i s).faults.mapStore = s.faults.mapStore.take .uncorrectable (.store (.entry v i) s.faultsMet) ∧
    (s.mode = .serving → (poisonedRead v i s).freezeCause = some ⟨.mapStore, .uncorrectable⟩) ∧
    (s.mode = .frozen → (poisonedRead v i s).freezeCause = s.freezeCause) := by
  rcases hs with hs | hs
  · rw [poisonedRead_serving v i hs]
    obtain ⟨hm, hc, -⟩ := freeze_stops ⟨.mapStore, .uncorrectable⟩ (poisonedBy v i s)
    refine ⟨hm, ?_, ?_, fun _ => hc, fun h => absurd (hs.symm.trans h) (by decide)⟩
    · rw [freeze_keeps State.poison]
      exact mem_insertPair v i s.poison
    · rw [freeze_keeps State.faults]
      rfl
  · rw [poisonedRead_frozen v i hs]
    exact ⟨hs, mem_insertPair v i s.poison, rfl, fun h => absurd (hs.symm.trans h) (by decide), fun _ => rfl⟩

/-- What reads none of the fields that a freeze or the record of a fault moves is kept by an uncorrectable read. -/
theorem poisonedRead_keeps {γ : Type} (g : State → γ) (v i : Nat) (hs : s.mode = .serving ∨ s.mode = .frozen)
    (hg : ∀ t : State, g t.eraseFreeze = g t := by intro; rfl)
    (hp : ∀ (t : State) x y z, g { t with poison := x, faultsMet := y, faults := z } = g t := by intros; rfl) :
    g (poisonedRead v i s) = g s := by
  rcases hs with hs | hs
  · rw [poisonedRead_serving v i hs, freeze_keeps g _ _ hg]
    exact hp s _ _ _
  · rw [poisonedRead_frozen v i hs]
    exact hp s _ _ _

theorem poisonedRead_volume (v i w : Nat) (hs : s.mode = .serving ∨ s.mode = .frozen) :
    { (poisonedRead v i s).volume w with deletion := none } = { s.volume w with deletion := none } := by
  rcases hs with hs | hs
  · rw [poisonedRead_serving v i hs, freeze_volume]
    rfl
  · rw [poisonedRead_frozen v i hs]
    rfl

theorem poisonedRead_grows (v i : Nat) (hs : s.mode = .serving ∨ s.mode = .frozen) : portsGrow s (poisonedRead v i s) := by
  rcases hs with hs | hs
  · rw [poisonedRead_serving v i hs]
    exact freeze_grows _ (poisonedBy v i s)
  · rw [poisonedRead_frozen v i hs]
    exact portsGrow_refl s

/-- A read of one entry cell that is reported, and read. -/
theorem cellReads_entry (v i : Nat) (f : ReadFault) {read : Nat → Bool} (h : read i = true) :
    cellReads v read [(.entry v i, f)] = [(i, f)] := by
  simp [cellReads, h]

end Sys2Proof.Machine
end

section
/-! PROOFS. A Resolve that meets a cell that cannot be read (R15), and the path of an intent through the log (R145 to R148). -/

namespace Sys2Proof.Machine

open State

variable {s u : State}

/-! ## Resolve -/

theorem answer_lastAnswer {p : Port} {t : Tag} (code : Byte) (outcome : AnswerOutcome) (body : AnswerBody)
    (h : s.linkUp p = true) :
    lastAnswer p ⟨t, code, outcome, s.generation, body⟩ (answer ⟨p, t⟩ code outcome body s) := by
  unfold lastAnswer
  rw [answer_ports (o := ⟨p, t⟩) h, told_answers, List.getLast?_append, List.getLast?_singleton]
  rfl

theorem resolveCells_poison (v i : Nat) (s : State) :
    resolveCells v [(i, .uncorrectable)] s = poisonedRead v i s := rfl

/-- Settles O39: the answer follows the one uncorrectable read. -/
theorem resolvePoisons : Obligations.ResolvePoisons := by
  intro p t v f c i s h hv h1 h64 hr hfi hic
  have hm : (taken p t s).mode = .serving ∨ (taken p t s).mode = .frozen := by
    obtain ⟨-, hm, -⟩ := h
    cases hs : s.mode with
    | serving => exact Or.inl hs
    | frozen => exact Or.inr hs
    | recovering => exact absurd hs hm
  let reads : Reads := [(.entry v.toNat i, .uncorrectable)]
  obtain ⟨u, hu, hexec⟩ := exec_resolve_run (reads := reads) h hv h1 h64 hr
  have hup : u = poisonedRead v.toNat i (taken p t s) := by
    rw [hu, cellReads_entry _ _ _ (decide_eq_true ⟨hfi, hic⟩)]
    rfl
  have hvol : { u.volume v.toNat with deletion := none } = { s.volume v.toNat with deletion := none } :=
    hup ▸ poisonedRead_volume v.toNat i v.toNat hm
  obtain ⟨hmode, hpoison, hfault, hserving, hfrozen⟩ := poisonedRead_records v.toNat i hm
  have keep {γ : Type} (g : State → γ) (hg : ∀ t : State, g t.eraseFreeze = g t := by intro; rfl)
      (hp : ∀ (t : State) x y z, g { t with poison := x, faultsMet := y, faults := z } = g t := by intros; rfl) :
      g u = g (taken p t s) := hup ▸ poisonedRead_keeps g v.toNat i hm hg hp
  have hlink : u.linkUp p = true := by
    have hg : portsGrow (taken p t s) u := hup ▸ poisonedRead_grows v.toNat i hm
    rw [portsGrow_linkUp hg, taken_linkUp]
    exact admits_linkUp h
  let w := answer ⟨p, t⟩ 0x30 .done (resolveBody u v.toNat f.toNat c.toNat) u
  have hw : w.erasePorts = u.erasePorts := answer_erase _ _ _ _ _
  have fromU {γ : Type} (g : State → γ) (hg : ∀ t : State, g t.erasePorts = g t := by intro; rfl) : g w = g u :=
    keeps_of_erasePorts g hw hg
  refine ⟨w, (runIndices f.toNat c.toNat).map (indexReport u v.toNat), hexec, ?_, ?_, ?_, fun hs => ?_, fun hs => ?_, ?_, ?_, ?_,
    ?_, ?_, ?_, ?_, ?_⟩
  · rw [fromU State.mode, hup]; exact hmode
  · rw [fromU State.poison, hup]; exact hpoison
  · rw [fromU State.faults, hup]; exact hfault
  · rw [fromU State.freezeCause, hup]; exact hserving hs
  · rw [fromU State.freezeCause, hup]; exact hfrozen hs
  · rw [List.length_map, runIndices_eq, List.length_map, List.length_range]
  · rw [runIndices_eq, List.map_map, List.getElem?_map, List.getElem?_range (by omega)]
    refine congrArg some ?_
    show indexReport u v.toNat (f.toNat + (i - f.toNat)) = _
    rw [Nat.add_sub_cancel' hfi]
    exact indexReport_poisoned (hup ▸ hpoison)
  · have hst : (u.volume v.toNat).state = (s.volume v.toNat).state := (congrArg Volume.state hvol :)
    have hsz : (u.volume v.toNat).size = (s.volume v.toNat).size := (congrArg Volume.size hvol :)
    rw [fromU State.generation, fromU State.lease, ← hst, ← hsz]
    exact answer_lastAnswer _ _ _ hlink
  · rw [fromU State.maps]; exact keep State.maps
  · rw [fromU State.heads]; exact keep State.heads
  · rw [fromU State.fences]; exact keep State.fences
  · rw [fromU State.grants]; exact keep State.grants
  · rw [fromU State.store]; exact keep State.store

/-! ## Steps that are due -/

theorem due?_slot {i : Intent} {rest : List Intent} {n : Nat} (hm : s.mode = .serving) (hw : s.logWait = i :: rest)
    (hn : freeSlot? s = some n) : due? s = some .slot := by
  unfold due?
  rw [if_neg (not_not.mpr hm), hw, hn]
  rfl

theorem freeSlot?_lowest {n : Nat} (hn : n < 512) (hf : Table.get? s.store.slots n = none)
    (hl : ∀ m, m < n → Table.get? s.store.slots m ≠ none) : freeSlot? s = some n := by
  refine List.find?_range_eq_some.mpr ⟨by rw [hf]; rfl, List.mem_range.mpr hn, fun j hj => ?_⟩
  cases hg : Table.get? s.store.slots j with
  | none => exact absurd hg (hl j hj)
  | some x => rfl

/-- A step is due only while SERVING. -/
theorem due?_serving {d : Due} (h : due? s = some d) : s.mode = .serving := by
  unfold due? at h
  split at h
  · cases h
  · rename_i hm; exact not_not.mp hm

theorem due?_apply (h : due? s = some .apply) : applyReady s = true := by
  unfold due? at h
  split at h
  · cases h
  split at h
  · cases h
  split at h
  · split at h <;> cases h
  · cases h
  · split at h
    · cases h
    · split at h
      · assumption
      · cases h

theorem due?_removal {v : Nat} {rest : List Nat} (h : due? s = some .removal) (hd : s.deletionsDue = v :: rest) :
    ending s v = false := by
  unfold due? at h
  split at h
  · cases h
  split at h
  · cases h
  rw [hd] at h
  cases he : ending s v with
  | false => rfl
  | true =>
    dsimp only at h
    rw [he] at h
    cases h

/-! ## The image -/

theorem isWriting_of {l : LogIntent} (hs : l.state = .writing) (hw : l.writeOut = true) : l.isWriting l.slot = true := by
  simp [LogIntent.isWriting, hs, hw]

theorem isWriting_other {l x : LogIntent} (h : x.slot ≠ l.slot) : x.isWriting l.slot = false := by
  simp [LogIntent.isWriting, h]

/-- The intent whose slot is named changes alone. -/
theorem changeLog_one {before after : List LogIntent} {l : LogIntent} (f : LogIntent → LogIntent)
    (ho : ∀ x ∈ before ++ after, x.slot ≠ l.slot) (hl : l.isWriting l.slot = true) :
    changeLog (LogIntent.isWriting l.slot) f (before ++ l :: after) = before ++ f l :: after := by
  have same : ∀ m : List LogIntent, (∀ x ∈ m, x.slot ≠ l.slot) →
      m.map (fun x => if x.isWriting l.slot then f x else x) = m := fun m hm =>
    (List.map_congr_left (fun x hx => by rw [isWriting_other (hm x hx)]; rfl)).trans (List.map_id m)
  unfold changeLog
  rw [List.map_append, List.map_cons, same before (fun x hx => ho x (List.mem_append_left _ hx)),
    same after (fun x hx => ho x (List.mem_append_right _ hx)), hl]
  rfl

/-! ## The removal of a batch of entries -/

theorem formDeletion_removal {v : Nat} {rest : List Nat} (reads : Reads) (h : due? s = some .removal)
    (hd : s.deletionsDue = v :: rest) : formDeletion reads s = formRemoval v reads s := by
  unfold formDeletion
  rw [hd]
  dsimp only
  rw [due?_removal h hd]
  rfl

theorem formRemoval_good (v : Nat) (s : State) : formRemoval v [] s =
    formIntent .deletion ⟨.deleteBatch, .volume v, none, none, (removalEntries s v).map (fun e => .removeEntry v e.1),
      some ⟨(s.volume v).pool, []⟩⟩ { s with deletionsDue := s.deletionsDue.tail } := rfl

theorem formRemoval_poison {v : Nat} {e : Nat × Entry} (he : e ∈ removalEntries s v) :
    formRemoval v [(.entry v e.1, .uncorrectable)] s = poisonedRead v e.1 s := by
  unfold formRemoval
  dsimp only
  rw [cellReads_entry]
  · rfl
  · exact List.any_eq_true.mpr ⟨e, he, decide_eq_true rfl⟩

/-! ## The release of the oldest batch -/

theorem returnBatch_eq (b : Batch) (rest : List Batch) (s : State) :
    (returnBatch b rest s).spans = b.extents.foldl (fun sp e => returnExtent e sp) s.spans ∧
    (returnBatch b rest s).grace = rest := by
  unfold returnBatch
  exact ⟨judgeLevel_keeps State.spans _ _, judgeLevel_keeps State.grace _ _⟩

/-- The counts of the pool that extents return to. -/
def Pool.returned (r : Pool) (n online : Nat) : Pool :=
  { r with free := r.free + n, allocatable := r.allocatable + online, grace := r.grace - n }

theorem returnBatch_pools (b : Batch) (rest : List Batch) (s : State) (k : PoolId) :
    (returnBatch b rest s).pools.get k = if b.pool = k then
      let r := (s.pools.get k).returned b.extents.length
        (b.extents.filter (fun e => decide ((s.spans.get e.span).state = .online))).length
      { r with level := r.judged }
    else s.pools.get k := by
  unfold returnBatch
  rw [judgeLevel_pools, putAt_get]
  by_cases h : b.pool = k
  · subst h
    rw [if_pos rfl, if_pos rfl, updatePool_pools, putAt_get_self]
    rfl
  · rw [if_neg h, if_neg h, updatePool_pools, putAt_get_other _ _ _ _ h]

theorem releaseOldest_keeps {γ : Type} (g : State → γ) (b : Batch) (rest : List Batch) (s : State)
    (hg : ∀ t : State, g t.eraseServe = g t := by intro; rfl) (hs : ∀ (t : State) x, g { t with stall := x } = g t := by
      intros; rfl) : g (releaseOldest b rest s) = g (returnBatch b rest s) :=
  (hs (serveWaiting (returnBatch b rest s)) _).trans (serveWaiting_keeps g _ hg)

/-- The release of the oldest batch, read field by field. -/
theorem releaseOldest_serves (b : Batch) (rest : List Batch) (s : State) :
    ∃ granted, serves granted s (releaseOldest b rest s) ∧
      granted.length = min s.admissionWait.length (3072 - (rest.length + s.promises)) ∧
      ∀ v, (releaseOldest b rest s).volume v = unpaused granted v (s.volume v) := by
  have keep {γ : Type} (g : State → γ) (hg : ∀ t : State, g t.eraseLevel = g t := by intro; rfl)
      (hk : ∀ (t : State) x y z, g { t with spans := x, pools := y, grace := z } = g t := by intros; rfl) :
      g (returnBatch b rest s) = g s := by
    unfold returnBatch
    exact (judgeLevel_keeps g _ _ hg).trans (hk s _ _ _)
  obtain ⟨granted, hl, hd, hp, hn, hv⟩ :=
    serveList_grants (returnBatch b rest s).admissionWait (returnBatch b rest s)
  refine ⟨granted, ⟨?_, ?_, ?_⟩, ?_, fun v => ?_⟩
  · exact (keep State.admissionWait).symm.trans hl
  · rw [← keep State.deletionsDue]; exact hd
  · rw [← keep State.promises]; exact hp
  · have ha : (returnBatch b rest s).admission = rest.length + s.promises := by
      unfold State.admission
      rw [(returnBatch_eq b rest s).2, keep State.promises]
    rw [hn, keep State.admissionWait, ha]
    rfl
  · exact (hv v).trans (congrArg (fun f => unpaused granted v (f v)) (keep State.volume))

/-- The deletion that was granted admission forms its removal intent. -/
theorem exec_deletionAdmitted_forms {v : Nat} {rest : List Nat} (h : due? s = some .removal)
    (hd : s.deletionsDue = v :: rest) :
    ∃ u, exec (.deletionAdmitted []) s = .next u ∧ u.deletionsDue = rest ∧
      forms (s.queue (.volume v)).waiting .deletion ⟨.deleteBatch, .volume v, none, none,
        ((s.mapOf v).take 4096).map (fun e => .removeEntry v e.1), some ⟨(s.volume v).pool, []⟩⟩ s u ∧
      u = { s with
        deletionsDue := u.deletionsDue, queues := u.queues, logWait := u.logWait } := by
  obtain ⟨b, hb⟩ : ∃ b : State, b = { s with deletionsDue := s.deletionsDue.tail } := ⟨_, rfl⟩
  obtain ⟨i, hi⟩ : ∃ i : Intent, i = ⟨.deleteBatch, .volume v, none, none,
    ((s.mapOf v).take 4096).map (fun e => .removeEntry v e.1), some ⟨(s.volume v).pool, []⟩⟩ := ⟨_, rfl⟩
  have hq : b.queue = s.queue := by rw [hb]; funext q; cases q <;> rfl
  have hexec : exec (.deletionAdmitted []) s = .next (formIntent .deletion i b) := by
    refine (stepDue_due h).trans ?_
    rw [formDeletion_removal _ h hd, formRemoval_good, hb, hi]
    rfl
  have hiq : i.queue = .volume v := by rw [hi]
  refine ⟨formIntent .deletion i b, hexec, ?_, ?_, ?_⟩
  · rw [formIntent_keeps State.deletionsDue, hb]
    exact congrArg List.tail hd
  · have hf : forms (s.queue (.volume v)).waiting .deletion i s (formIntent .deletion i b) :=
      formIntent_forms (by rw [hiq, hq]) (fun x _ => by rw [hq]) (by rw [hb])
    rw [hi] at hf ⊢
    exact hf
  · obtain ⟨u, hu⟩ : ∃ u, u = formIntent .deletion i b := ⟨_, rfl⟩
    rw [← hu]
    let g : State → State := fun x => { x with
      deletionsDue := u.deletionsDue, queues := u.queues, shelf := s.shelf, logWait := u.logWait }
    have hshelf : u.shelf = s.shelf := by
      rw [hu]
      unfold formIntent
      rw [hiq, hb]
      rfl
    calc u = g u := by show u = { u with shelf := s.shelf }; rw [← hshelf]
      _ = g b := by rw [hu]; exact formIntent_keeps g _ _ _
      _ = g s := by rw [hb]

/-- Settles O57, clause by clause: each step of the path by the function that takes it. -/
theorem logPath : Obligations.LogPath := by
  refine ⟨fun i rest n s hm hw hn hf hl => ?_, fun l before after image s hset hlog ho hs hw hi => ?_,
    fun l rest s hd hlog => ?_, fun b rest s hg => ?_, fun v rest s => exec_deletionAdmitted_forms,
    fun v rest e s h hd he => ?_⟩
  · have hn' := freeSlot?_lowest hn hf hl
    exact (stepDue_due (due?_slot hm hw hn')).trans (congrArg _ (takeSlot_front hw hn'))
  · have hany : s.log.any (LogIntent.isWriting l.slot) = true := by
      rw [hlog]
      exact List.any_eq_true.mpr ⟨l, List.mem_append_right _ List.mem_cons_self, isWriting_of hs hw⟩
    refine (event_settled _ hset).trans (congrArg _ ?_)
    unfold ackImage
    rw [if_pos hany]
    dsimp only
    rw [hlog, changeLog_one _ ho (isWriting_of hs hw), wholeImage, hi]
    split <;> simp_all
  · refine (stepDue_due hd).trans (congrArg _ ?_)
    have hr := due?_apply hd
    unfold applyReady at hr
    rw [hlog] at hr
    unfold startApply
    rw [hlog]
    exact if_pos (of_decide_eq_true hr)
  · obtain ⟨granted, hs, hn, hv⟩ := releaseOldest_serves b rest s
    have hspans : (releaseOldest b rest s).spans = b.extents.foldl (fun sp e => returnExtent e sp) s.spans :=
      (releaseOldest_keeps State.spans b rest s).trans (returnBatch_eq b rest s).1
    have hpools (k : PoolId) : (releaseOldest b rest s).pools.get k = _ :=
      (congrArg (·.get k) (releaseOldest_keeps State.pools b rest s)).trans (returnBatch_pools b rest s k)
    refine ⟨granted, hs, (releaseOldest_keeps State.grace b rest s).trans (returnBatch_eq b rest s).2, hn, hv,
      fun h => ?_, fun h => ?_, fun n i hwf => ?_, fun n => ?_, ?_, ?_, ?_, ?_, fun k hk => ?_, releaseOldest_grows b rest s⟩
    · rw [h]; rfl
    · cases rest with
      | nil => exact absurd rfl h
      | cons x t => rfl
    · rw [hspans]; exact returned_free _ _ _ _ hwf
    · rw [hspans]; exact returned_freeCount _ _ _
    · rw [hpools, if_pos rfl]; rfl
    · rw [hpools, if_pos rfl]; rfl
    · rw [hpools, if_pos rfl]; rfl
    · rw [hpools, if_pos rfl]; rfl
    · rw [hpools, if_neg (Ne.symm hk)]
  · have hm := Or.inl (b := s.mode = .frozen) (due?_serving h)
    have hexec : exec (.deletionAdmitted [(.entry v e.1, .uncorrectable)]) s = .next (poisonedRead v e.1 s) := by
      refine (stepDue_due h).trans ?_
      rw [formDeletion_removal _ h hd]
      exact congrArg _ (formRemoval_poison he)
    obtain ⟨hmode, hpoison, hfault, hserving, -⟩ := poisonedRead_records v e.1 hm
    obtain ⟨-, -, -, -, hw, -, hdue, -⟩ := freeze_stops ⟨.mapStore, .uncorrectable⟩ (poisonedBy v e.1 s)
    rw [← poisonedRead_serving v e.1 (due?_serving h)] at hw hdue
    exact ⟨poisonedRead v e.1 s, hexec, hmode, hserving (due?_serving h), hpoison, hfault, hw, hdue,
      poisonedRead_keeps State.maps v e.1 hm, poisonedRead_keeps State.store v e.1 hm⟩

end Sys2Proof.Machine
end

section
/-! PROOFS. The paused deletions that a release, a batch and a drop of grants serve on their way, and the grants that a drop
removes (R65, R112 to R114). -/

namespace Sys2Proof.Machine

open State

variable {s u b : State}

/-! ## Deletions that have been served -/

/-- Paused deletions have been served between two states, and the volumes have changed in nothing else. -/
def served (granted : List Nat) (s u : State) : Prop :=
  serves granted s u ∧ ∀ v, u.volume v = unpaused granted v (s.volume v)

theorem unpaused_nil (v : Nat) (r : Volume) : unpaused [] v r = r := rfl

theorem unpaused_unpaused (v : Nat) (g h : List Nat) (r : Volume) :
    unpaused h v (unpaused g v r) = unpaused (g ++ h) v r := by
  unfold unpaused
  by_cases h1 : v ∈ g
  · by_cases h2 : v ∈ h
    · cases r.deletion <;> simp [h1, h2]
    · simp [h1, h2]
  · simp [h1]

theorem serves_refl (s : State) : serves [] s s := ⟨rfl, (List.append_nil _).symm, rfl⟩

theorem serves_trans {g h : List Nat} (h1 : serves g s b) (h2 : serves h b u) : serves (g ++ h) s u := by
  obtain ⟨a1, b1, c1⟩ := h1
  obtain ⟨a2, b2, c2⟩ := h2
  refine ⟨?_, ?_, ?_⟩
  · rw [a1, a2, List.append_assoc]
  · rw [b2, b1, List.append_assoc]
  · rw [c2, c1, List.length_append, Nat.add_assoc]

/-- The wait list, the deletions that are due and the promises alone decide what has been served. -/
theorem serves_congr {g : List Nat} (h : serves g s u) {t w : State} (ht : t.admissionWait = s.admissionWait)
    (htd : t.deletionsDue = s.deletionsDue) (htp : t.promises = s.promises) (hw : w.admissionWait = u.admissionWait)
    (hwd : w.deletionsDue = u.deletionsDue) (hwp : w.promises = u.promises) : serves g t w := by
  obtain ⟨h1, h2, h3⟩ := h
  exact ⟨by rw [ht, hw, h1], by rw [hwd, htd, h2], by rw [hwp, htp, h3]⟩

theorem served_refl (s : State) : served [] s s := ⟨serves_refl s, fun _ => rfl⟩

theorem served_trans {g h : List Nat} (h1 : served g s b) (h2 : served h b u) : served (g ++ h) s u := by
  obtain ⟨a1, v1⟩ := h1
  obtain ⟨a2, v2⟩ := h2
  exact ⟨serves_trans a1 a2, fun v => by rw [v2, v1, unpaused_unpaused]⟩

/-- What changes neither the wait list nor the promises nor the volumes serves nothing. -/
theorem served_of_keeps (hw : u.admissionWait = s.admissionWait) (hd : u.deletionsDue = s.deletionsDue)
    (hp : u.promises = s.promises) (hv : u.volume = s.volume) : served [] s u :=
  ⟨serves_congr (serves_refl s) rfl rfl rfl hw hd hp, fun v => congrFun hv v⟩

theorem served_of_erasePorts (h : u.erasePorts = s.erasePorts) : served [] s u :=
  served_of_keeps (keeps_of_erasePorts State.admissionWait h) (keeps_of_erasePorts State.deletionsDue h)
    (keeps_of_erasePorts State.promises h) (keeps_of_erasePorts State.volume h)

theorem releaseOldest_served (b : Batch) (rest : List Batch) (s : State) :
    ∃ granted, served granted s (releaseOldest b rest s) := by
  obtain ⟨granted, hs, -, hv⟩ := releaseOldest_serves b rest s
  exact ⟨granted, hs, hv⟩

theorem releaseOldest_grace (b : Batch) (rest : List Batch) (s : State) : (releaseOldest b rest s).grace = rest :=
  (releaseOldest_keeps State.grace b rest s).trans (returnBatch_eq b rest s).2

/-- A test of the release condition serves deletions, and the grace list loses batches at its oldest end alone. -/
theorem releaseLoop_served (n : Nat) (s : State) : ∃ granted, served granted s (releaseLoop n s) ∧
    ∃ released, s.grace = released ++ (releaseLoop n s).grace := by
  induction n generalizing s with
  | zero => exact ⟨[], served_refl s, [], rfl⟩
  | succ n ih =>
    unfold releaseLoop
    split
    · exact ⟨[], served_refl s, [], rfl⟩
    · rename_i x rest hg
      split
      · obtain ⟨g1, h1⟩ := releaseOldest_served x rest s
        obtain ⟨g2, h2, released, hr⟩ := ih (releaseOldest x rest s)
        rw [releaseOldest_grace] at hr
        exact ⟨g1 ++ g2, served_trans h1 h2, x :: released, by rw [hg, List.cons_append, ← hr]⟩
      · exact ⟨[], served_refl s, [], rfl⟩

theorem formBatch_served (k : PoolId) (x : List Extent) (o : Option Port) (v : Option Nat) (s : State) :
    ∃ granted, served granted s (formBatch k x o v s) ∧
      ∃ released, s.grace ++ [⟨s.generation + 1, k, x⟩] = released ++ (formBatch k x o v s).grace := by
  unfold formBatch releaseTest
  obtain ⟨a, ha⟩ : ∃ a : State, a = { s with
    generation := s.generation + 1
    grace := s.grace ++ [⟨s.generation + 1, k, x⟩]
    stall := if s.grace.isEmpty then .quiet s.timing.grace else s.stall } := ⟨_, rfl⟩
  dsimp only
  rw [← ha]
  have he := announceBatch_erase o v (s.generation + 1) a
  obtain ⟨g, hg, released, hr⟩ := releaseLoop_served (announceBatch o v (s.generation + 1) a).grace.length
    (announceBatch o v (s.generation + 1) a)
  refine ⟨g, ?_, released, ?_⟩
  · have h1 : served [] s a := by rw [ha]; exact served_of_keeps rfl rfl rfl rfl
    exact served_trans h1 (served_trans (served_of_erasePorts he) hg)
  · rw [← hr, keeps_of_erasePorts State.grace he, ha]

theorem formPromised_served (f : Forming) (o : Option Port) (v : Nat) (s : State) :
    ∃ granted, served granted { s with promises := s.promises - 1 } (formPromised f o v s) ∧
      ∃ released, s.grace ++ [⟨s.generation + 1, f.pool, f.extents⟩] = released ++ (formPromised f o v s).grace := by
  unfold formPromised
  exact formBatch_served _ _ _ _ { s with promises := s.promises - 1 }

/-! ## The drop of grants -/

/-- A volume record but for its pending count. -/
def Volume.counted (r : Volume) (n : Nat) : Volume := { r with pending := n }

theorem unpaused_counted (g : List Nat) (v n : Nat) (r : Volume) :
    (unpaused g v r).counted n = unpaused g v (r.counted n) := by
  unfold unpaused
  split <;> rfl

theorem dropped_keeps {γ : Type} (f : State → γ) (n : Nat) (g : Grant) (s : State)
    (hf : ∀ (t : State) a b c d, f { t with grants := a, pools := b, volumes := c, tenants := d } = f t := by intros; rfl) :
    f (dropped n g s) = f s := by
  unfold dropped
  cases g.kind with
  | allocate => exact hf s _ _ _ _
  | relocate => exact hf s _ _ s.volumes s.tenants

theorem lowerPending_volume (v n x : Nat) (s : State) : (lowerPending v n s).volume x =
    if v = x then { s.volume v with pending := (s.volume v).pending - n } else s.volume x := by
  unfold lowerPending
  rw [updateVolume_eq, volume_setVolume]
  rfl

/-- A drop touches of the volumes before its batch the pending count of the grant's own. -/
theorem dropped_volume (n : Nat) (g : Grant) (x : Nat) (s : State) :
    ((dropped n g s).volume x).counted 0 = (s.volume x).counted 0 ∧
    (g.volume ≠ x → (dropped n g s).volume x = s.volume x) := by
  unfold dropped
  obtain ⟨a, ha⟩ : ∃ a, a = (s.freeGrant n).updatePool (s.volume g.volume).pool
    (fun r => { r with reserved := r.reserved - g.extents.length, grace := r.grace + g.extents.length }) := ⟨_, rfl⟩
  have hv : a.volume = s.volume := by rw [ha]; rfl
  dsimp only
  rw [← ha]
  cases g.kind with
  | allocate =>
    dsimp only
    rw [lowerPending_volume, hv]
    refine ⟨?_, fun hx => if_neg hx⟩
    split
    · rename_i h; rw [← h]; rfl
    · rfl
  | relocate => exact ⟨by rw [hv], fun _ => by rw [hv]⟩

/-- The drop of a grant has served deletions, and moved no pending count but that of the grant's volume. -/
theorem dropGrant_served (o : Option Port) (n : Nat) (s : State) :
    ∃ granted, serves granted s (dropGrant o n s) ∧
      (∀ x, ((dropGrant o n s).volume x).counted 0 = (unpaused granted x (s.volume x)).counted 0) ∧
      ∀ x, (∀ g, s.grant? n = some g → g.volume ≠ x) → (dropGrant o n s).volume x = unpaused granted x (s.volume x) := by
  cases h : s.grant? n with
  | none =>
    rw [dropGrant_none o n s h]
    exact ⟨[], serves_refl s, fun x => rfl, fun x _ => rfl⟩
  | some g =>
    rw [dropGrant_some o n g s h]
    obtain ⟨d, hd⟩ : ∃ d, d = dropped n g s := ⟨_, rfl⟩
    rw [← hd]
    obtain ⟨granted, ⟨hs, hv⟩, -⟩ :=
      formBatch_served (s.volume g.volume).pool (g.extents.map Prod.snd) o g.invalidates d
    refine ⟨granted, ?_, fun x => ?_, fun x hx => ?_⟩
    · exact serves_congr hs (hd ▸ (dropped_keeps State.admissionWait n g s).symm)
        (hd ▸ (dropped_keeps State.deletionsDue n g s).symm) (hd ▸ (dropped_keeps State.promises n g s).symm) rfl rfl rfl
    · rw [hv, unpaused_counted, hd, (dropped_volume n g x s).1, ← unpaused_counted]
    · rw [hv, hd, (dropped_volume n g x s).2 (hx g rfl)]

theorem dropGrant_grants (o : Option Port) (n : Nat) (s : State) :
    (dropGrant o n s).grants = Table.erase n s.grants := by
  cases h : s.grant? n with
  | none =>
    rw [dropGrant_none o n s h]
    refine (List.filter_eq_self.mpr (fun e he => decide_eq_true (p := e.1 ≠ n) (fun hn => ?_))).symm
    exact (Table.get?_ne_none_iff s.grants n).mpr ⟨e.2, hn ▸ he⟩ h
  | some g => exact (dropGrant_spec o n g s h).1

theorem dropGrants_grants (o : Option Port) (ns : List Nat) (s : State) :
    (dropGrants o ns s).grants = s.grants.filter (fun e => decide (e.1 ∉ ns)) := by
  rw [← Table.foldl_erase]
  unfold dropGrants
  induction ns generalizing s with
  | nil => rfl
  | cons n ns ih => rw [List.foldl_cons, List.foldl_cons, ih, dropGrant_grants]

/-- Of the STAGED grants that meet a test, none is left (R65, R66). -/
theorem dropGrants_staged (o : Option Port) (f : Grant → Bool) (hw : Table.wf s.grants = true) :
    (dropGrants o (s.stagedGrants f) s).grants = s.grants.filter (fun e => !(e.2.isStaged && f e.2)) := by
  rw [dropGrants_grants]
  exact Table.filter_keys s.grants (fun e => e.2.isStaged && f e.2) hw

theorem dropGrants_served (o : Option Port) (ns : List Nat) (s : State) :
    ∃ granted, serves granted s (dropGrants o ns s) ∧
      (∀ x, ((dropGrants o ns s).volume x).counted 0 = (unpaused granted x (s.volume x)).counted 0) ∧
      ∀ x, (∀ n ∈ ns, ∀ g, s.grant? n = some g → g.volume ≠ x) →
        (dropGrants o ns s).volume x = unpaused granted x (s.volume x) := by
  unfold dropGrants
  induction ns generalizing s with
  | nil => exact ⟨[], serves_refl s, fun x => rfl, fun x _ => rfl⟩
  | cons n ns ih =>
    obtain ⟨g1, h1, c1, v1⟩ := dropGrant_served o n s
    obtain ⟨g2, h2, c2, v2⟩ := ih (dropGrant o n s)
    refine ⟨g1 ++ g2, serves_trans h1 h2, fun x => ?_, fun x hx => ?_⟩
    · rw [List.foldl_cons, c2, unpaused_counted, c1, ← unpaused_counted, unpaused_unpaused]
    · rw [List.foldl_cons, v2, v1 x (hx n List.mem_cons_self), unpaused_unpaused]
      intro m hm g hg
      by_cases hmn : n = m
      · subst hmn
        exact hx n List.mem_cons_self g (by
          unfold State.grant? at hg
          rw [dropGrant_grants, Table.get?_erase_self] at hg
          cases hg)
      · refine hx m (List.mem_cons_of_mem _ hm) g ?_
        unfold State.grant? at hg ⊢
        rwa [dropGrant_grants, Table.get?_erase_other _ _ _ hmn] at hg

theorem dropGrant_grows (o : Option Port) (n : Nat) (s : State) : portsGrow s (dropGrant o n s) := by
  unfold dropGrant
  split
  · exact portsGrow_refl s
  · exact portsGrow_after (formBatch_grows _ _ _ _ _) (dropped_keeps State.ports _ _ s)

theorem dropGrants_grows (o : Option Port) (ns : List Nat) (s : State) : portsGrow s (dropGrants o ns s) :=
  foldl_grows (fun b n => dropGrant_grows o n b) _ _

/-- The drop of nothing does nothing. -/
theorem dropGrants_nil (o : Option Port) (s : State) : dropGrants o [] s = s := rfl

end Sys2Proof.Machine
end

section
/-! PROOFS. The effects of an intent on the volatile tables (R148, Table 8-4). -/

namespace Sys2Proof.Machine

open State

variable {s u b : State} {l : LogIntent} {rest : List LogIntent} {e : Effect} {v i : Nat}

/-! ## One record at a time -/

theorem lowerPending_tenant (v n x : Nat) (s : State) : (lowerPending v n s).tenant x =
    if (s.volume v).tenant = x then
      { s.tenant (s.volume v).tenant with pending := (s.tenant (s.volume v).tenant).pending - n }
    else s.tenant x := by
  unfold lowerPending
  exact tenant_updateTenant (s.volume v).tenant x (fun t => { t with pending := t.pending - n }) s

theorem raiseMapped_volume (v x : Nat) (s : State) : (raiseMapped v s).volume x =
    if v = x then { s.volume v with mapped := (s.volume v).mapped + 1 } else s.volume x := by
  unfold raiseMapped
  rw [updateVolume_eq, volume_setVolume]
  rfl

theorem raiseMapped_tenant (v x : Nat) (s : State) : (raiseMapped v s).tenant x =
    if (s.volume v).tenant = x then
      { s.tenant (s.volume v).tenant with used := (s.tenant (s.volume v).tenant).used + 1 }
    else s.tenant x := by
  unfold raiseMapped
  exact tenant_updateTenant (s.volume v).tenant x (fun t => { t with used := t.used + 1 }) s

theorem lowerMapped_volume (v x : Nat) (s : State) : (lowerMapped v s).volume x =
    if v = x then { s.volume v with mapped := (s.volume v).mapped - 1 } else s.volume x := by
  unfold lowerMapped
  rw [updateVolume_eq, volume_setVolume]
  rfl

theorem lowerMapped_tenant (v x : Nat) (s : State) : (lowerMapped v s).tenant x =
    if (s.volume v).tenant = x then
      { s.tenant (s.volume v).tenant with used := (s.tenant (s.volume v).tenant).used - 1 }
    else s.tenant x := by
  unfold lowerMapped
  exact tenant_updateTenant (s.volume v).tenant x (fun t => { t with used := t.used - 1 }) s

/-- What reads neither volumes nor tenants is kept by a move of counts. -/
theorem lowerPending_keeps {γ : Type} (g : State → γ) (v n : Nat) (s : State)
    (hg : ∀ (t : State) x y, g { t with volumes := x, tenants := y } = g t := by intros; rfl) :
    g (lowerPending v n s) = g s := hg s _ _

theorem raiseMapped_keeps {γ : Type} (g : State → γ) (v : Nat) (s : State)
    (hg : ∀ (t : State) x y, g { t with volumes := x, tenants := y } = g t := by intros; rfl) :
    g (raiseMapped v s) = g s := hg s _ _

theorem lowerMapped_keeps {γ : Type} (g : State → γ) (v : Nat) (s : State)
    (hg : ∀ (t : State) x y, g { t with volumes := x, tenants := y } = g t := by intros; rfl) :
    g (lowerMapped v s) = g s := hg s _ _

theorem setLatch_keeps {γ : Type} (g : State → γ) (v : Nat) (b : Bool) (s : State)
    (hg : ∀ (t : State) x y z, g { t with ports := x, volumes := y, watches := z } = g t := by intros; rfl) :
    g (setLatch v b s) = g s := by
  rw [setLatch_touches]
  exact hg s _ _ _

theorem leaveGrant_some {n : Nat} {g : Grant} (i : Nat) (h : s.grant? n = some g) :
    leaveGrant (some n) i s = s.setGrant n { g with extents := g.extents.filter (fun e => decide (e.1 ≠ i)) } := by
  unfold leaveGrant
  dsimp only
  rw [h]

theorem entry?_setMap (v w i : Nat) (m : Table Entry) (s : State) :
    (s.setMap v m).entry? w i = if v = w then Table.get? m i else s.entry? w i := by
  unfold State.entry?
  rw [mapOf_setMap]
  split <;> rfl

/-- An entry that is written reads back, and every other stands. -/
theorem entries_of_insert {x : Entry} (hu : u.maps = (s.setMap v (Table.insert i x (s.mapOf v))).maps) :
    u.entry? v i = some x ∧ ∀ w j, (w, j) ≠ (v, i) → u.entry? w j = s.entry? w j := by
  have he (w j : Nat) : u.entry? w j = (s.setMap v (Table.insert i x (s.mapOf v))).entry? w j :=
    congrArg (fun m => Table.get? (Table.getD [] m w) j) hu
  refine ⟨?_, fun w j h => ?_⟩
  · rw [he, entry?_setMap, if_pos rfl, Table.get?_insert_self]
  · rw [he, entry?_setMap]
    split
    · subst_vars
      rw [Table.get?_insert_other _ _ _ _ (fun hij => h (by rw [hij]))]
      rfl
    · rfl

/-- An entry that is removed is gone, and every other stands. -/
theorem entries_of_erase (hu : u.maps = (s.setMap v (Table.erase i (s.mapOf v))).maps) :
    u.entry? v i = none ∧ ∀ w j, (w, j) ≠ (v, i) → u.entry? w j = s.entry? w j := by
  have he (w j : Nat) : u.entry? w j = (s.setMap v (Table.erase i (s.mapOf v))).entry? w j :=
    congrArg (fun m => Table.get? (Table.getD [] m w) j) hu
  refine ⟨?_, fun w j h => ?_⟩
  · rw [he, entry?_setMap, if_pos rfl, Table.get?_erase_self]
  · rw [he, entry?_setMap]
    split
    · subst_vars
      rw [Table.get?_erase_other _ _ _ (fun hij => h (by rw [hij]))]
      rfl
    · rfl

theorem cellsOf_setCells (m : MapStore) (v : Nat) (c : Table Entry) : (m.setCells v c).cellsOf v = c :=
  Table.getD_setD_self _ _ _ _

/-- A judged level touches its pool and the ports. -/
theorem judgeLevel_touches (k : PoolId) (s : State) :
    judgeLevel k s = { s with ports := (judgeLevel k s).ports, pools := (judgeLevel k s).pools } :=
  (congrArg (fun x : State => { x with ports := (judgeLevel k s).ports, pools := (judgeLevel k s).pools })
    (judgeLevel_erase k s) :)

/-- A change of one pool that is then judged. -/
theorem judged_pools (k j : PoolId) (f : Pool → Pool) (s : State) :
    (judgeLevel k (s.updatePool k f)).pools.get j =
      if k = j then { f (s.pools.get k) with level := (f (s.pools.get k)).judged } else s.pools.get j := by
  rw [judgeLevel_pools, putAt_get, updatePool_pools]
  split
  · rw [putAt_get_self]
  · rename_i h; rw [putAt_get_other _ _ _ _ h]

/-! ## The acknowledgement of an effect -/

/-- The write of this effect is under way: that of the next one of the first intent in the log (R148). -/
def effectOut (l : LogIntent) (rest : List LogIntent) (e : Effect) (s : State) : Prop :=
  settled s ∧ s.log = l :: rest ∧ l.state = .applying ∧ l.writeOut = true ∧ l.intent.effects[l.applied]? = some e

theorem effectOut?_some (h : effectOut l rest e s) : effectOut? s = some (l, e) := by
  obtain ⟨-, hlog, hst, hw, he⟩ := h
  unfold effectOut?
  rw [hlog]
  dsimp only
  rw [if_pos ⟨hst, hw⟩, he]
  rfl

theorem correctedRead_entry (v i : Nat) (s : State) : correctedRead (.entry v i) s = cellCorrected v i s := by
  have hn : noWriteBack (.entry v i) s = true ↔
      s.mode = .frozen ∨ s.recovery.writesStopped = true ∨ StoreArea.entry v i ∈ s.writeBacks := by
    simp [noWriteBack, or_assoc]
  unfold cellCorrected
  simp only [← hn]
  rfl

theorem exec_effectWriteAck (c : Bool) (h : effectOut l rest e s)
    (hb : effectCorrected c e { s with store := s.store.write e } = b) : exec (.effectWriteAck c) s =
      .next (if b.mode = .serving then applyNext l e b else changeFront (fun l => { l with writeOut := false }) b) := by
  refine (event_settled _ h.1).trans (congrArg _ ?_)
  unfold ackEffect
  rw [effectOut?_some h, ← hb]

theorem exec_effectWriteAck_corrected (h : effectOut l rest e s) (hr : e.readsCell = some (v, i)) :
    exec (.effectWriteAck true) s = exec (.effectWriteAck false) (cellCorrected v i s) := by
  have hc : effectCorrected true e { s with store := s.store.write e } =
      cellCorrected v i { s with store := s.store.write e } := by
    unfold effectCorrected
    rw [hr]
    exact correctedRead_entry _ _ _
  have h' : effectOut l rest e (cellCorrected v i s) := h
  rw [exec_effectWriteAck true h hc, exec_effectWriteAck false h' rfl]
  rfl

theorem exec_effectWriteAck_unread (h : effectOut l rest e s) (hr : e.readsCell = none) :
    exec (.effectWriteAck true) s = exec (.effectWriteAck false) s := by
  have hc : effectCorrected true e { s with store := s.store.write e } = { s with store := s.store.write e } := by
    unfold effectCorrected
    rw [hr]
  rw [exec_effectWriteAck true h hc, exec_effectWriteAck false h rfl]
  rfl

theorem changeFront_log (f : LogIntent → LogIntent) (h : b.log = l :: rest) :
    changeFront f b = { b with log := f l :: rest } := by
  unfold changeFront
  rw [h]

theorem exec_effectWriteAck_frozen (h : effectOut l rest e s) (hm : s.mode = .frozen) :
    exec (.effectWriteAck false) s =
      .next { s with store := s.store.write e, log := { l with writeOut := false } :: rest } := by
  rw [exec_effectWriteAck false h (b := { s with store := s.store.write e }) rfl,
    if_neg (by rw [hm]; decide)]
  exact congrArg _ (changeFront_log _ h.2.1)

/-- While SERVING the effect is applied to the tables and the next write begins. -/
theorem exec_effectWriteAck_serving (h : effectOut l rest e s) (hm : s.mode = .serving) {t : State} {x : List Extent}
    (ht : applyEffect l.intent.kind e { s with store := s.store.write e } = (t, x)) (hl : t.log = s.log) :
    exec (.effectWriteAck false) s = .next { t with log := l.advanced x :: rest } := by
  rw [exec_effectWriteAck false h (b := { s with store := s.store.write e }) rfl, if_pos hm]
  unfold applyNext
  rw [ht]
  exact congrArg _ (changeFront_log _ (hl.trans h.2.1))

/-- An effect that sends no extent to the forming batch advances the intent alone. -/
theorem advanced_nil (l : LogIntent) : l.advanced [] = { l with applied := l.applied + 1 } := by
  have hj : Forming.join [] = id := funext (fun f => by
    show (⟨f.pool, f.extents ++ []⟩ : Forming) = f
    rw [List.append_nil])
  unfold LogIntent.advanced
  rw [hj, Option.map_id, id]

theorem exec_effectWriteAck_plain (h : effectOut l rest e s) (hm : s.mode = .serving) {t : State}
    (ht : applyEffect l.intent.kind e { s with store := s.store.write e } = (t, [])) (hl : t.log = s.log) :
    exec (.effectWriteAck false) s = .next { t with log := { l with applied := l.applied + 1 } :: rest } := by
  rw [exec_effectWriteAck_serving h hm ht hl, advanced_nil]

theorem advanced_forming {f : Forming} (x : List Extent) (hf : l.intent.forming = some f) :
    l.advanced x = { l with
      applied := l.applied + 1
      intent := { l.intent with forming := some ⟨f.pool, f.extents ++ x⟩ } } := by
  unfold LogIntent.advanced
  rw [hf]
  rfl

/-! ## Tenants, pools and spans -/

theorem effect_setTenant {te : Nat} {q : Option Nat} (h : effectOut l rest (.setTenant te q) s) (hm : s.mode = .serving) :
    ∃ u, exec (.effectWriteAck false) s = .next u ∧
      u.tenant te = { s.tenant te with quota := q } ∧ (∀ x, x ≠ te → u.tenant x = s.tenant x) ∧
      Table.get? u.store.quotas te = q ∧
      u = { s with
        store := s.store.write (.setTenant te q), tenants := u.tenants, log := { l with applied := l.applied + 1 } :: rest } := by
  refine ⟨_, exec_effectWriteAck_plain h hm rfl rfl, ?_, fun x hx => ?_, ?_, rfl⟩
  · exact (tenant_updateTenant te te (fun r => { r with quota := q }) s).trans (if_pos rfl)
  · exact (tenant_updateTenant te x (fun r => { r with quota := q }) s).trans (if_neg (Ne.symm hx))
  · cases q with
    | none => exact Table.get?_erase_self _ _
    | some q => exact Table.get?_insert_self _ _ _

/-- An effect that judges the level of the one pool that it changes: the pools, the ports and the rest. -/
theorem effect_judged {k : PoolId} {f : Pool → Pool} {c : State} (h : effectOut l rest e s) (hm : s.mode = .serving)
    (hc : c = { s with store := s.store.write e, spans := c.spans })
    (ht : applyEffect l.intent.kind e { s with store := s.store.write e } = (judgeLevel k (c.updatePool k f), [])) :
    ∃ u, exec (.effectWriteAck false) s = .next u ∧
      u.pools.get k = { f (s.pools.get k) with level := (f (s.pools.get k)).judged } ∧
      (∀ j, j ≠ k → u.pools.get j = s.pools.get j) ∧ portsGrow s u ∧
      u = { s with
        store := s.store.write e, spans := c.spans, pools := u.pools, ports := u.ports,
        log := { l with applied := l.applied + 1 } :: rest } := by
  obtain ⟨t, htj⟩ : ∃ t, t = judgeLevel k (c.updatePool k f) := ⟨_, rfl⟩
  have hcp : c.pools = s.pools := by rw [hc]
  have hcq : c.ports = s.ports := by rw [hc]
  have hp (j : PoolId) : t.pools.get j =
      if k = j then { f (s.pools.get k) with level := (f (s.pools.get k)).judged } else s.pools.get j := by
    rw [htj, judged_pools, hcp]
  have hl : t.log = s.log := by rw [htj, judgeLevel_keeps State.log, updatePool_log, hc]
  have hg : portsGrow s t := by
    rw [htj]
    exact portsGrow_after (judgeLevel_grows k (c.updatePool k f)) hcq
  have hu : t = { c with ports := t.ports, pools := t.pools } := by
    have := judgeLevel_touches k (c.updatePool k f)
    rw [← htj] at this
    exact this
  rw [← htj] at ht
  refine ⟨_, exec_effectWriteAck_plain h hm ht hl, (hp k).trans (if_pos rfl), fun j hj => (hp j).trans (if_neg (Ne.symm hj)),
    hg, ?_⟩
  dsimp only
  rw [hu, hc]

theorem effect_setPool {k : PoolId} {settings : PoolSettings} (h : effectOut l rest (.setPool k settings) s)
    (hm : s.mode = .serving) :
    ∃ u, exec (.effectWriteAck false) s = .next u ∧
      (u.pools.get k) = { s.pools.get k with settings := settings, level := (u.pools.get k).judged } ∧
      (∀ j, j ≠ k → u.pools.get j = s.pools.get j) ∧ portsGrow s u ∧
      u = { s with
        store := { s.store with pools := putAt s.store.pools k settings }, pools := u.pools, ports := u.ports,
        log := { l with applied := l.applied + 1 } :: rest } := by
  obtain ⟨u, hu, hk, hj, hg, ht⟩ := effect_judged (c := { s with store := s.store.write (.setPool k settings) }) h hm rfl rfl
  exact ⟨u, hu, by rw [hk]; rfl, hj, hg, ht⟩

theorem applySpan_add {n : SpanId} (k : PoolId) (len : Nat) (h : (s.spans.get n).state = .absent) :
    applySpan n .online k len s =
      judgeLevel k ((s.updateSpan n (fun _ => ⟨.online, k, len, FreeSet.full len, len, 0⟩)).updatePool k (fun r =>
        { r with capacity := r.capacity + len, free := r.free + len, allocatable := r.allocatable + len })) := by
  unfold applySpan
  dsimp only
  rw [h]

theorem applySpan_drain {n : SpanId} (k : PoolId) (len : Nat) (h : (s.spans.get n).state = .online) :
    applySpan n .draining k len s =
      judgeLevel k ((s.updateSpan n (fun r => { r with state := .draining })).updatePool k (fun r =>
        { r with allocatable := r.allocatable - (s.spans.get n).freeCount })) := by
  unfold applySpan
  dsimp only
  rw [h]

theorem applySpan_resume {n : SpanId} (k : PoolId) (len : Nat) (h : (s.spans.get n).state = .draining) :
    applySpan n .online k len s =
      judgeLevel k ((s.updateSpan n (fun r => { r with state := .online })).updatePool k (fun r =>
        { r with allocatable := r.allocatable + (s.spans.get n).freeCount })) := by
  unfold applySpan
  dsimp only
  rw [h]

theorem applySpan_remove {n : SpanId} (k : PoolId) (len : Nat) (h : (s.spans.get n).state = .draining) :
    applySpan n .absent k len s =
      (s.updateSpan n (fun _ => .absent)).updatePool k (fun r =>
        { r with capacity := r.capacity - len, free := r.free - len }) := by
  unfold applySpan
  dsimp only
  rw [h]

theorem effect_addSpan {n : SpanId} {k : PoolId} {len : Nat} (h : effectOut l rest (.setSpan n .online k len) s)
    (hm : s.mode = .serving) (hs : (s.spans.get n).state = .absent) :
    ∃ u, exec (.effectWriteAck false) s = .next u ∧
      u.spans = putAt s.spans n ⟨.online, k, len, FreeSet.full len, len, 0⟩ ∧
      (u.pools.get k).capacity = (s.pools.get k).capacity + len ∧ (u.pools.get k).free = (s.pools.get k).free + len ∧
      (u.pools.get k).allocatable = (s.pools.get k).allocatable + len ∧
      (u.pools.get k).level = (u.pools.get k).judged ∧ (∀ j, j ≠ k → u.pools.get j = s.pools.get j) ∧ portsGrow s u ∧
      u = { s with
        store := { s.store with spans := putAt s.store.spans n ⟨.online, k, len⟩ }, spans := u.spans,
        pools := u.pools, ports := u.ports, log := { l with applied := l.applied + 1 } :: rest } := by
  obtain ⟨u, hu, hk, hj, hg, ht⟩ := effect_judged
    (c := State.updateSpan n (fun _ => ⟨.online, k, len, FreeSet.full len, len, 0⟩)
      { s with store := s.store.write (.setSpan n .online k len) }) h hm rfl (congrArg (·, []) (applySpan_add k len hs))
  have hspans : u.spans = putAt s.spans n ⟨.online, k, len, FreeSet.full len, len, 0⟩ := by rw [ht]; rfl
  exact ⟨u, hu, hspans, by rw [hk], by rw [hk], by rw [hk], by rw [hk]; rfl, hj, hg, by rw [hspans]; exact ht⟩

theorem effect_turnSpan {n : SpanId} {k : PoolId} {len : Nat} {st : SpanState}
    (h : effectOut l rest (.setSpan n st k len) s) (hm : s.mode = .serving)
    (hs : (s.spans.get n).state = .online ∧ st = .draining ∨ (s.spans.get n).state = .draining ∧ st = .online) :
    ∃ u, exec (.effectWriteAck false) s = .next u ∧
      u.spans = putAt s.spans n { s.spans.get n with state := st } ∧
      (u.pools.get k) = { s.pools.get k with
        allocatable := (s.pools.get k).allocatable +
          (if st = .online then ((s.spans.get n).freeCount : Int) else -((s.spans.get n).freeCount : Int))
        level := (u.pools.get k).judged } ∧
      (∀ j, j ≠ k → u.pools.get j = s.pools.get j) ∧ portsGrow s u ∧
      u = { s with
        store := { s.store with spans := putAt s.store.spans n ⟨st, k, len⟩ }, spans := u.spans,
        pools := u.pools, ports := u.ports, log := { l with applied := l.applied + 1 } :: rest } := by
  rcases hs with ⟨hs, rfl⟩ | ⟨hs, rfl⟩
  · obtain ⟨u, hu, hk, hj, hg, ht⟩ := effect_judged
      (c := State.updateSpan n (fun r => { r with state := .draining })
        { s with store := s.store.write (.setSpan n .draining k len) }) h hm rfl (congrArg (·, []) (applySpan_drain k len hs))
    have hspans : u.spans = putAt s.spans n { s.spans.get n with state := .draining } := by rw [ht]; rfl
    refine ⟨u, hu, hspans, ?_, hj, hg, by rw [hspans]; exact ht⟩
    rw [hk, if_neg (by decide), ← Int.sub_eq_add_neg]
    rfl
  · obtain ⟨u, hu, hk, hj, hg, ht⟩ := effect_judged
      (c := State.updateSpan n (fun r => { r with state := .online })
        { s with store := s.store.write (.setSpan n .online k len) }) h hm rfl (congrArg (·, []) (applySpan_resume k len hs))
    have hspans : u.spans = putAt s.spans n { s.spans.get n with state := .online } := by rw [ht]; rfl
    refine ⟨u, hu, hspans, ?_, hj, hg, by rw [hspans]; exact ht⟩
    rw [hk, if_pos rfl]
    rfl

theorem effect_removeSpan {n : SpanId} {k : PoolId} {len : Nat} (h : effectOut l rest (.setSpan n .absent k len) s)
    (hm : s.mode = .serving) (hs : (s.spans.get n).state = .draining) :
    exec (.effectWriteAck false) s = .next { s with
      store := { s.store with spans := putAt s.store.spans n .absent }
      spans := putAt s.spans n .absent
      pools := putAt s.pools k { s.pools.get k with
        capacity := (s.pools.get k).capacity - len, free := (s.pools.get k).free - len }
      log := { l with applied := l.applied + 1 } :: rest } :=
  exec_effectWriteAck_plain h hm (congrArg (·, []) (applySpan_remove k len hs)) rfl

end Sys2Proof.Machine
end

section
/-! PROOFS. The effects on entries and volumes (R148, Table 8-4). -/

namespace Sys2Proof.Machine

open State

variable {s u b : State} {l : LogIntent} {rest : List LogIntent} {e : Effect} {v i : Nat}

/-! ## Effects on an entry -/

/-- Everything but the tables that an effect on an entry changes. -/
def State.eraseTables (s : State) : State :=
  { s with maps := [], grants := [], pools := Vector.replicate 8 .empty, volumes := [], tenants := [] }

theorem setMap_tables (v : Nat) (m : Table Entry) (s : State) : (s.setMap v m).eraseTables = s.eraseTables := rfl

theorem setGrant_tables (n : Nat) (g : Grant) (s : State) : (s.setGrant n g).eraseTables = s.eraseTables := rfl

theorem updatePool_tables (k : PoolId) (f : Pool → Pool) (s : State) : (s.updatePool k f).eraseTables = s.eraseTables := rfl

theorem lowerPending_tables (v n : Nat) (s : State) : (lowerPending v n s).eraseTables = s.eraseTables := rfl

theorem raiseMapped_tables (v : Nat) (s : State) : (raiseMapped v s).eraseTables = s.eraseTables := rfl

theorem lowerMapped_tables (v : Nat) (s : State) : (lowerMapped v s).eraseTables = s.eraseTables := rfl

theorem eraseTables_touches (h : u.eraseTables = s.eraseTables) : u = { s with
    maps := u.maps, grants := u.grants, pools := u.pools, volumes := u.volumes, tenants := u.tenants } :=
  (congrArg (fun x : State => { x with
    maps := u.maps, grants := u.grants, pools := u.pools, volumes := u.volumes, tenants := u.tenants }) h :)

/-- An effect that ends with the latch of its volume: what it changes besides is read off the tables before the latch. -/
theorem effect_latched {c : State} {x : List Extent} (h : effectOut l rest e s) (hm : s.mode = .serving)
    (ht : applyEffect l.intent.kind e { s with store := s.store.write e } = (setLatch v true c, x))
    (hc : c.eraseTables = State.eraseTables { s with store := s.store.write e }) :
    ∃ u, exec (.effectWriteAck false) s = .next u ∧ u.maps = c.maps ∧ u.store = s.store.write e ∧ u.grants = c.grants ∧
      u.pools = c.pools ∧ u.tenants = c.tenants ∧ u.volume v = { c.volume v with latch := true } ∧
      (∀ w, w ≠ v → u.volume w = c.volume w) ∧ u.log = l.advanced x :: rest ∧ portsGrow s u ∧
      u = { s with
        store := s.store.write e, log := u.log, maps := u.maps, grants := u.grants, pools := u.pools,
        volumes := u.volumes, tenants := u.tenants, watches := u.watches, ports := u.ports } := by
  have hct := eraseTables_touches hc
  have hports : c.ports = s.ports := by rw [hct]
  have hlog : (setLatch v true c).log = s.log := by rw [setLatch_keeps State.log, hct]
  have hstore : (setLatch v true c).store = s.store.write e := by rw [setLatch_keeps State.store, hct]
  have hg : portsGrow s (setLatch v true c) := portsGrow_after (setLatch_grows v true c) hports
  refine ⟨_, exec_effectWriteAck_serving h hm ht hlog, setLatch_keeps State.maps _ _ _, hstore,
    setLatch_keeps State.grants _ _ _, setLatch_keeps State.pools _ _ _, setLatch_keeps State.tenants _ _ _,
    (setLatch_volume v v true c).trans (if_pos rfl), fun w hw => (setLatch_volume v w true c).trans (if_neg (Ne.symm hw)),
    rfl, hg, ?_⟩
  obtain ⟨t, htt⟩ : ∃ t, t = setLatch v true c := ⟨_, rfl⟩
  have hu := setLatch_touches v true c
  rw [← htt] at hu ⊢
  dsimp only
  rw [hu, hct]

/-- The tables with an entry that a grant has bound, before the latch is set (R58). -/
def entryBound (v i : Nat) (x : Extent) (m : Mask) (n : Nat) (g : Grant) (s : State) : State :=
  raiseMapped v (lowerPending v 1
    (((s.setMap v (Table.insert i ⟨x, m⟩ (s.mapOf v))).setGrant n
      { g with extents := g.extents.filter (fun y => decide (y.1 ≠ i)) }).updatePool (s.volume v).pool
      (fun r => { r with reserved := r.reserved - 1, used := r.used + 1 })))

theorem applyEntry_new {n : Nat} {adv : Bool} {g : Grant} (x : Extent) (m : Mask) (hg : s.grant? n = some g)
    (he : s.entry? v i = none) :
    applyEntry (.bind n adv) v i x m s = setLatch v true (entryBound v i x m n g s) := by
  unfold applyEntry
  rw [he]
  have hl : leaveGrant (some n) i (s.putEntry v i ⟨x, m⟩) = (s.putEntry v i ⟨x, m⟩).setGrant n
      { g with extents := g.extents.filter (fun y => decide (y.1 ≠ i)) } := leaveGrant_some i hg
  dsimp only [IntentKind.grant?]
  rw [hl]
  rfl

theorem entryBound_tables (x : Extent) (m : Mask) (n : Nat) (g : Grant) (s : State) :
    (entryBound v i x m n g s).eraseTables = s.eraseTables := by
  unfold entryBound
  rw [raiseMapped_tables, lowerPending_tables, updatePool_tables, setGrant_tables, setMap_tables]

/-- What reads no volume and no tenant is as the entry, the grant and the pool leave it. -/
theorem entryBound_reads {γ : Type} (f : State → γ) (x : Extent) (m : Mask) (n : Nat) (g : Grant) (s : State)
    (hf : ∀ (t : State) x y, f { t with volumes := x, tenants := y } = f t := by intros; rfl) :
    f (entryBound v i x m n g s) = f (((s.setMap v (Table.insert i ⟨x, m⟩ (s.mapOf v))).setGrant n
      { g with extents := g.extents.filter (fun y => decide (y.1 ≠ i)) }).updatePool (s.volume v).pool
      (fun r => { r with reserved := r.reserved - 1, used := r.used + 1 })) := by
  unfold entryBound
  rw [raiseMapped_keeps f v _ hf, lowerPending_keeps f v 1 _ hf]

/-- Both counts of a volume move as an index that was pending is mapped. -/
theorem mapPending_volume (v w : Nat) (s : State) : (raiseMapped v (lowerPending v 1 s)).volume w = if v = w then
    { s.volume v with mapped := (s.volume v).mapped + 1, pending := (s.volume v).pending - 1 } else s.volume w := by
  rw [raiseMapped_volume, lowerPending_volume, lowerPending_volume, if_pos rfl]
  split <;> rfl

theorem mapPending_tenant (v y : Nat) (s : State) : (raiseMapped v (lowerPending v 1 s)).tenant y =
    if (s.volume v).tenant = y then
      { s.tenant (s.volume v).tenant with
        used := (s.tenant (s.volume v).tenant).used + 1, pending := (s.tenant (s.volume v).tenant).pending - 1 }
    else s.tenant y := by
  rw [raiseMapped_tenant, lowerPending_volume, if_pos rfl]
  dsimp only
  rw [lowerPending_tenant, lowerPending_tenant, if_pos rfl]
  split <;> rfl

theorem entryBound_volume (x : Extent) (m : Mask) (n : Nat) (g : Grant) (w : Nat) (s : State) :
    (entryBound v i x m n g s).volume w = if v = w then
      { s.volume v with mapped := (s.volume v).mapped + 1, pending := (s.volume v).pending - 1 } else s.volume w :=
  mapPending_volume v w _

theorem entryBound_tenant (x : Extent) (m : Mask) (n : Nat) (g : Grant) (y : Nat) (s : State) :
    (entryBound v i x m n g s).tenant y = if (s.volume v).tenant = y then
      { s.tenant (s.volume v).tenant with
        used := (s.tenant (s.volume v).tenant).used + 1, pending := (s.tenant (s.volume v).tenant).pending - 1 }
    else s.tenant y := mapPending_tenant v y _

/-- SET_ENTRY of a Bind, on an index that has no entry (R10, R58). -/
theorem effect_setEntry {x : Extent} {m : Mask} {n : Nat} {adv : Bool} {g : Grant}
    (h : effectOut l rest (.setEntry v i x m) s) (hm : s.mode = .serving) (hk : l.intent.kind = .bind n adv)
    (hg : s.grant? n = some g) (he : s.entry? v i = none) :
    ∃ u, exec (.effectWriteAck false) s = .next u ∧ u.entry? v i = some ⟨x, m⟩ ∧
      (∀ w j, (w, j) ≠ (v, i) → u.entry? w j = s.entry? w j) ∧
      Table.get? (u.store.cellsOf v) i = some ⟨x, m⟩ ∧
      u.grants = Table.insert n { g with extents := g.extents.filter (fun y => decide (y.1 ≠ i)) } s.grants ∧
      u.pools = putAt s.pools (s.volume v).pool { s.pools.get (s.volume v).pool with
        reserved := (s.pools.get (s.volume v).pool).reserved - 1
        used := (s.pools.get (s.volume v).pool).used + 1 } ∧
      u.volume v = { s.volume v with
        mapped := (s.volume v).mapped + 1, pending := (s.volume v).pending - 1, latch := true } ∧
      (∀ w, w ≠ v → u.volume w = s.volume w) ∧ (∀ y, y ≠ (s.volume v).tenant → u.tenant y = s.tenant y) ∧
      u.tenant (s.volume v).tenant = { s.tenant (s.volume v).tenant with
        used := (s.tenant (s.volume v).tenant).used + 1
        pending := (s.tenant (s.volume v).tenant).pending - 1 } ∧
      u.log = { l with applied := l.applied + 1 } :: rest ∧ portsGrow s u ∧
      u = { s with
        store := s.store.write (.setEntry v i x m), log := u.log, maps := u.maps, grants := u.grants, pools := u.pools,
        volumes := u.volumes, tenants := u.tenants, watches := u.watches, ports := u.ports } := by
  obtain ⟨b, hb⟩ : ∃ b : State, b = { s with store := s.store.write (.setEntry v i x m) } := ⟨_, rfl⟩
  have hbg : b.grant? n = some g := hb ▸ hg
  have hbe : b.entry? v i = none := hb ▸ he
  have ht : applyEffect l.intent.kind (.setEntry v i x m) b = (setLatch v true (entryBound v i x m n g b), []) := by
    rw [hk]
    exact congrArg (·, []) (applyEntry_new x m hbg hbe)
  have hv : b.volume = s.volume := by rw [hb]; rfl
  have hte : b.tenant = s.tenant := by rw [hb]; rfl
  have hp : b.pools = s.pools := by rw [hb]
  have hgr : b.grants = s.grants := by rw [hb]
  have hen : b.entry? = s.entry? := by rw [hb]; rfl
  obtain ⟨c, hcb⟩ : ∃ c, c = entryBound v i x m n g b := ⟨_, rfl⟩
  rw [← hcb, hb] at ht
  obtain ⟨u, hu, hmaps, hstore, hgrants, hpools, htenants, hvol, hother, hlog, hgrow, htouch⟩ :=
    effect_latched h hm ht (by rw [hcb, entryBound_tables, hb])
  have hcv (w : Nat) := entryBound_volume (v := v) (i := i) x m n g w b
  have hct (y : Nat) := entryBound_tenant (v := v) (i := i) x m n g y b
  rw [← hcb, hv] at hcv
  rw [← hcb, hv, hte] at hct
  have hut (y : Nat) : u.tenant y = c.tenant y := congrArg (fun t => Table.getD Tenant.fresh t y) htenants
  obtain ⟨hself, helse⟩ := entries_of_insert (s := b) (u := u) (x := ⟨x, m⟩)
    (hmaps.trans ((congrArg State.maps hcb).trans (entryBound_reads State.maps x m n g b)))
  refine ⟨u, hu, hself, fun w j hwj => (helse w j hwj).trans (by rw [hen]), ?_, ?_, ?_, ?_, fun w hw => ?_, fun y hy => ?_, ?_,
    ?_, hgrow, htouch⟩
  · rw [hstore]
    exact (congrArg (Table.get? · i) (cellsOf_setCells _ _ _)).trans (Table.get?_insert_self _ _ _)
  · rw [hgrants, hcb, entryBound_reads State.grants, ← hgr]
    rfl
  · rw [hpools, hcb, entryBound_reads State.pools, ← hp, ← hv]
    rfl
  · rw [hvol, hcv, if_pos rfl]
  · rw [hother w hw, hcv, if_neg (Ne.symm hw)]
  · rw [hut, hct, if_neg (Ne.symm hy)]
  · rw [hut, hct, if_pos rfl]
  · rw [hlog, advanced_nil]

/-- The tables with an entry that a relocation has moved, before the latch is set (R132). -/
def entryMoved (v i : Nat) (y : Entry) (n : Nat) (g : Grant) (s : State) : State :=
  ((s.setMap v (Table.insert i y (s.mapOf v))).setGrant n
    { g with extents := g.extents.filter (fun z => decide (z.1 ≠ i)) }).updatePool (s.volume v).pool
    (fun r => { r with reserved := r.reserved - 1, grace := r.grace + 1 })

theorem applyPlacement_moves {n : Nat} {g : Grant} {y : Entry} (x : Extent) (hg : s.grant? n = some g)
    (he : s.entry? v i = some y) : applyPlacement (.move n) v i x s =
      (setLatch v true (entryMoved v i { y with placement := x } n g s), [y.placement]) := by
  unfold applyPlacement
  rw [he]
  have hl : leaveGrant (some n) i (s.putEntry v i { y with placement := x }) =
      (s.putEntry v i { y with placement := x }).setGrant n
        { g with extents := g.extents.filter (fun z => decide (z.1 ≠ i)) } := leaveGrant_some i hg
  dsimp only [IntentKind.grant?]
  rw [hl]
  rfl

/-- SET_PLACEMENT of a CompleteRelocate (R10, R132). -/
theorem effect_setPlacement {x : Extent} {n : Nat} {g : Grant} {f : Forming} {y : Entry}
    (h : effectOut l rest (.setPlacement v i x) s) (hm : s.mode = .serving) (hk : l.intent.kind = .move n)
    (hg : s.grant? n = some g) (hf : l.intent.forming = some f) (he : s.entry? v i = some y) :
    ∃ u, exec (.effectWriteAck false) s = .next u ∧ u.entry? v i = some { y with placement := x } ∧
      (∀ w j, (w, j) ≠ (v, i) → u.entry? w j = s.entry? w j) ∧
      u.grants = Table.insert n { g with extents := g.extents.filter (fun z => decide (z.1 ≠ i)) } s.grants ∧
      u.pools = putAt s.pools (s.volume v).pool { s.pools.get (s.volume v).pool with
        reserved := (s.pools.get (s.volume v).pool).reserved - 1
        grace := (s.pools.get (s.volume v).pool).grace + 1 } ∧
      u.volume v = { s.volume v with latch := true } ∧ (∀ w, w ≠ v → u.volume w = s.volume w) ∧
      u.log = { l with
        applied := l.applied + 1
        intent := { l.intent with forming := some ⟨f.pool, f.extents ++ [y.placement]⟩ } } :: rest ∧
      portsGrow s u ∧
      u = { s with
        store := s.store.write (.setPlacement v i x), log := u.log, maps := u.maps, grants := u.grants, pools := u.pools,
        volumes := u.volumes, watches := u.watches, ports := u.ports } := by
  obtain ⟨b, hb⟩ : ∃ b : State, b = { s with store := s.store.write (.setPlacement v i x) } := ⟨_, rfl⟩
  have hbg : b.grant? n = some g := hb ▸ hg
  have hbe : b.entry? v i = some y := hb ▸ he
  have ht : applyEffect l.intent.kind (.setPlacement v i x) b =
      (setLatch v true (entryMoved v i { y with placement := x } n g b), [y.placement]) := by
    rw [hk]
    exact applyPlacement_moves x hbg hbe
  have hv : b.volume = s.volume := by rw [hb]; rfl
  have hp : b.pools = s.pools := by rw [hb]
  have hgr : b.grants = s.grants := by rw [hb]
  have hen : b.entry? = s.entry? := by rw [hb]; rfl
  have hte : b.tenants = s.tenants := by rw [hb]
  obtain ⟨c, hcb⟩ : ∃ c, c = entryMoved v i { y with placement := x } n g b := ⟨_, rfl⟩
  rw [← hcb, hb] at ht
  obtain ⟨u, hu, hmaps, hstore, hgrants, hpools, htenants, hvol, hother, hlog, hgrow, htouch⟩ :=
    effect_latched h hm ht (by rw [hcb, entryMoved, updatePool_tables, setGrant_tables, setMap_tables, hb])
  have hcv : c.volume = s.volume := by rw [hcb, ← hv]; rfl
  obtain ⟨hself, helse⟩ := entries_of_insert (s := b) (u := u) (x := { y with placement := x })
    (hmaps.trans (by rw [hcb]; rfl))
  have hut : u.tenants = s.tenants := htenants.trans (by rw [hcb, ← hte]; rfl)
  refine ⟨u, hu, hself, fun w j hwj => (helse w j hwj).trans (by rw [hen]), ?_, ?_, ?_, fun w hw => ?_, ?_, hgrow,
    by rw [hut] at htouch; exact htouch⟩
  · rw [hgrants, hcb, ← hgr]
    rfl
  · rw [hpools, hcb, ← hp, ← hv]
    rfl
  · rw [hvol, hcv]
  · rw [hother w hw, hcv]
  · rw [hlog, advanced_forming _ hf]

/-- REMOVE_ENTRY (R10, R24, R118), the tables before the latch is set. -/
def entryRemoved (v i : Nat) (s : State) : State :=
  lowerMapped v ((s.setMap v (Table.erase i (s.mapOf v))).updatePool (s.volume v).pool
    (fun r => { r with used := r.used - 1, grace := r.grace + 1 }))

theorem applyRemove_entry {y : Entry} (he : s.entry? v i = some y) :
    applyRemove v i s = (setLatch v true (entryRemoved v i s), [y.placement]) := by
  unfold applyRemove
  rw [he]
  rfl

theorem entryRemoved_reads {γ : Type} (f : State → γ) (v i : Nat) (s : State)
    (hf : ∀ (t : State) x y, f { t with volumes := x, tenants := y } = f t := by intros; rfl) :
    f (entryRemoved v i s) = f ((s.setMap v (Table.erase i (s.mapOf v))).updatePool (s.volume v).pool
      (fun r => { r with used := r.used - 1, grace := r.grace + 1 })) := lowerMapped_keeps f v _ hf

theorem effect_removeEntry {f : Forming} {y : Entry} (h : effectOut l rest (.removeEntry v i) s) (hm : s.mode = .serving)
    (hf : l.intent.forming = some f) (he : s.entry? v i = some y) :
    ∃ u, exec (.effectWriteAck false) s = .next u ∧ u.entry? v i = none ∧
      (∀ w j, (w, j) ≠ (v, i) → u.entry? w j = s.entry? w j) ∧ Table.get? (u.store.cellsOf v) i = none ∧
      u.pools = putAt s.pools (s.volume v).pool { s.pools.get (s.volume v).pool with
        used := (s.pools.get (s.volume v).pool).used - 1
        grace := (s.pools.get (s.volume v).pool).grace + 1 } ∧
      u.volume v = { s.volume v with mapped := (s.volume v).mapped - 1, latch := true } ∧
      (∀ w, w ≠ v → u.volume w = s.volume w) ∧ (∀ y, y ≠ (s.volume v).tenant → u.tenant y = s.tenant y) ∧
      u.tenant (s.volume v).tenant = { s.tenant (s.volume v).tenant with
        used := (s.tenant (s.volume v).tenant).used - 1 } ∧
      u.log = { l with
        applied := l.applied + 1
        intent := { l.intent with forming := some ⟨f.pool, f.extents ++ [y.placement]⟩ } } :: rest ∧
      portsGrow s u ∧
      u = { s with
        store := s.store.write (.removeEntry v i), log := u.log, maps := u.maps, pools := u.pools, volumes := u.volumes,
        tenants := u.tenants, watches := u.watches, ports := u.ports } := by
  obtain ⟨b, hb⟩ : ∃ b : State, b = { s with store := s.store.write (.removeEntry v i) } := ⟨_, rfl⟩
  have hbe : b.entry? v i = some y := hb ▸ he
  have ht : applyEffect l.intent.kind (.removeEntry v i) b = (setLatch v true (entryRemoved v i b), [y.placement]) :=
    applyRemove_entry hbe
  have hv : b.volume = s.volume := by rw [hb]; rfl
  have hte : b.tenant = s.tenant := by rw [hb]; rfl
  have hp : b.pools = s.pools := by rw [hb]
  have hgr : b.grants = s.grants := by rw [hb]
  have hen : b.entry? = s.entry? := by rw [hb]; rfl
  obtain ⟨c, hcb⟩ : ∃ c, c = entryRemoved v i b := ⟨_, rfl⟩
  rw [← hcb, hb] at ht
  obtain ⟨u, hu, hmaps, hstore, hgrants, hpools, htenants, hvol, hother, hlog, hgrow, htouch⟩ :=
    effect_latched h hm ht (by rw [hcb, entryRemoved, lowerMapped_tables, updatePool_tables, setMap_tables, hb])
  have hcv (w : Nat) : c.volume w = if v = w then { s.volume v with mapped := (s.volume v).mapped - 1 } else s.volume w := by
    rw [hcb, ← hv]
    exact lowerMapped_volume _ _ _
  have hct (y : Nat) : c.tenant y = if (s.volume v).tenant = y then
      { s.tenant (s.volume v).tenant with used := (s.tenant (s.volume v).tenant).used - 1 } else s.tenant y := by
    rw [hcb, ← hv, ← hte]
    exact lowerMapped_tenant _ _ _
  have hut (y : Nat) : u.tenant y = c.tenant y := congrArg (fun t => Table.getD Tenant.fresh t y) htenants
  have hug : u.grants = s.grants := hgrants.trans (by rw [hcb, entryRemoved_reads State.grants, ← hgr]; rfl)
  obtain ⟨hself, helse⟩ := entries_of_erase (s := b) (u := u)
    (hmaps.trans ((congrArg State.maps hcb).trans (entryRemoved_reads State.maps v i b)))
  refine ⟨u, hu, hself, fun w j hwj => (helse w j hwj).trans (by rw [hen]), ?_, ?_, ?_, fun w hw => ?_, fun y hy => ?_, ?_,
    ?_, hgrow, by rw [hug] at htouch; exact htouch⟩
  · rw [hstore]
    exact (congrArg (Table.get? · i) (cellsOf_setCells _ _ _)).trans (Table.get?_erase_self _ _)
  · rw [hpools, hcb, entryRemoved_reads State.pools, ← hp, ← hv]
    rfl
  · rw [hvol, hcv, if_pos rfl]
  · rw [hother w hw, hcv, if_neg (Ne.symm hw)]
  · rw [hut, hct, if_neg (Ne.symm hy)]
  · rw [hut, hct, if_pos rfl]
  · rw [hlog, advanced_forming _ hf]

/-- SET_MASK (R10, R17): the latch is set where the mask differs. -/
theorem effect_setMask {m : Mask} {y : Entry} (h : effectOut l rest (.setMask v i m) s) (hm : s.mode = .serving)
    (he : s.entry? v i = some y) :
    ∃ u, exec (.effectWriteAck false) s = .next u ∧ u.entry? v i = some { y with unwritten := m } ∧
      (∀ w j, (w, j) ≠ (v, i) → u.entry? w j = s.entry? w j) ∧
      u.volume v = { s.volume v with latch := decide (m ≠ y.unwritten) || (s.volume v).latch } ∧
      (∀ w, w ≠ v → u.volume w = s.volume w) ∧
      portsGrow s u ∧
      u = { s with
        store := s.store.write (.setMask v i m), log := { l with applied := l.applied + 1 } :: rest, maps := u.maps,
        volumes := u.volumes, watches := u.watches, ports := u.ports } := by
  obtain ⟨b, hb⟩ : ∃ b : State, b = { s with store := s.store.write (.setMask v i m) } := ⟨_, rfl⟩
  obtain ⟨c, hcb⟩ : ∃ c : State, c = b.setMap v (Table.insert i { y with unwritten := m } (b.mapOf v)) := ⟨_, rfl⟩
  have hbe : b.entry? v i = some y := hb ▸ he
  have ht : applyEffect l.intent.kind (.setMask v i m) b = (if m = y.unwritten then c else setLatch v true c, []) := by
    rw [hcb]
    show (applyMask v i m b, _) = _
    unfold applyMask
    rw [hbe]
    rfl
  have hcv : c.volume = s.volume := by rw [hcb, hb]; rfl
  have hen : b.entry? = s.entry? := by rw [hb]; rfl
  rw [hb] at ht
  by_cases hme : m = y.unwritten
  · rw [if_pos hme] at ht
    obtain ⟨u, hu⟩ : ∃ u : State, u = { c with log := { l with applied := l.applied + 1 } :: rest } := ⟨_, rfl⟩
    obtain ⟨hself, helse⟩ := entries_of_insert (s := b) (u := u) (x := { y with unwritten := m }) (by rw [hu, hcb])
    refine ⟨u, (exec_effectWriteAck_plain h hm ht (by rw [hcb, hb]; rfl)).trans (by rw [hu]), hself,
      fun w j hwj => (helse w j hwj).trans (by rw [hen]), ?_, fun w hw => ?_, ?_, ?_⟩
    · rw [decide_eq_false (not_not.mpr hme), Bool.false_or, hu]
      exact congrFun hcv v
    · rw [hu]
      exact congrFun hcv w
    · rw [hu, hcb, hb]
      exact portsGrow_refl s
    · rw [hu, hcb, hb]
      rfl
  · rw [if_neg hme] at ht
    obtain ⟨u, hu, hmaps, hstore, hgrants, hpools, htenants, hvol, hother, hlog, hgrow, htouch⟩ :=
      effect_latched h hm ht (by rw [hcb, setMap_tables, hb])
    obtain ⟨hself, helse⟩ := entries_of_insert (s := b) (u := u) (x := { y with unwritten := m })
      (hmaps.trans (by rw [hcb]))
    refine ⟨u, hu, hself, fun w j hwj => (helse w j hwj).trans (by rw [hen]), ?_, fun w hw => ?_, hgrow, ?_⟩
    · rw [hvol, hcv, decide_eq_true hme, Bool.true_or]
    · rw [hother w hw, hcv]
    · rw [hlog, advanced_nil, hgrants, hpools, htenants, hcb, hb] at htouch
      exact htouch

end Sys2Proof.Machine
end

section
/-! PROOFS. The effects on a volume's record (R148, Table 8-4), and all effects together. -/

namespace Sys2Proof.Machine

open State

variable {s u b : State} {l : LogIntent} {rest : List LogIntent} {v size te : Nat} {k : PoolId} {st : VolState}

/-! ## SET_VOLUME, by the kind of its intent -/

theorem applyCreate_keeps {γ : Type} (g : State → γ) (v : Nat) (st : VolState) (te : Nat) (k : PoolId) (size : Nat) (s : State)
    (hg : ∀ (t : State) a b c d e, g { t with volumes := a, leases := b, maps := c, watches := d, ports := e } = g t := by
      intros; rfl) : g (applyCreate v st te k size s) = g s := by
  obtain ⟨a, ha⟩ : ∃ a, a = ((s.updateVolume v (fun r =>
    { r with state := st, tenant := te, pool := k, size := size, mapped := 0, pending := 0 })).setMap v []).setLease v .fresh :=
    ⟨_, rfl⟩
  have he : applyCreate v st te k size s = reportVolume v a := by rw [ha]; rfl
  rw [he, eraseReport_touches (reportVolume_erase v a)]
  refine (hg a a.volumes a.leases a.maps _ _).trans ?_
  rw [ha]
  exact hg s _ _ _ s.watches s.ports

theorem applyCreate_record (v : Nat) (st : VolState) (te : Nat) (k : PoolId) (size x : Nat) (s : State) :
    ((applyCreate v st te k size s).volume x = if v = x then { s.volume v with
      state := st, tenant := te, pool := k, size := size, mapped := 0, pending := 0 } else s.volume x) ∧
    ((applyCreate v st te k size s).lease x = if v = x then .fresh else s.lease x) ∧
    ((applyCreate v st te k size s).mapOf x = if v = x then [] else s.mapOf x) := by
  unfold applyCreate
  have he := reportVolume_erase v ((State.setMap v [] (s.updateVolume v (fun r =>
    { r with state := st, tenant := te, pool := k, size := size, mapped := 0, pending := 0 }))).setLease v .fresh)
  refine ⟨?_, ?_, ?_⟩
  · refine (congrFun (keeps_of_eraseReport State.volume he) x).trans ?_
    exact volume_setVolume v x _ s
  · refine (congrFun (keeps_of_eraseReport State.lease he) x).trans ?_
    exact lease_setLease v x .fresh _
  · refine (congrFun (keeps_of_eraseReport State.mapOf he) x).trans ?_
    exact mapOf_setMap v x [] _

theorem applyEnd_keeps {γ : Type} (g : State → γ) (v : Nat) (s : State)
    (hg : ∀ (t : State) a b c, g { t with volumes := a, watches := b, ports := c } = g t := by intros; rfl) :
    g (applyEnd v s) = g s := by
  obtain ⟨a, ha⟩ : ∃ a, a = s.updateVolume v (fun r =>
    { r with state := .absent, tenant := 0, pool := 0, size := 0, mapped := 0, pending := 0 }) := ⟨_, rfl⟩
  have he : applyEnd v s = reportVolume v a := by rw [ha]; rfl
  rw [he, eraseReport_touches (reportVolume_erase v a)]
  refine (hg a a.volumes _ _).trans ?_
  rw [ha]
  exact hg s _ s.watches s.ports

theorem applyEnd_volume (v x : Nat) (s : State) : (applyEnd v s).volume x = if v = x then { s.volume v with
    state := .absent, tenant := 0, pool := 0, size := 0, mapped := 0, pending := 0 } else s.volume x := by
  unfold applyEnd
  rw [reportVolume_volume, updateVolume_eq, volume_setVolume]

theorem applyCreate_grows (v : Nat) (st : VolState) (te : Nat) (k : PoolId) (size : Nat) (s : State) :
    portsGrow s (applyCreate v st te k size s) := by
  unfold applyCreate
  exact portsGrow_after (reportVolume_grows _ _) rfl

theorem applyEnd_grows (v : Nat) (s : State) : portsGrow s (applyEnd v s) := by
  unfold applyEnd
  exact portsGrow_after (reportVolume_grows _ _) rfl

/-- The record of a volume as its mode switches, before any drop. -/
def modeSwitched (v : Nat) (st : VolState) (te : Nat) (k : PoolId) (size : Nat) (s : State) : State :=
  s.updateVolume v (fun r => { r with state := st, tenant := te, pool := k, size := size })

theorem modeSwitched_volume (v : Nat) (st : VolState) (te : Nat) (k : PoolId) (size x : Nat) (s : State) :
    (modeSwitched v st te k size s).volume x =
      if v = x then { s.volume v with state := st, tenant := te, pool := k, size := size } else s.volume x :=
  volume_setVolume v x _ s

theorem applyMode_other (v te : Nat) (k : PoolId) (size : Nat) (s : State) (h : st ≠ .readOnly) :
    applyMode v st te k size s = modeSwitched v st te k size s := if_neg h

theorem applyMode_readOnly (v te : Nat) (k : PoolId) (size : Nat) (s : State) (h : st = .readOnly) :
    applyMode v st te k size s =
      dropGrants none ((modeSwitched v st te k size s).stagedGrants (fun g => decide (g.volume = v ∧ g.kind = .allocate)))
        (modeSwitched v st te k size s) := if_pos h

/-- The grants that a drop of STAGED grants names meet its test. -/
theorem of_mem_stagedGrants (hw : Table.wf s.grants = true) {f : Grant → Bool} {n : Nat} {g : Grant}
    (hn : n ∈ s.stagedGrants f) (hg : s.grant? n = some g) : g.isStaged = true ∧ f g = true := by
  obtain ⟨e, he, hen⟩ := List.mem_map.mp hn
  obtain ⟨hes, hef⟩ := List.mem_filter.mp he
  have h1 : s.grant? n = some e.2 := by
    rw [← hen]
    exact Table.get?_of_mem s.grants e.1 e.2 hw hes
  have h2 : e.2 = g := Option.some.inj (h1.symm.trans hg)
  rw [← h2]
  exact Bool.and_eq_true_iff.mp hef

/-- Two records that differ in their pending counts alone. -/
theorem counted_pending {r q : Volume} (h : r.counted 0 = q.counted 0) : r = q.counted r.pending :=
  (congrArg (Volume.counted · r.pending) h :)

/-- The drop of STAGED grants of one volume: what is served, and that no other pending count moves. -/
theorem dropStaged_served (hw : Table.wf s.grants = true) (o : Option Port) {f : Grant → Bool} {v : Nat}
    (hf : ∀ g, f g = true → g.volume = v) :
    ∃ granted, serves granted s (dropGrants o (s.stagedGrants f) s) ∧
      (∀ x, (dropGrants o (s.stagedGrants f) s).volume x =
        unpaused granted x ((s.volume x).counted ((dropGrants o (s.stagedGrants f) s).volume x).pending)) ∧
      ∀ x, x ≠ v → (dropGrants o (s.stagedGrants f) s).volume x = unpaused granted x (s.volume x) := by
  obtain ⟨granted, hs, hc, hx⟩ := dropGrants_served o (s.stagedGrants f) s
  refine ⟨granted, hs, fun x => ?_, fun x hxv => hx x (fun n hn g hg hgx => ?_)⟩
  · rw [← unpaused_counted]
    exact counted_pending (hc x)
  · obtain ⟨-, hfg⟩ := of_mem_stagedGrants hw hn hg
    exact hxv (hgx.symm.trans (hf g hfg))

/-- A mode switch has served deletions on the way of its drops; the pending count of its own volume alone may move. -/
theorem applyMode_spec (hw : Table.wf s.grants = true) (v : Nat) (st : VolState) (te : Nat) (k : PoolId) (size : Nat) :
    ∃ granted, serves granted s (applyMode v st te k size s) ∧
      (applyMode v st te k size s).volume v = unpaused granted v { s.volume v with
        state := st, tenant := te, pool := k, size := size, pending := ((applyMode v st te k size s).volume v).pending } ∧
      (∀ x, x ≠ v → (applyMode v st te k size s).volume x = unpaused granted x (s.volume x)) ∧
      (st = .readOnly → (applyMode v st te k size s).grants = s.grants.filter (fun g =>
        !(g.2.isStaged && decide (g.2.volume = v ∧ g.2.kind = .allocate)))) ∧
      (applyMode v st te k size s).eraseDrop = s.eraseDrop ∧ portsGrow s (applyMode v st te k size s) := by
  have hv := modeSwitched_volume v st te k size v s
  rw [if_pos rfl] at hv
  have hx (x : Nat) (h : x ≠ v) := (modeSwitched_volume v st te k size x s).trans (if_neg (Ne.symm h))
  by_cases hst : st = .readOnly
  · rw [applyMode_readOnly _ _ _ _ _ hst]
    obtain ⟨c, hc⟩ : ∃ c, c = modeSwitched v st te k size s := ⟨_, rfl⟩
    have hcg : c.grants = s.grants := by rw [hc]; rfl
    have hcp : c.ports = s.ports := by rw [hc]; rfl
    have hce : c.eraseDrop = s.eraseDrop := by rw [hc]; rfl
    have hcs : serves [] s c := by rw [hc]; exact serves_refl s
    rw [← hc] at hv hx ⊢
    have hwc : Table.wf c.grants = true := hcg ▸ hw
    obtain ⟨granted, hs, hpend, hother⟩ := dropStaged_served (s := c) hwc none
      (f := fun g => decide (g.volume = v ∧ g.kind = .allocate)) (v := v) (fun g hg => (of_decide_eq_true hg).1)
    refine ⟨granted, serves_trans hcs hs, ?_, fun x hxv => ?_, fun _ => ?_, (dropGrants_erase _ _ _).trans hce,
      portsGrow_after (dropGrants_grows _ _ _) hcp⟩
    · refine (hpend v).trans ?_
      rw [hv]
      rfl
    · rw [hother x hxv, hx x hxv]
    · rw [dropGrants_staged none _ hwc, hcg]
  · rw [applyMode_other _ _ _ _ _ hst]
    refine ⟨[], serves_refl s, ?_, fun x hxv => hx x hxv, fun h => absurd h hst, rfl, portsGrow_refl s⟩
    rw [hv]
    rfl

/-- Which change SET_VOLUME makes on the tables is its intent's. -/
theorem applyEffect_setVolume (kind : IntentKind) (v : Nat) (st : VolState) (te : Nat) (k : PoolId) (size : Nat) (s : State) :
    (kind = .volumeCreate ∧
      applyEffect kind (.setVolume v st te k size) s = (applyCreate v st te k size s, [])) ∨
    (∃ m, kind = .volumeMode m ∧
      applyEffect kind (.setVolume v st te k size) s = (applyMode v st te k size s, [])) ∨
    (kind = .deleteEnd ∧ applyEffect kind (.setVolume v st te k size) s = (applyEnd v s, [])) ∨
    ((∃ x y, kind = .volumeResize x y) ∧ applyEffect kind (.setVolume v st te k size) s =
      (s.setVolume v { s.volume v with size := size }, [])) ∨
    (kind = .deleteMark ∧ applyEffect kind (.setVolume v st te k size) s =
      (s.setVolume v { s.volume v with state := st }, [])) ∨
    ((kind ≠ .volumeCreate ∧ (∀ m, kind ≠ .volumeMode m) ∧ kind ≠ .deleteEnd ∧ (∀ x y, kind ≠ .volumeResize x y) ∧
      kind ≠ .deleteMark) ∧ applyEffect kind (.setVolume v st te k size) s = (s, [])) := by
  cases kind with
  | volumeCreate => exact Or.inl ⟨rfl, rfl⟩
  | volumeMode m => exact Or.inr (Or.inl ⟨m, rfl, rfl⟩)
  | deleteEnd => exact Or.inr (Or.inr (Or.inl ⟨rfl, rfl⟩))
  | volumeResize x y => exact Or.inr (Or.inr (Or.inr (Or.inl ⟨⟨x, y, rfl⟩, rfl⟩)))
  | deleteMark => exact Or.inr (Or.inr (Or.inr (Or.inr (Or.inl ⟨rfl, rfl⟩))))
  | deleteBatch => exact Or.inr (Or.inr (Or.inr (Or.inr (Or.inr ⟨by simp, rfl⟩))))
  | note x => exact Or.inr (Or.inr (Or.inr (Or.inr (Or.inr ⟨by simp, rfl⟩))))
  | trim c => exact Or.inr (Or.inr (Or.inr (Or.inr (Or.inr ⟨by simp, rfl⟩))))
  | bind n a => exact Or.inr (Or.inr (Or.inr (Or.inr (Or.inr ⟨by simp, rfl⟩))))
  | move n => exact Or.inr (Or.inr (Or.inr (Or.inr (Or.inr ⟨by simp, rfl⟩))))
  | tenant t => exact Or.inr (Or.inr (Or.inr (Or.inr (Or.inr ⟨by simp, rfl⟩))))
  | span r n p => exact Or.inr (Or.inr (Or.inr (Or.inr (Or.inr ⟨by simp, rfl⟩))))
  | pool p => exact Or.inr (Or.inr (Or.inr (Or.inr (Or.inr ⟨by simp, rfl⟩))))
  | config t => exact Or.inr (Or.inr (Or.inr (Or.inr (Or.inr ⟨by simp, rfl⟩))))

theorem effect_setVolume (h : effectOut l rest (.setVolume v st te k size) s) (hm : s.mode = .serving)
    (htab : tablesLaw s) :
    ∃ u granted, exec (.effectWriteAck false) s = .next u ∧ serves granted s u ∧
      (l.intent.kind = .volumeCreate →
        u.volume v = { s.volume v with
          state := st, tenant := te, pool := k, size := size, mapped := 0, pending := 0 } ∧
        u.lease v = ⟨.free, 0, []⟩ ∧ u.mapOf v = [] ∧
        (∀ x, x ≠ v → u.lease x = s.lease x ∧ u.mapOf x = s.mapOf x) ∧
        u = { s with
          store := s.store.write (.setVolume v st te k size), log := u.log, volumes := u.volumes, leases := u.leases,
          maps := u.maps, watches := u.watches, ports := u.ports }) ∧
      ((∃ a b, l.intent.kind = .volumeResize a b) ∨ l.intent.kind = .deleteMark →
        (∀ a b, l.intent.kind = .volumeResize a b → u.volume v = { s.volume v with size := size }) ∧
        (l.intent.kind = .deleteMark → u.volume v = { s.volume v with state := st }) ∧
        u = { s with store := s.store.write (.setVolume v st te k size), log := u.log, volumes := u.volumes }) ∧
      (l.intent.kind = .deleteEnd →
        u.volume v = { s.volume v with
          state := .absent, tenant := 0, pool := 0, size := 0, mapped := 0, pending := 0 } ∧
        u = { s with
          store := s.store.write (.setVolume v st te k size), log := u.log, volumes := u.volumes, watches := u.watches,
          ports := u.ports }) ∧
      (∀ m, l.intent.kind = .volumeMode m →
        u.volume v = unpaused granted v { s.volume v with
          state := st, tenant := te, pool := k, size := size, pending := (u.volume v).pending } ∧
        (st = .readOnly → u.grants = s.grants.filter (fun g =>
          !(g.2.isStaged && decide (g.2.volume = v ∧ g.2.kind = .allocate)))) ∧
        (st ≠ .readOnly → (u.volume v).pending = (s.volume v).pending ∧
          u = { s with store := s.store.write (.setVolume v st te k size), log := u.log, volumes := u.volumes }) ∧
        u = { s with
          store := s.store.write (.setVolume v st te k size), log := u.log, volumes := u.volumes, tenants := u.tenants,
          grants := u.grants, spans := u.spans, pools := u.pools, generation := u.generation, grace := u.grace,
          stall := u.stall, promises := u.promises, admissionWait := u.admissionWait, deletionsDue := u.deletionsDue,
          ports := u.ports }) ∧
      (∀ x, x ≠ v → u.volume x = unpaused granted x (s.volume x)) ∧
      u.store = s.store.write (.setVolume v st te k size) ∧ u.log = { l with applied := l.applied + 1 } :: rest ∧
      portsGrow s u := by
  obtain ⟨b, hb⟩ : ∃ b : State, b = { s with store := s.store.write (.setVolume v st te k size) } := ⟨_, rfl⟩
  have hbv : b.volume = s.volume := by rw [hb]; rfl
  have hbs : serves [] s b := by rw [hb]; exact serves_refl s
  have hbp : b.ports = s.ports := by rw [hb]
  obtain ⟨log, hlog⟩ : ∃ log, log = { l with applied := l.applied + 1 } :: rest := ⟨_, rfl⟩
  have ack {t : State} (ht : applyEffect l.intent.kind (.setVolume v st te k size) b = (t, [])) (hl : t.log = b.log) :
      ∃ u, exec (.effectWriteAck false) s = .next u ∧ u = { t with log := log } :=
    ⟨_, exec_effectWriteAck_plain h hm (hb ▸ ht) (hl.trans (by rw [hb])), by rw [hlog]⟩
  rcases applyEffect_setVolume l.intent.kind v st te k size b with
    ⟨hk, ht⟩ | ⟨m, hk, ht⟩ | ⟨hk, ht⟩ | ⟨hk, ht⟩ | ⟨hk, ht⟩ | ⟨⟨h1, h2, h3, h4, h5⟩, ht⟩
  · have hr (x : Nat) := applyCreate_record v st te k size x b
    have keep {γ : Type} (g : State → γ)
        (hg : ∀ (t : State) a b c d e, g { t with volumes := a, leases := b, maps := c, watches := d, ports := e } = g t := by
          intros; rfl) := applyCreate_keeps g v st te k size b hg
    have hgrow := portsGrow_after (applyCreate_grows v st te k size b) hbp
    obtain ⟨t, htt⟩ : ∃ t, t = applyCreate v st te k size b := ⟨_, rfl⟩
    simp only [← htt] at ht hr keep hgrow
    obtain ⟨u, hu, hut⟩ := ack ht (keep State.log)
    have hself : u.volume v = { s.volume v with
        state := st, tenant := te, pool := k, size := size, mapped := 0, pending := 0 } ∧
        u.lease v = ⟨.free, 0, []⟩ ∧ u.mapOf v = [] := by
      obtain ⟨h1, h2, h3⟩ := hr v
      rw [if_pos rfl] at h1 h2 h3
      rw [hbv] at h1
      rw [hut]
      exact ⟨h1, h2, h3⟩
    have hother (x : Nat) (hxv : x ≠ v) : u.volume x = s.volume x ∧ u.lease x = s.lease x ∧ u.mapOf x = s.mapOf x := by
      obtain ⟨h1, h2, h3⟩ := hr x
      rw [if_neg (Ne.symm hxv)] at h1 h2 h3
      rw [hut]
      exact ⟨h1.trans (by rw [hbv]), h2.trans (by rw [hb]; rfl), h3.trans (by rw [hb]; rfl)⟩
    have htouch : u = { s with
        store := s.store.write (.setVolume v st te k size), log := u.log, volumes := u.volumes, leases := u.leases,
        maps := u.maps, watches := u.watches, ports := u.ports } := by
      let g : State → State := fun x => { x with
        log := u.log, volumes := u.volumes, leases := u.leases, maps := u.maps, watches := u.watches, ports := u.ports }
      calc u = g u := rfl
        _ = g t := by rw [hut]
        _ = g b := keep g
        _ = _ := by rw [hb]
    refine ⟨u, [], hu, serves_congr hbs rfl rfl rfl ?_ ?_ ?_, fun _ => ⟨hself.1, hself.2.1, hself.2.2,
      fun x hx => (hother x hx).2, htouch⟩, fun hk' => ?_, fun hk' => absurd hk' (by simp [hk]),
      fun m hk' => absurd hk' (by simp [hk]), fun x hx => (hother x hx).1, ?_, ?_, ?_⟩
    · rw [hut]; exact keep State.admissionWait
    · rw [hut]; exact keep State.deletionsDue
    · rw [hut]; exact keep State.promises
    · exact absurd hk' (by simp [hk])
    · rw [htouch]
    · rw [hut, hlog]
    · rw [hut]; exact hgrow
  · have hwf : Table.wf b.grants = true := by rw [hb]; exact (grants_wf htab : Table.wf s.grants = true)
    obtain ⟨granted, hs, hvol, hother, hgr, herase, hgrow⟩ := applyMode_spec hwf v st te k size
    have hnot (hst : st ≠ .readOnly) := applyMode_other (st := st) v te k size b hst
    obtain ⟨t, htt⟩ : ∃ t, t = applyMode v st te k size b := ⟨_, rfl⟩
    simp only [← htt] at ht hs hvol hother hgr herase hgrow hnot
    have keep {γ : Type} (g : State → γ) (hg : ∀ t : State, g t.eraseDrop = g t := by intro; rfl) : g t = g b :=
      keeps_of_erase g herase hg
    obtain ⟨u, hu, hut⟩ := ack ht (keep State.log)
    have htouch : u = { s with
        store := s.store.write (.setVolume v st te k size), log := u.log, volumes := u.volumes, tenants := u.tenants,
        grants := u.grants, spans := u.spans, pools := u.pools, generation := u.generation, grace := u.grace,
        stall := u.stall, promises := u.promises, admissionWait := u.admissionWait, deletionsDue := u.deletionsDue,
        ports := u.ports } := by
      let g : State → State := fun x => { x with
        log := u.log, volumes := u.volumes, tenants := u.tenants, grants := u.grants, spans := u.spans, pools := u.pools,
        generation := u.generation, grace := u.grace, stall := u.stall, promises := u.promises,
        admissionWait := u.admissionWait, deletionsDue := u.deletionsDue, ports := u.ports }
      calc u = g u := rfl
        _ = g t := by rw [hut]
        _ = g b := keep g
        _ = _ := by rw [hb]
    refine ⟨u, granted, hu, ?_, fun hk' => absurd hk' (by simp [hk]), fun hk' => absurd hk' (by simp [hk]),
      fun hk' => absurd hk' (by simp [hk]), fun m _ => ⟨?_, fun hst => ?_, fun hst => ⟨?_, ?_⟩, htouch⟩,
      fun x hx => ?_, ?_, ?_, ?_⟩
    · rw [hut]; exact serves_trans hbs hs
    · rw [hut, ← hbv]; exact hvol
    · rw [hut]
      refine (hgr hst).trans ?_
      rw [hb]
    · rw [hut, ← hbv]
      show (t.volume v).pending = _
      rw [hnot hst, modeSwitched_volume, if_pos rfl]
    · rw [hut, hnot hst, hb]
      rfl
    · rw [hut, ← hbv]; exact hother x hx
    · rw [htouch]
    · rw [hut, hlog]
    · rw [hut]; exact portsGrow_after hgrow hbp
  · have hr (x : Nat) := applyEnd_volume v x b
    have keep {γ : Type} (g : State → γ)
        (hg : ∀ (t : State) a b c, g { t with volumes := a, watches := b, ports := c } = g t := by intros; rfl) :=
      applyEnd_keeps g v b hg
    have hgrow := portsGrow_after (applyEnd_grows v b) hbp
    obtain ⟨t, htt⟩ : ∃ t, t = applyEnd v b := ⟨_, rfl⟩
    simp only [← htt, hbv] at ht hr keep hgrow
    obtain ⟨u, hu, hut⟩ := ack ht (keep State.log)
    have htouch : u = { s with
        store := s.store.write (.setVolume v st te k size), log := u.log, volumes := u.volumes, watches := u.watches,
        ports := u.ports } := by
      let g : State → State := fun x => { x with
        log := u.log, volumes := u.volumes, watches := u.watches, ports := u.ports }
      calc u = g u := rfl
        _ = g t := by rw [hut]
        _ = g b := keep g
        _ = _ := by rw [hb]
    refine ⟨u, [], hu, serves_congr hbs rfl rfl rfl ?_ ?_ ?_, fun hk' => absurd hk' (by simp [hk]),
      fun hk' => absurd hk' (by simp [hk]), fun _ => ⟨?_, htouch⟩, fun m hk' => absurd hk' (by simp [hk]),
      fun x hx => ?_, ?_, ?_, ?_⟩
    · rw [hut]; exact keep State.admissionWait
    · rw [hut]; exact keep State.deletionsDue
    · rw [hut]; exact keep State.promises
    · rw [hut]; exact (hr v).trans (if_pos rfl)
    · rw [hut]; exact (hr x).trans (if_neg (Ne.symm hx))
    · rw [htouch]
    · rw [hut, hlog]
    · rw [hut]; exact hgrow
  · obtain ⟨u, hu, hut⟩ := ack ht rfl
    have hr (x : Nat) : u.volume x = if v = x then { s.volume v with size := size } else s.volume x := by
      rw [hut, ← hbv]
      exact volume_setVolume v x _ b
    refine ⟨u, [], hu, ?_, fun hk' => ?_, fun _ => ⟨fun _ _ _ => (hr v).trans (if_pos rfl), fun hk' => ?_, ?_⟩,
      fun hk' => ?_, fun m hk' => ?_, fun x hx => (hr x).trans (if_neg (Ne.symm hx)), ?_, ?_, ?_⟩
    · rw [hut, hb]; exact serves_refl s
    · obtain ⟨x, y, hk⟩ := hk; exact absurd hk' (by simp [hk])
    · obtain ⟨x, y, hk⟩ := hk; exact absurd hk' (by simp [hk])
    · rw [hut, hb]; rfl
    · obtain ⟨x, y, hk⟩ := hk; exact absurd hk' (by simp [hk])
    · obtain ⟨x, y, hk⟩ := hk; exact absurd hk' (by simp [hk])
    · rw [hut, hb]; rfl
    · rw [hut, hlog]
    · rw [hut, hb]; exact portsGrow_refl s
  · obtain ⟨u, hu, hut⟩ := ack ht rfl
    have hr (x : Nat) : u.volume x = if v = x then { s.volume v with state := st } else s.volume x := by
      rw [hut, ← hbv]
      exact volume_setVolume v x _ b
    refine ⟨u, [], hu, ?_, fun hk' => absurd hk' (by simp [hk]), fun _ => ⟨fun _ _ hk' => absurd hk' (by simp [hk]),
      fun _ => (hr v).trans (if_pos rfl), ?_⟩, fun hk' => absurd hk' (by simp [hk]), fun m hk' => absurd hk' (by simp [hk]),
      fun x hx => (hr x).trans (if_neg (Ne.symm hx)), ?_, ?_, ?_⟩
    · rw [hut, hb]; exact serves_refl s
    · rw [hut, hb]; rfl
    · rw [hut, hb]; rfl
    · rw [hut, hlog]
    · rw [hut, hb]; exact portsGrow_refl s
  · obtain ⟨u, hu, hut⟩ := ack ht rfl
    refine ⟨u, [], hu, ?_, fun hk' => absurd hk' h1, fun hk' => ?_, fun hk' => absurd hk' h3, fun m hk' => absurd hk' (h2 m),
      fun x _ => ?_, ?_, ?_, ?_⟩
    · rw [hut, hb]; exact serves_refl s
    · rcases hk' with ⟨x, y, hk'⟩ | hk'
      · exact absurd hk' (h4 x y)
      · exact absurd hk' h5
    · rw [hut, hb]; rfl
    · rw [hut, hb]
    · rw [hut, hlog]
    · rw [hut, hb]; exact portsGrow_refl s

/-- Settles O58, effect by effect. -/
theorem effectsApply : Obligations.EffectsApply := by
  intro l rest e s hset hlog hst hw he
  have h : effectOut l rest e s := ⟨hset, hlog, hst, hw, he⟩
  refine ⟨fun v i hr => exec_effectWriteAck_corrected h ?_, exec_effectWriteAck_unread h, exec_effectWriteAck_frozen h,
    fun hm => ⟨?_, ?_, ?_, ?_, ?_, ?_, ?_, ?_, ?_, ?_, ?_⟩⟩
  · rcases hr with ⟨x, rfl⟩ | ⟨m, rfl⟩ | rfl <;> rfl
  · rintro te q rfl
    exact effect_setTenant h hm
  · rintro timing rfl
    exact exec_effectWriteAck_plain h hm rfl rfl
  · rintro k settings rfl
    exact effect_setPool h hm
  · rintro n k len rfl hs
    exact effect_addSpan h hm hs
  · rintro n k len st rfl hs
    exact effect_turnSpan h hm hs
  · rintro n k len rfl hs
    exact effect_removeSpan h hm hs
  · rintro v i x m n adv g rfl hk hg hn
    exact effect_setEntry h hm hk hg hn
  · rintro v i x n g f y rfl hk hg hf hn
    exact effect_setPlacement h hm hk hg hf hn
  · rintro v i m y rfl hn
    exact effect_setMask h hm hn
  · rintro v i f y rfl hf hn
    exact effect_removeEntry h hm hf hn
  · rintro v st te k size htab rfl
    exact effect_setVolume h hm htab

end Sys2Proof.Machine
end

section
/-! PROOFS. Deletions that go on (R23 to R25), and the end of a recovery, which resumes them (R27, R156). -/

namespace Sys2Proof.Machine

open State

variable {s u : State} {v : Nat}

/-! ## A deletion goes on -/

theorem updateDeletion_volume (v x : Nat) (f : Deletion → Deletion) (s : State) : (updateDeletion v f s).volume x =
    if v = x then { s.volume v with deletion := (s.volume v).deletion.map f } else s.volume x :=
  volume_setVolume v x _ s

theorem updateDeletion_same {d : Deletion} (f : Deletion → Deletion) (h : (s.volume v).deletion = some d) :
    (updateDeletion v f s).volume v = { s.volume v with deletion := some (f d) } := by
  rw [updateDeletion_volume, if_pos rfl, h]
  rfl

theorem continueDeletion_ending (h : (s.volume v).mapped = 0) : continueDeletion v s =
    { updateDeletion v (fun d => { d with stage := .ending }) s with deletionsDue := s.deletionsDue ++ [v] } := by
  unfold continueDeletion
  rw [if_neg (by omega)]
  rfl

theorem continueDeletion_granted (h : 0 < (s.volume v).mapped) (ha : s.admission < Config.admissionLimit) :
    continueDeletion v s = grantRemoval v (updateDeletion v (fun d => { d with stage := .removing }) s) := by
  unfold continueDeletion
  rw [if_pos h]
  exact if_pos ha

theorem continueDeletion_paused (h : 0 < (s.volume v).mapped) (ha : ¬ s.admission < Config.admissionLimit) :
    continueDeletion v s = updateDeletion v (fun d => { d with paused := true })
      { updateDeletion v (fun d => { d with stage := .removing }) s with admissionWait := s.admissionWait ++ [v] } := by
  unfold continueDeletion
  rw [if_pos h]
  exact if_neg ha

/-- The three ways in which a deletion goes on. -/
theorem continueDeletion_cases {motive : State → Prop} (v : Nat) (s : State)
    (ending : (s.volume v).mapped = 0 → motive
      { updateDeletion v (fun d => { d with stage := .ending }) s with deletionsDue := s.deletionsDue ++ [v] })
    (granted : 0 < (s.volume v).mapped → s.admission < Config.admissionLimit →
      motive (grantRemoval v (updateDeletion v (fun d => { d with stage := .removing }) s)))
    (paused : 0 < (s.volume v).mapped → ¬ s.admission < Config.admissionLimit →
      motive (updateDeletion v (fun d => { d with paused := true })
        { updateDeletion v (fun d => { d with stage := .removing }) s with admissionWait := s.admissionWait ++ [v] })) :
    motive (continueDeletion v s) := by
  by_cases h : 0 < (s.volume v).mapped
  · by_cases ha : s.admission < Config.admissionLimit
    · rw [continueDeletion_granted h ha]; exact granted h ha
    · rw [continueDeletion_paused h ha]; exact paused h ha
  · rw [continueDeletion_ending (by omega)]; exact ending (by omega)

theorem continueDeletion_keeps {γ : Type} (g : State → γ) (v : Nat) (s : State)
    (hg : ∀ (t : State) a b c d, g { t with volumes := a, promises := b, admissionWait := c, deletionsDue := d } = g t := by
      intros; rfl) : g (continueDeletion v s) = g s := by
  refine continueDeletion_cases (motive := fun u => g u = g s) v s (fun _ => ?_) (fun _ _ => ?_) (fun _ _ => ?_)
  · exact hg s _ s.promises s.admissionWait _
  · exact (hg (updateDeletion v (fun d => { d with stage := .removing }) s) _ _ s.admissionWait _).trans
      (hg s _ s.promises s.admissionWait s.deletionsDue)
  · exact (hg (updateDeletion v (fun d => { d with stage := .removing }) s) _ s.promises _ s.deletionsDue).trans
      (hg s _ s.promises s.admissionWait s.deletionsDue)

/-- A deletion that goes on touches no other volume, and of its own the deletion alone. -/
theorem continueDeletion_volume (v x : Nat) (s : State) :
    { (continueDeletion v s).volume x with deletion := none } = { s.volume x with deletion := none } ∧
    (v ≠ x → (continueDeletion v s).volume x = s.volume x) := by
  have one (f : Deletion → Deletion) (t : State) :
      { (updateDeletion v f t).volume x with deletion := none } = { t.volume x with deletion := none } ∧
      (v ≠ x → (updateDeletion v f t).volume x = t.volume x) := by
    rw [updateDeletion_volume]
    by_cases h : v = x
    · subst h
      exact ⟨by rw [if_pos rfl], fun h => absurd rfl h⟩
    · exact ⟨by rw [if_neg h], fun _ => if_neg h⟩
  refine continueDeletion_cases (motive := fun u => { u.volume x with deletion := none } = { s.volume x with deletion := none } ∧
    (v ≠ x → u.volume x = s.volume x)) v s (fun _ => ?_) (fun _ _ => ?_) (fun _ _ => ?_)
  · exact one _ s
  · obtain ⟨h1, k1⟩ := one (fun d => { d with stage := .removing }) s
    refine ⟨(grantRemoval_volume v x _).trans h1, fun h => ?_⟩
    rw [grantRemoval_unpaused, k1 h]
    exact if_neg (fun hm => h (List.mem_singleton.mp hm).symm)
  · obtain ⟨h1, k1⟩ := one (fun d => { d with stage := .removing }) s
    obtain ⟨h2, k2⟩ := one (fun d => { d with paused := true })
      { updateDeletion v (fun d => { d with stage := .removing }) s with admissionWait := s.admissionWait ++ [v] }
    exact ⟨h2.trans h1, fun h => (k2 h).trans (k1 h)⟩

/-- With room, a deletion is due next, with the promise of a removal batch while it has entries. -/
theorem continueDeletion_room {d : Deletion} (hd : (s.volume v).deletion = some d) (ha : s.admission < Config.admissionLimit) :
    (continueDeletion v s).deletionsDue = s.deletionsDue ++ [v] ∧ (continueDeletion v s).admissionWait = s.admissionWait ∧
    (continueDeletion v s).promises = s.promises + (if 0 < (s.volume v).mapped then 1 else 0) ∧
    (continueDeletion v s).volume v = { s.volume v with
      deletion := some (if 0 < (s.volume v).mapped then { d with stage := .removing, paused := false }
        else { d with stage := .ending }) } := by
  by_cases h : 0 < (s.volume v).mapped
  · rw [continueDeletion_granted h ha, if_pos h, if_pos h]
    refine ⟨rfl, rfl, rfl, ?_⟩
    rw [grantRemoval_unpaused, updateDeletion_same _ hd]
    exact if_pos (List.mem_singleton_self v)
  · rw [continueDeletion_ending (by omega), if_neg h, if_neg h]
    exact ⟨rfl, rfl, rfl, updateDeletion_same _ hd⟩

/-! ## A deletion is resumed -/

/-- The part with a deletion at the front of its queue, before the deletion goes on. -/
def deletionResumed (v : Nat) (s : State) : State :=
  (s.updateVolume v (fun r => { r with deletion := some ⟨none, .removing, false⟩ })).setQueue (.volume v)
    { s.queue (.volume v) with flight := some .deletion }

theorem resumeDeletion_eq (v : Nat) (s : State) : resumeDeletion v s = continueDeletion v (deletionResumed v s) := rfl

theorem deletionResumed_volume (v x : Nat) (s : State) : (deletionResumed v s).volume x =
    if v = x then { s.volume v with deletion := some ⟨none, .removing, false⟩ } else s.volume x :=
  volume_setVolume v x _ s

theorem deletionResumed_queue (v : Nat) (q : QueueId) (s : State) : (deletionResumed v s).queue q =
    if q = .volume v then { s.queue (.volume v) with flight := some .deletion } else s.queue q := by
  unfold deletionResumed
  by_cases h : q = .volume v
  · rw [if_pos h, h, queue_setQueue_self]
  · rw [if_neg h, queue_setQueue_other _ _ _ _ (Ne.symm h)]
    cases q <;> rfl

theorem resumeDeletion_keeps {γ : Type} (g : State → γ) (v : Nat) (s : State)
    (hg : ∀ (t : State) a b c d e, g { t with
      volumes := a, promises := b, admissionWait := c, deletionsDue := d, queues := e } = g t := by intros; rfl) :
    g (resumeDeletion v s) = g s := by
  rw [resumeDeletion_eq, continueDeletion_keeps g v _ (fun t a b c d => hg t a b c d t.queues)]
  exact hg s _ s.promises s.admissionWait s.deletionsDue _

theorem resumeDeletion_queue (v : Nat) (q : QueueId) (s : State) : (resumeDeletion v s).queue q =
    if q = .volume v then { s.queue (.volume v) with flight := some .deletion } else s.queue q := by
  have hq : (resumeDeletion v s).queue = (deletionResumed v s).queue := by
    rw [resumeDeletion_eq]
    exact continueDeletion_keeps State.queue v _ (fun t a b c d => by funext q; cases q <;> rfl)
  rw [hq, deletionResumed_queue]

/-- The resumption touches no other volume, and of its own the deletion alone. -/
theorem resumeDeletion_volume (v x : Nat) (s : State) :
    { (resumeDeletion v s).volume x with deletion := none } = { s.volume x with deletion := none } ∧
    (v ≠ x → (resumeDeletion v s).volume x = s.volume x) := by
  obtain ⟨h1, k1⟩ := continueDeletion_volume v x (deletionResumed v s)
  rw [deletionResumed_volume] at h1 k1
  rw [resumeDeletion_eq]
  by_cases h : v = x
  · subst h
    rw [if_pos rfl] at h1
    exact ⟨h1, fun h => absurd rfl h⟩
  · rw [if_neg h] at h1 k1
    exact ⟨h1, k1⟩

theorem resumeDeletion_room (ha : s.admission < Config.admissionLimit) :
    (resumeDeletion v s).deletionsDue = s.deletionsDue ++ [v] ∧ (resumeDeletion v s).admissionWait = s.admissionWait ∧
    (resumeDeletion v s).promises = s.promises + (if 0 < (s.volume v).mapped then 1 else 0) ∧
    (resumeDeletion v s).volume v = { s.volume v with
      deletion := some ⟨none, if 0 < (s.volume v).mapped then .removing else .ending, false⟩ } := by
  have hv := deletionResumed_volume v v s
  rw [if_pos rfl] at hv
  obtain ⟨h1, h2, h3, h4⟩ := continueDeletion_room (v := v) (s := deletionResumed v s) (d := ⟨none, .removing, false⟩)
    (by rw [hv]) ha
  rw [hv] at h3 h4
  rw [resumeDeletion_eq]
  refine ⟨h1, h2, h3, h4.trans ?_⟩
  dsimp only
  split <;> rfl

/-! ## All deletions are resumed -/

/-- The deletions of several volumes are resumed, in order. -/
def resumeAll (l : List Nat) (s : State) : State := l.foldl (fun s v => resumeDeletion v s) s

theorem resumeAll_cons (v : Nat) (l : List Nat) (s : State) : resumeAll (v :: l) s = resumeAll l (resumeDeletion v s) := rfl

theorem resumeAll_keeps {γ : Type} (g : State → γ) (l : List Nat) (s : State)
    (hg : ∀ (t : State) a b c d e, g { t with
      volumes := a, promises := b, admissionWait := c, deletionsDue := d, queues := e } = g t := by intros; rfl) :
    g (resumeAll l s) = g s :=
  foldl_keeps g _ (fun b a => resumeDeletion_keeps g a b hg) _ _

theorem resumeAll_volume (l : List Nat) (x : Nat) (s : State) :
    { (resumeAll l s).volume x with deletion := none } = { s.volume x with deletion := none } ∧
    (x ∉ l → (resumeAll l s).volume x = s.volume x) := by
  induction l generalizing s with
  | nil => exact ⟨rfl, fun _ => rfl⟩
  | cons v l ih =>
    obtain ⟨h1, k1⟩ := resumeDeletion_volume v x s
    obtain ⟨h2, k2⟩ := ih (resumeDeletion v s)
    refine ⟨h2.trans h1, fun h => ?_⟩
    exact (k2 (fun hm => h (List.mem_cons_of_mem v hm))).trans (k1 (fun e => h (e ▸ List.mem_cons_self)))

theorem resumeAll_queue (l : List Nat) (q : QueueId) (h : ∀ v ∈ l, q ≠ .volume v) (s : State) :
    (resumeAll l s).queue q = s.queue q := by
  induction l generalizing s with
  | nil => rfl
  | cons v l ih =>
    rw [resumeAll_cons, ih (fun w hw => h w (List.mem_cons_of_mem v hw)), resumeDeletion_queue,
      if_neg (h v List.mem_cons_self)]

/-- With room for all, every deletion is due, each with the promise of a removal batch while it has entries. -/
theorem resumeAll_room {l : List Nat} (hn : l.Nodup) (ha : s.admission + l.length ≤ Config.admissionLimit) :
    (resumeAll l s).deletionsDue = s.deletionsDue ++ l ∧ (resumeAll l s).admissionWait = s.admissionWait ∧
    (resumeAll l s).promises = s.promises + (l.filter (fun v => decide (0 < (s.volume v).mapped))).length ∧
    ∀ v ∈ l, (resumeAll l s).volume v = { s.volume v with
        deletion := some ⟨none, if 0 < (s.volume v).mapped then .removing else .ending, false⟩ } ∧
      (resumeAll l s).queue (.volume v) = { s.queue (.volume v) with flight := some .deletion } := by
  induction l generalizing s with
  | nil => exact ⟨(List.append_nil _).symm, rfl, rfl, fun v hv => nomatch hv⟩
  | cons v l ih =>
    obtain ⟨hv, hn⟩ := List.nodup_cons.mp hn
    rw [List.length_cons] at ha
    have hlt : s.admission < Config.admissionLimit := by omega
    obtain ⟨h1, h2, h3, h4⟩ := resumeDeletion_room (v := v) hlt
    have hother (x : Nat) (hx : x ∈ l) : (resumeDeletion v s).volume x = s.volume x :=
      (resumeDeletion_volume v x s).2 (fun e => hv (e ▸ hx))
    have hadm : (resumeDeletion v s).admission + l.length ≤ Config.admissionLimit := by
      have hg : (resumeDeletion v s).grace = s.grace := resumeDeletion_keeps State.grace v s
      unfold State.admission at ha ⊢
      rw [hg, h3]
      split <;> omega
    obtain ⟨k1, k2, k3, k4⟩ := ih hn hadm
    rw [resumeAll_cons]
    refine ⟨by rw [k1, h1, List.append_assoc]; rfl, k2.trans h2, ?_, fun x hx => ?_⟩
    · rw [k3, h3, List.filter_congr (fun x hx => by rw [hother x hx])]
      by_cases hm : 0 < (s.volume v).mapped
      · simp only [hm, if_true, List.filter_cons, decide_true, List.length_cons]
        omega
      · simp [hm]
    · rcases List.mem_cons.mp hx with rfl | hx
      · rw [(resumeAll_volume l x _).2 hv, h4, resumeAll_queue l _ (fun w hw e => hv (by cases e; exact hw)),
          resumeDeletion_queue, if_pos rfl]
        exact ⟨rfl, rfl⟩
      · obtain ⟨m1, m2⟩ := k4 x hx
        rw [hother x hx] at m1
        rw [resumeDeletion_queue, if_neg (fun e => hv (by cases e; exact hx))] at m2
        exact ⟨m1, m2⟩

theorem mem_deletingVolumes (hw : Table.wf s.volumes = true) (v : Nat) :
    v ∈ deletingVolumes s ↔ (s.volume v).state = .deleting := by
  unfold deletingVolumes
  constructor
  · intro h
    obtain ⟨e, he, rfl⟩ := List.mem_map.mp h
    obtain ⟨hes, hed⟩ := List.mem_filter.mp he
    have hv : s.volume e.1 = e.2 :=
      congrArg (fun x => Option.getD x Volume.absent) (Table.get?_of_mem s.volumes e.1 e.2 hw hes)
    rw [hv]
    exact of_decide_eq_true hed
  · intro h
    have hg : ∃ r, Table.get? s.volumes v = some r := by
      cases hg : Table.get? s.volumes v with
      | some r => exact ⟨r, rfl⟩
      | none =>
        have hv : s.volume v = .absent := congrArg (fun x => Option.getD x Volume.absent) hg
        rw [hv] at h
        cases h
    obtain ⟨r, hg⟩ := hg
    have hv : s.volume v = r := congrArg (fun x => Option.getD x Volume.absent) hg
    exact List.mem_map.mpr ⟨(v, r), List.mem_filter.mpr ⟨Table.mem_of_get? _ _ _ hg, decide_eq_true (hv ▸ h)⟩, rfl⟩

/-! ## The end of recovery -/

theorem settled_recovering (h : s.mode = .recovering) : settled s := by
  unfold settled due?
  rw [h]
  rfl

theorem exec_recoveryEnd (hm : s.mode = .recovering) (hs : s.recovery.stage = .swept) :
    exec .recoveryEnd s = .next (finishRecovery s) := by
  refine (event_settled _ (settled_recovering hm)).trans (congrArg _ ?_)
  unfold endStep
  rw [if_pos hm]
  unfold sweepStep inReplay
  rw [hs]
  simp

/-- The part as it serves again, before its deletions are resumed. -/
def servingAgain (s : State) : State := { setAfterRecovery s with mode := .serving }

theorem finishRecovery_serving (h : s.recovery.firstFault = none) :
    finishRecovery s = resumeAll (deletingVolumes s) (servingAgain s) := by
  unfold finishRecovery
  rw [h]
  rfl

theorem finishRecovery_frozen {c : FreezeCause} (h : s.recovery.firstFault = some c) :
    finishRecovery s = { setAfterRecovery s with mode := .frozen, freezeCause := some c } := by
  unfold finishRecovery
  rw [h]

/-- A deletion is due in the stage that it is in. -/
theorem due?_deletion {rest : List Nat} (hm : s.mode = .serving) (hw : s.logWait = []) (hd : s.deletionsDue = v :: rest) :
    due? s = some (if ending s v then .ending else .removal) := by
  unfold due?
  rw [if_neg (not_not.mpr hm), hw, hd]
  rfl

theorem ending_of {d : Deletion} (h : (s.volume v).deletion = some d) : ending s v = decide (d.stage = .ending) := by
  unfold ending
  rw [h]

theorem formEnding_forms (v : Nat) (s : State) : formEnding v s =
    formIntent .deletion ⟨.deleteEnd, .volume v, none, none, [.setVolume v .absent 0 0 0], none⟩
      { s with deletionsDue := s.deletionsDue.tail } := rfl

theorem formIntent_logWait (flight : Flight) (i : Intent) (s : State) :
    (formIntent flight i s).logWait = s.logWait ++ [i] := by
  unfold formIntent
  dsimp only
  rw [setQueue_logWait]

/-- Settles O22. -/
theorem recoveryEnds : Obligations.RecoveryEnds := by
  intro s hm hs htab
  obtain ⟨hvols, -⟩ := htab
  have hw : Table.wf s.volumes = true := (Bool.and_eq_true_iff.mp hvols).1
  have hports : ∀ p, (∀ t, ((mapAt HeadPort.recovered s.ports).get p).busy.get t = true ↔
        ∃ a ∈ (s.ports.get p).answers, a.tag = t) ∧
      (mapAt HeadPort.recovered s.ports).get p = { s.ports.get p with
        busy := ((mapAt HeadPort.recovered s.ports).get p).busy, notices := [], lost := false } := by
    intro p
    rw [mapAt_get]
    refine ⟨fun t => ?_, rfl⟩
    rw [recovered_busy, List.any_eq_true]
    simp only [decide_eq_true_eq]
  cases hf : s.recovery.firstFault with
  | some c =>
    refine ⟨_, (exec_recoveryEnd hm hs).trans (congrArg _ (finishRecovery_frozen hf)), rfl, rfl, rfl, hports, fun x hx => ?_,
      fun h => nomatch h⟩
    cases hx
    rfl
  | none =>
    obtain ⟨a, ha⟩ : ∃ a, a = servingAgain s := ⟨_, rfl⟩
    obtain ⟨u, hu⟩ : ∃ u, u = resumeAll (deletingVolumes s) a := ⟨_, rfl⟩
    have hexec : exec .recoveryEnd s = .next u := by
      rw [exec_recoveryEnd hm hs, finishRecovery_serving hf, hu, ha]
    have keep {γ : Type} (g : State → γ)
        (hg : ∀ (t : State) a b c d e, g { t with
          volumes := a, promises := b, admissionWait := c, deletionsDue := d, queues := e } = g t := by intros; rfl) :
        g u = g a := hu ▸ resumeAll_keeps g _ a hg
    have hav : a.volume = s.volume := by rw [ha]; rfl
    have haq (v : Nat) : a.queue (.volume v) = s.queue (.volume v) := by rw [ha]; rfl
    have hup : u.ports = mapAt HeadPort.recovered s.ports := (keep State.ports).trans (by rw [ha]; rfl)
    have hserving : u.mode = .serving := (keep State.mode).trans (by rw [ha]; rfl)
    have hvol (v : Nat) := resumeAll_volume (deletingVolumes s) v a
    rw [← hu, hav] at hvol
    have hpool (v : Nat) : (u.volume v).pool = (s.volume v).pool := (congrArg Volume.pool (hvol v).1 :)
    have hmaps : u.mapOf = s.mapOf := (keep State.mapOf).trans (by rw [ha]; rfl)
    refine ⟨u, hexec, (keep State.generation).trans (by rw [ha]; rfl), (keep State.watches).trans (by rw [ha]; rfl),
      (congrArg Recovery.stage (keep State.recovery)).trans (by rw [ha]; rfl), by rw [hup]; exact hports,
      fun c hc => (Option.some_ne_none c hc.symm).elim, fun _ => ⟨hserving, fun v hv => ?_, fun h0 hwait hlen => ?_, fun v rest hd hl hdel => ?_,
        fun v rest hd hl hdel => ?_, ?_⟩⟩
    · have hn : v ∉ deletingVolumes s := fun h => hv ((mem_deletingVolumes hw v).mp h)
      refine ⟨(hvol v).2 hn, ?_⟩
      rw [hu, resumeAll_queue _ _ (fun w hw e => hn (by cases e; exact hw)), haq]
    · have hnd : (deletingVolumes s).Nodup := Table.wf_nodup _ (Table.wf_filter _ _ hw)
      have hadm : a.admission = s.admission := by rw [ha]; rfl
      obtain ⟨h1, h2, h3, h4⟩ := resumeAll_room (s := a) hnd (by rw [hadm, h0, Nat.zero_add]; exact hlen)
      rw [← hu, hav] at h3
      rw [← hu] at h1 h2 h4
      have hp0 : a.promises = 0 := by
        have : s.grace.length + s.promises = 0 := h0
        rw [ha]
        show s.promises = 0
        omega
      refine ⟨h1.trans (by rw [ha]; rfl), h2.trans (by rw [ha]; exact hwait), by rw [h3, hp0, Nat.zero_add], fun v hv => ?_⟩
      obtain ⟨k1, k2⟩ := h4 v ((mem_deletingVolumes hw v).mpr hv)
      rw [hav] at k1
      rw [haq] at k2
      exact ⟨k1, k2⟩
    · have he : ending u v = false := ending_of hdel
      have hdue := due?_deletion hserving hl hd
      rw [he] at hdue
      have ht : takeDue .removal u = formIntent .deletion ⟨.deleteBatch, .volume v, none, none,
          (removalEntries u v).map (fun e => .removeEntry v e.1), some ⟨(u.volume v).pool, []⟩⟩
          { u with deletionsDue := u.deletionsDue.tail } :=
        (formDeletion_removal [] hdue hd).trans (formRemoval_good v u)
      refine ⟨hdue, ?_, ?_⟩
      · rw [ht, formIntent_keeps State.deletionsDue, hd]
        rfl
      · rw [ht, formIntent_logWait, hpool, removalEntries, hmaps]
        exact congrArg (· ++ _) hl
    · have he : ending u v = true := ending_of hdel
      have hdue := due?_deletion hserving hl hd
      rw [he] at hdue
      have ht : takeDue .ending u = formEnding v u := by
        show formDeletion [] u = _
        unfold formDeletion
        rw [hd]
        exact if_pos he
      refine ⟨hdue, ?_, ?_⟩
      · rw [ht, formEnding_forms, formIntent_keeps State.deletionsDue, hd]
        rfl
      · rw [ht, formEnding_forms, formIntent_logWait]
        exact congrArg (· ++ _) hl
    · let g : State → State := fun x => { x with
        mode := .serving, generation := u.generation, ports := u.ports, watches := u.watches, recovery := u.recovery
        volumes := u.volumes, queues := u.queues, promises := u.promises, admissionWait := u.admissionWait
        deletionsDue := u.deletionsDue }
      calc u = g u := by rw [show g u = { u with mode := .serving } from rfl, ← hserving]
        _ = g a := keep g
        _ = g s := by rw [ha]; rfl

end Sys2Proof.Machine
end

section
/-! PROOFS. The law of the pools under the shared operations: which of them move no count, and which move counts in
balance and have the level judged (R35, R37). -/

namespace Sys2Proof.Machine

open State

variable {s u : State} {k : PoolId}

/-! ## The law, pool by pool -/

/-- The counts of a pool balance (R35). -/
def Pool.balanced (r : Pool) : Prop := r.capacity = r.free + r.reserved + r.used + r.grace

/-- The counts of a pool balance and its level is the judged one (R35, R37). -/
def Pool.lawful (r : Pool) : Prop := r.balanced ∧ r.level = r.judged

/-- The law, but for the level of one pool. -/
structure PoolLawBut (k : PoolId) (s : State) : Prop where
  balanced : (s.pools.get k).balanced
  others : ∀ j, k ≠ j → (s.pools.get j).lawful

theorem poolLaw_iff : poolLaw s ↔ ∀ k, (s.pools.get k).lawful := Iff.rfl

theorem judged_critical {r : Pool} (h : r.allocatable ≤ r.settings.critical) : r.judged = .critical := if_pos h

theorem judged_low {r : Pool} (h : r.settings.critical < r.allocatable) (hw : r.allocatable ≤ r.settings.warn) :
    r.judged = .low := by
  unfold Pool.judged
  rw [if_neg (not_le.mpr h), if_pos hw]

theorem judged_normal {r : Pool} (h : r.settings.critical < r.allocatable) (hw : r.settings.warn < r.allocatable) :
    r.judged = .normal := by
  unfold Pool.judged
  rw [if_neg (not_le.mpr h), if_neg (not_le.mpr hw)]

theorem lawful_empty (settings : PoolSettings) : { Pool.empty with settings := settings }.lawful :=
  ⟨rfl, (judged_critical (r := { Pool.empty with settings := settings }) (Int.natCast_nonneg _)).symm⟩

/-! ## All pools -/

/-- The pools alone decide the law. -/
theorem poolLaw_congr (h : u.pools = s.pools) : poolLaw u ↔ poolLaw s := by
  rw [poolLaw_iff, poolLaw_iff, h]

theorem poolLaw_ite {c : Prop} [Decidable c] {a b : State} (ha : poolLaw a) (hb : poolLaw b) :
    poolLaw (if c then a else b) := by
  split
  · exact ha
  · exact hb

theorem poolLaw_foldl {α : Type} {f : State → α → State} (hf : ∀ b a, poolLaw b → poolLaw (f b a)) (l : List α)
    (hs : poolLaw s) : poolLaw (l.foldl f s) := l.foldlRecOn f hs (fun b hb a _ => hf b a hb)

/-- A move of counts that keeps the balance and reaches neither the settings nor the allocatable count. -/
theorem poolLaw_updatePool (k : PoolId) {f : Pool → Pool} (hf : ∀ r : Pool, r.lawful → (f r).lawful) (hs : poolLaw s) :
    poolLaw (s.updatePool k f) := fun j => by
  rw [updatePool_pools, putAt_get]
  split
  · exact hf _ (hs k)
  · exact hs j

/-- A move of counts that keeps the balance. -/
theorem poolLawBut_of_pools {f : Pool → Pool} (h : u.pools = putAt s.pools k (f (s.pools.get k)))
    (hf : ∀ r : Pool, r.balanced → (f r).balanced) (hs : poolLaw s) : PoolLawBut k u where
  balanced := by
    rw [h, putAt_get_self]
    exact hf _ (hs k).1
  others j hj := by
    rw [h, putAt_get_other _ _ _ _ hj]
    exact hs j

/-- The judgement of the level completes the law. -/
theorem poolLaw_judgeLevel (hs : PoolLawBut k s) : poolLaw (judgeLevel k s) := fun j => by
  rw [judgeLevel_pools, putAt_get]
  split
  · exact ⟨hs.balanced, rfl⟩
  · rename_i hj
    exact hs.others j hj

/-! ## Operations that move no count -/

section
variable (o : Origin) (code : Byte) (outcome : AnswerOutcome) (body : AnswerBody) (kind : RequestKind) (r : Reason)
  (p : Port) (n : Notice) (v : Nat) (q : QueueId)

@[simp] theorem poolLaw_answer : poolLaw (answer o code outcome body s) ↔ poolLaw s :=
  poolLaw_congr (keeps_of_erasePorts State.pools (answer_erase _ _ _ _ _))

@[simp] theorem poolLaw_answer? (o : Option Origin) : poolLaw (answer? o code outcome body s) ↔ poolLaw s :=
  poolLaw_congr (keeps_of_erasePorts State.pools (answer?_erase _ _ _ _ _))

@[simp] theorem poolLaw_refuse : poolLaw (refuse o kind r s) ↔ poolLaw s := poolLaw_answer _ _ _ _

@[simp] theorem poolLaw_refuseWith : poolLaw (refuseWith o kind r body s) ↔ poolLaw s := poolLaw_answer _ _ _ _

@[simp] theorem poolLaw_refuseItem (o : Option Origin) : poolLaw (refuseItem o kind r body s) ↔ poolLaw s :=
  poolLaw_answer? _ _ _ _

@[simp] theorem poolLaw_addNotice : poolLaw (addNotice p n s) ↔ poolLaw s :=
  poolLaw_congr (keeps_of_erasePorts State.pools (addNotice_erase _ _ _))

@[simp] theorem poolLaw_notifyJoined (but : Option Port) : poolLaw (notifyJoined but n s) ↔ poolLaw s :=
  poolLaw_congr (keeps_of_erasePorts State.pools (notifyJoined_erase _ _ _))

@[simp] theorem poolLaw_announceBatch (but : Option Port) (v : Option Nat) (g : Gen) :
    poolLaw (announceBatch but v g s) ↔ poolLaw s :=
  poolLaw_congr (keeps_of_erasePorts State.pools (announceBatch_erase _ _ _ _))

@[simp] theorem poolLaw_reportVolume : poolLaw (reportVolume v s) ↔ poolLaw s :=
  poolLaw_congr (keeps_of_eraseReport State.pools (reportVolume_erase _ _))

@[simp] theorem poolLaw_endWatches : poolLaw (endWatches p r s) ↔ poolLaw s :=
  poolLaw_congr (keeps_of_eraseReport State.pools (endWatches_erase _ _ _))

@[simp] theorem poolLaw_setLatch (b : Bool) : poolLaw (setLatch v b s) ↔ poolLaw s :=
  poolLaw_congr (setLatch_keeps State.pools v b s)

@[simp] theorem poolLaw_serveWaiting : poolLaw (serveWaiting s) ↔ poolLaw s :=
  poolLaw_congr (serveWaiting_keeps State.pools s)

@[simp] theorem poolLaw_setQueue (c : ChangeQueue) : poolLaw (s.setQueue q c) ↔ poolLaw s :=
  poolLaw_congr (setQueue_pools q c s)

@[simp] theorem poolLaw_endFlight : poolLaw (endFlight q s) ↔ poolLaw s := poolLaw_setQueue _ _

@[simp] theorem poolLaw_enqueue (x : Request) : poolLaw (enqueue x o s) ↔ poolLaw s := poolLaw_setQueue _ _

@[simp] theorem poolLaw_formIntent (flight : Flight) (i : Intent) : poolLaw (formIntent flight i s) ↔ poolLaw s :=
  poolLaw_congr (formIntent_keeps State.pools flight i s)

@[simp] theorem poolLaw_continueDeletion : poolLaw (continueDeletion v s) ↔ poolLaw s :=
  poolLaw_congr (continueDeletion_keeps State.pools v s)

@[simp] theorem poolLaw_setVolume (x : Volume) : poolLaw (s.setVolume v x) ↔ poolLaw s := Iff.rfl

@[simp] theorem poolLaw_setGrant (g : Grant) : poolLaw (s.setGrant v g) ↔ poolLaw s := Iff.rfl

@[simp] theorem poolLaw_freeGrant : poolLaw (s.freeGrant v) ↔ poolLaw s := Iff.rfl

@[simp] theorem poolLaw_setMap (m : Table Entry) : poolLaw (s.setMap v m) ↔ poolLaw s := Iff.rfl

@[simp] theorem poolLaw_setLease (l : Lease) : poolLaw (s.setLease v l) ↔ poolLaw s := Iff.rfl

@[simp] theorem poolLaw_updateTenant (f : Tenant → Tenant) : poolLaw (s.updateTenant v f) ↔ poolLaw s := Iff.rfl

@[simp] theorem poolLaw_updatePort (f : HeadPort → HeadPort) : poolLaw (s.updatePort p f) ↔ poolLaw s := Iff.rfl

@[simp] theorem poolLaw_lowerPending (m : Nat) : poolLaw (lowerPending v m s) ↔ poolLaw s := Iff.rfl

@[simp] theorem poolLaw_raiseMapped : poolLaw (raiseMapped v s) ↔ poolLaw s := Iff.rfl

@[simp] theorem poolLaw_lowerMapped : poolLaw (lowerMapped v s) ↔ poolLaw s := Iff.rfl

@[simp] theorem poolLaw_leaveGrant (g : Option Nat) (i : Nat) : poolLaw (leaveGrant g i s) ↔ poolLaw s := by
  unfold leaveGrant
  split
  · rfl
  · split <;> rfl

end

/-! ## Leases and membership -/

section
variable (v : Nat) (p : Port)

@[simp] theorem poolLaw_loseLease (orphan : Bool) (empty : Hold) : poolLaw (loseLease v orphan empty s) ↔ poolLaw s :=
  poolLaw_congr (keeps_of_erase State.pools (loseLease_erase v orphan empty s) (fun _ => rfl))

@[simp] theorem poolLaw_loseLeases (orphan : Bool) (empty : Hold) (l : List Nat) :
    poolLaw (l.foldl (fun s v => loseLease v orphan empty s) s) ↔ poolLaw s :=
  poolLaw_congr (keeps_of_erase State.pools (leases_after_drop orphan empty l s) (fun _ => rfl))

@[simp] theorem poolLaw_departWaiter : poolLaw (departWaiter p v s) ↔ poolLaw s :=
  poolLaw_congr (keeps_of_erase State.pools (departWaiter_erase p v s) (fun _ => rfl))

@[simp] theorem poolLaw_departAll : poolLaw (departAll p s) ↔ poolLaw s :=
  poolLaw_congr (keeps_of_erase State.pools (departAll_erase p s) (fun _ => rfl))

@[simp] theorem poolLaw_endClaims (r : Reason) (c : List (Nat × Tag)) : poolLaw (endClaims p r c s) ↔ poolLaw s :=
  poolLaw_congr (keeps_of_erasePorts State.pools (endClaims_erase p r c s))

@[simp] theorem poolLaw_setHead (h : Head) : poolLaw (setHead p h s) ↔ poolLaw s := Iff.rfl

@[simp] theorem poolLaw_joinHead (i : BitVec 32) : poolLaw (joinHead p i s) ↔ poolLaw s := Iff.rfl

end

/-! ## Batches (R111, R112) -/

/-- Extents that pass from grace to free keep the balance. -/
theorem balanced_returned (n online : Nat) (r : Pool) (hr : r.balanced) : (r.returned n online).balanced := by
  unfold Pool.balanced Pool.returned at *
  dsimp only
  omega

theorem poolLaw_returnBatch (b : Batch) (rest : List Batch) (hs : poolLaw s) : poolLaw (returnBatch b rest s) := by
  unfold returnBatch
  exact poolLaw_judgeLevel
    (poolLawBut_of_pools (s := s) (f := fun r => r.returned b.extents.length _) rfl (balanced_returned _ _) hs)

theorem poolLaw_releaseOldest (b : Batch) (rest : List Batch) (hs : poolLaw s) : poolLaw (releaseOldest b rest s) :=
  (poolLaw_serveWaiting (s := returnBatch b rest s)).mpr (poolLaw_returnBatch b rest hs)

theorem poolLaw_releaseLoop (n : Nat) (hs : poolLaw s) : poolLaw (releaseLoop n s) := by
  induction n generalizing s with
  | zero => exact hs
  | succ n ih =>
    unfold releaseLoop
    split
    · exact hs
    · exact poolLaw_ite (ih (poolLaw_releaseOldest _ _ hs)) hs

theorem poolLaw_releaseTest (hs : poolLaw s) : poolLaw (releaseTest s) := poolLaw_releaseLoop _ hs

theorem poolLaw_formBatch (k : PoolId) (x : List Extent) (o : Option Port) (v : Option Nat) (hs : poolLaw s) :
    poolLaw (formBatch k x o v s) := poolLaw_releaseTest ((poolLaw_announceBatch _ _ _).mpr hs)

theorem poolLaw_formPromised (f : Forming) (o : Option Port) (v : Nat) (hs : poolLaw s) :
    poolLaw (formPromised f o v s) := poolLaw_formBatch (s := { s with promises := s.promises - 1 }) _ _ _ _ hs

theorem poolLaw_settleForming (f : Forming) (v : Nat) (hs : poolLaw s) : poolLaw (settleForming f v s) :=
  poolLaw_ite ((poolLaw_serveWaiting (s := { s with promises := s.promises - 1 })).mpr hs) (poolLaw_formPromised f none v hs)

/-! ## Drops of grants (R65) -/

/-- Extents that pass from reserved to grace keep the law. -/
theorem lawful_cancelled {r : Pool} (n : Nat) (hr : r.lawful) : (r.cancelled n).lawful := by
  obtain ⟨hb, hl⟩ := hr
  refine ⟨?_, hl⟩
  unfold Pool.balanced Pool.cancelled at *
  dsimp only
  omega

theorem poolLaw_dropped (n : Nat) (g : Grant) (hs : poolLaw s) : poolLaw (dropped n g s) := by
  have h : poolLaw ((s.freeGrant n).updatePool (s.volume g.volume).pool (Pool.cancelled g.extents.length)) :=
    poolLaw_updatePool _ (fun r hr => lawful_cancelled _ hr) ((poolLaw_freeGrant n).mpr hs)
  unfold dropped
  dsimp only
  split
  · exact (poolLaw_lowerPending _ _).mpr h
  · exact h

theorem poolLaw_dropGrant (o : Option Port) (n : Nat) (hs : poolLaw s) : poolLaw (dropGrant o n s) := by
  cases hg : s.grant? n with
  | none => rwa [dropGrant_none o n s hg]
  | some g =>
    rw [dropGrant_some o n g s hg]
    exact poolLaw_formBatch _ _ _ _ (poolLaw_dropped n g hs)

theorem poolLaw_dropGrants (o : Option Port) (l : List Nat) (hs : poolLaw s) : poolLaw (dropGrants o l s) :=
  poolLaw_foldl (fun _ n hb => poolLaw_dropGrant o n hb) l hs

theorem poolLaw_lapse (p : Port) (hs : poolLaw s) : poolLaw (lapse p s) := by
  unfold lapse
  split
  · refine poolLaw_releaseTest ?_
    simp only [poolLaw_notifyJoined, poolLaw_endWatches, poolLaw_endClaims, poolLaw_departAll, poolLaw_loseLeases]
    exact poolLaw_dropGrants none _ ((poolLaw_setHead p _).mpr hs)
  · exact hs
  · exact hs

/-! ## Faults and reads (R160, R162) -/

theorem poolLaw_stopRequests : poolLaw (stopRequests s) ↔ poolLaw s :=
  poolLaw_congr (keeps_of_erase State.pools (stopRequests_erase s) (fun _ => rfl))

theorem poolLaw_freeze (cause : FreezeCause) (hs : poolLaw s) : poolLaw (freeze cause s) := by
  rw [freeze_eq, poolLaw_notifyJoined, stopWork_eq]
  refine poolLaw_foldl (f := fun t (x : Nat × Forming) => settleForming x.2 x.1 t)
    (fun _ x hb => poolLaw_settleForming x.2 x.1 hb) _ ?_
  exact (poolLaw_stopRequests (s := frozenBy cause s)).mpr hs

theorem poolLaw_storeFault (src : FaultSource) (kind : FaultKind) (area : StoreArea) (hs : poolLaw s) :
    poolLaw (storeFault src kind area s) := by
  unfold storeFault
  refine poolLaw_ite hs ?_
  split
  · exact poolLaw_freeze _ hs
  · exact hs
  · exact hs

theorem poolLaw_correctedRead (a : StoreArea) (hs : poolLaw s) : poolLaw (correctedRead a s) :=
  poolLaw_storeFault (areaSource a) .corrected a hs

theorem poolLaw_poisonedRead (v i : Nat) (hs : poolLaw s) : poolLaw (poisonedRead v i s) :=
  poolLaw_storeFault (s := { s with poison := insertPair v i s.poison }) _ _ _ hs

theorem poolLaw_readCells (v : Nat) (l : List (Nat × ReadFault)) (hs : poolLaw s) : poolLaw (readCells v l s).1 := by
  induction l generalizing s with
  | nil => exact hs
  | cons e l ih =>
    obtain ⟨i, f⟩ := e
    cases f with
    | corrected => exact ih (poolLaw_correctedRead _ hs)
    | uncorrectable => exact poolLaw_poisonedRead v i hs

/-- The state behind a request's reads. -/
theorem poolLaw_of_readCells {v : Nat} {l : List (Nat × ReadFault)} {b : Bool} (h : readCells v l s = (u, b))
    (hs : poolLaw s) : poolLaw u := by
  have := poolLaw_readCells v l hs
  rwa [h] at this

theorem poolLaw_resolveCells (v : Nat) (l : List (Nat × ReadFault)) (hs : poolLaw s) : poolLaw (resolveCells v l s) := by
  induction l generalizing s with
  | nil => exact hs
  | cons e l ih =>
    obtain ⟨i, f⟩ := e
    cases f with
    | corrected => exact ih (poolLaw_correctedRead _ hs)
    | uncorrectable => exact ih (poolLaw_poisonedRead v i hs)

/-! ## Grants that are made (R51, R127) -/

/-- The counts of a pool as extents pass from free to reserved. -/
def Pool.staged (n : Int) (r : Pool) : Pool :=
  { r with free := r.free - n, allocatable := r.allocatable - n, reserved := r.reserved + n }

theorem balanced_staged (n : Int) (r : Pool) (hr : r.balanced) : (r.staged n).balanced := by
  unfold Pool.balanced Pool.staged at *
  dsimp only
  omega

theorem poolLaw_makeAllocation (n : Nat) (p : Port) (v first count : Nat)
    (check : BitVec 16 → BitVec 32 → List Extent → BitVec 16) (hs : poolLaw s) :
    poolLaw (makeAllocation n p v first count check s) := by
  unfold makeAllocation
  exact poolLaw_judgeLevel (poolLawBut_of_pools (s := s) (f := Pool.staged count) rfl (balanced_staged count) hs)

theorem poolLaw_makeRelocation (o : Origin) (v i n : Nat) (e : Entry) (x : Extent) (hs : poolLaw s) :
    poolLaw (makeRelocation o v i n e x s) := by
  unfold makeRelocation
  rw [poolLaw_answer]
  exact poolLaw_judgeLevel (poolLawBut_of_pools (s := s) (f := Pool.staged 1) rfl (balanced_staged 1) hs)

theorem poolLaw_followOn (p : Port) (g : Grant) (reads : Reads) (hs : poolLaw s) : poolLaw (followOn p g reads s).1 := by
  unfold followOn
  dsimp only
  split_ifs
  · exact hs
  · exact hs
  · exact hs
  · exact hs
  · split
    · rename_i hr
      exact poolLaw_of_readCells hr hs
    · rename_i hr
      have hb := poolLaw_of_readCells hr hs
      split
      · exact hb
      · dsimp only
        exact poolLaw_makeAllocation _ _ _ _ _ _ hb

end Sys2Proof.Machine
end

section
/-! PROOFS. The law of the pools under the path of a durable change: validation, effects, and the actions at DONE (R35,
R37). -/

namespace Sys2Proof.Machine

open State

variable {s : State}

/-! ## Deletions -/

theorem poolLaw_formRemoval (v : Nat) (reads : Reads) (hs : poolLaw s) : poolLaw (formRemoval v reads s) := by
  unfold formRemoval
  dsimp only
  split
  · rename_i hr
    exact poolLaw_of_readCells hr hs
  · rename_i u hr
    rw [poolLaw_formIntent]
    exact (poolLaw_of_readCells hr hs : poolLaw u)

theorem poolLaw_formDeletion (reads : Reads) (hs : poolLaw s) : poolLaw (formDeletion reads s) := by
  unfold formDeletion
  split
  · exact hs
  · refine poolLaw_ite ?_ (poolLaw_formRemoval _ reads hs)
    unfold formEnding
    rw [poolLaw_formIntent]
    exact hs

/-! ## Validation (Table 8-1) -/

section
variable (v : Nat) (o : Option Origin) (reads : Reads)

theorem poolLaw_validateCreate (t : Nat) (pool : PoolId) (size : Nat) (mode : VolState) (hs : poolLaw s) :
    poolLaw (validateCreate v t pool size mode o s) := by
  unfold validateCreate
  split <;> simpa

theorem poolLaw_refuseBehind (c : ChangeQueue) : poolLaw (refuseBehind c s) ↔ poolLaw s :=
  poolLaw_congr (keeps_of_erasePorts State.pools (refuseBehind_erase c s))

theorem poolLaw_validateDelete (hs : poolLaw s) : poolLaw (validateDelete v o s) := by
  unfold validateDelete
  refine poolLaw_ite (by simpa) (poolLaw_ite (by simpa) ?_)
  simpa [poolLaw_refuseBehind]

theorem poolLaw_validateResize (size : Nat) (hs : poolLaw s) : poolLaw (validateResize v size o reads s) := by
  unfold validateResize
  dsimp only
  refine poolLaw_ite (by simpa) (poolLaw_ite (by simpa) (poolLaw_ite (by simpa) ?_))
  split
  · rename_i hr
    simpa using poolLaw_of_readCells hr hs
  · rename_i hr
    have hb := poolLaw_of_readCells hr hs
    exact poolLaw_ite (by simpa) (by simpa)

theorem poolLaw_validateMode (mode : VolState) (hs : poolLaw s) : poolLaw (validateMode v mode o s) := by
  unfold validateMode
  exact poolLaw_ite (by simpa) (poolLaw_ite (by simpa) (by simpa))

theorem poolLaw_validateNote (i : Nat) (written : Mask) (hs : poolLaw s) :
    poolLaw (validateNote v i written o reads s) := by
  unfold validateNote
  refine poolLaw_ite (by simpa) (poolLaw_ite (by simpa) (poolLaw_ite (by simpa) ?_))
  split
  · rename_i hr
    simpa using poolLaw_of_readCells hr hs
  · rename_i hr
    have hb := poolLaw_of_readCells hr hs
    split
    · simpa
    · exact poolLaw_ite (by simpa) (by simpa)

theorem poolLaw_cancelInto (n : Nat) (r : State × List Extent) (hr : poolLaw r.1) : poolLaw (cancelInto n r).1 := by
  unfold cancelInto
  split
  · exact hr
  · rename_i g _
    exact poolLaw_updatePool (f := Pool.cancelled g.extents.length) _ (fun _ h => lawful_cancelled _ h)
      ((poolLaw_freeGrant n).mpr hr)

theorem poolLaw_formUnmap (held cancelled : List Nat) (hs : poolLaw s) : poolLaw (formUnmap v held cancelled o s) := by
  have hp : poolLaw (({ s with promises := s.promises + 1 }, []) : State × List Extent).1 := hs
  unfold formUnmap
  dsimp only
  rw [poolLaw_formIntent]
  exact cancelled.foldlRecOn (motive := fun r => poolLaw r.1) _ hp (fun r hr n _ => poolLaw_cancelInto n r hr)

theorem poolLaw_validateUnmap (first count : Nat) (hs : poolLaw s) :
    poolLaw (validateUnmap v first count o reads s) := by
  unfold validateUnmap
  refine poolLaw_ite (by simpa) (poolLaw_ite (by simpa) (poolLaw_ite (by simpa) ?_))
  split
  · rename_i hr
    simpa using poolLaw_of_readCells hr hs
  · rename_i hr
    have hb := poolLaw_of_readCells hr hs
    split
    · simpa
    · exact poolLaw_ite (by simpa) (poolLaw_ite (by simpa) (poolLaw_formUnmap _ _ _ _ hb))

theorem poolLaw_validateAddSpan (n : SpanId) (pool : PoolId) (length : Nat) (hs : poolLaw s) :
    poolLaw (validateAddSpan n pool length o s) := by
  unfold validateAddSpan
  exact poolLaw_ite (by simpa) (poolLaw_ite (by simpa) (by simpa))

theorem poolLaw_validateDrainSpan (n : SpanId) (on : Bool) (hs : poolLaw s) : poolLaw (validateDrainSpan n on o s) := by
  unfold validateDrainSpan
  exact poolLaw_ite (by simpa) (poolLaw_ite (by simpa) (by simpa))

theorem poolLaw_validateRemoveSpan (n : SpanId) (hs : poolLaw s) : poolLaw (validateRemoveSpan n o s) := by
  unfold validateRemoveSpan
  exact poolLaw_ite (by simpa) (by simpa)

theorem poolLaw_validateRequest (r : Request) (hs : poolLaw s) : poolLaw (validateRequest r o reads s) := by
  cases r with
  | createVolume v t pool size mode => exact poolLaw_validateCreate v o t pool size mode hs
  | deleteVolume v => exact poolLaw_validateDelete v o hs
  | resizeVolume v size => exact poolLaw_validateResize v o reads size hs
  | setVolumeMode v mode => exact poolLaw_validateMode v o mode hs
  | noteWritten v i written => exact poolLaw_validateNote v o reads i written hs
  | unmap v first count => exact poolLaw_validateUnmap v o reads first count hs
  | addSpan n pool length => exact poolLaw_validateAddSpan o n pool length hs
  | drainSpan n on => exact poolLaw_validateDrainSpan o n on hs
  | removeSpan n => exact poolLaw_validateRemoveSpan o n hs
  | bind v n advance written => exact (poolLaw_formIntent _ _).mpr hs
  | completeRelocate v n forming => exact (poolLaw_formIntent _ _).mpr hs
  | setTenant t q => exact (poolLaw_formIntent _ _).mpr hs
  | setPool p settings => exact (poolLaw_formIntent _ _).mpr hs
  | configure t => exact (poolLaw_formIntent _ _).mpr hs

end

theorem poolLaw_validateFront (q : QueueId) (reads : Reads) (hs : poolLaw s) : poolLaw (validateFront q reads s) := by
  unfold validateFront
  dsimp only
  split
  · exact poolLaw_validateRequest _ _ _ ((poolLaw_setQueue _ _).mpr hs)
  · exact hs
  · exact hs

/-! ## Steps that are due (log 4) -/

theorem poolLaw_takeSlot : poolLaw (takeSlot s) ↔ poolLaw s :=
  poolLaw_congr (congrArg State.pools (takeSlot_touches s) :)

theorem poolLaw_startApply (hs : poolLaw s) : poolLaw (startApply s) := by
  unfold startApply
  split
  · exact hs
  · exact poolLaw_ite hs hs

theorem poolLaw_takeDue (d : Due) (hs : poolLaw s) : poolLaw (takeDue d s) := by
  cases d with
  | slot => exact poolLaw_takeSlot.mpr hs
  | removal => exact poolLaw_formDeletion [] hs
  | ending => exact poolLaw_formDeletion [] hs
  | front q => exact poolLaw_validateFront q [] hs
  | apply => exact poolLaw_startApply hs

theorem poolLaw_takeDues (stop : Due → Bool) (n : Nat) (hs : poolLaw s) : poolLaw (takeDues stop n s) := by
  induction n generalizing s with
  | zero => exact hs
  | succ n ih =>
    unfold takeDues
    split
    · exact hs
    · exact poolLaw_ite hs (ih (poolLaw_takeDue _ hs))

theorem poolLaw_finishDue (hs : poolLaw s) : poolLaw (finishDue s) := poolLaw_takeDues _ _ hs

theorem poolLaw_finishUntil (d : Due) (hs : poolLaw s) : poolLaw (finishUntil d s) := poolLaw_takeDues _ _ hs

/-! ## Effects (Table 8-4) -/

/-- Extents that pass between reserved, used and grace keep the law. -/
theorem lawful_passed (reserved used grace : Int) (hsum : reserved + used + grace = 0) {r : Pool} (hr : r.lawful) :
    { r with reserved := r.reserved + reserved, used := r.used + used, grace := r.grace + grace }.lawful := by
  obtain ⟨hb, hl⟩ := hr
  refine ⟨?_, hl⟩
  unfold Pool.balanced at *
  dsimp only
  omega

section
variable (kind : IntentKind) (v i : Nat)

theorem poolLaw_applyEntry (x : Extent) (m : Mask) (hs : poolLaw s) : poolLaw (applyEntry kind v i x m s) := by
  have h (t : State) (p : PoolId) (ht : poolLaw t) :
      poolLaw (t.updatePool p (fun r => { r with reserved := r.reserved - 1, used := r.used + 1 })) :=
    poolLaw_updatePool p (fun r hr => by simpa [sub_eq_add_neg] using lawful_passed (-1) 1 0 rfl hr) ht
  unfold applyEntry
  simp only [poolLaw_setLatch]
  refine poolLaw_ite ?_ ((poolLaw_raiseMapped v).mpr ?_)
  all_goals exact (poolLaw_lowerPending v 1).mpr (h _ _ ((poolLaw_leaveGrant _ i).mpr hs))

theorem poolLaw_applyPlacement (x : Extent) (hs : poolLaw s) : poolLaw (applyPlacement kind v i x s).1 := by
  unfold applyPlacement
  split
  · exact hs
  · simp only [poolLaw_setLatch]
    exact poolLaw_updatePool _ (fun r hr => by simpa [sub_eq_add_neg] using lawful_passed (-1) 0 1 rfl hr)
      ((poolLaw_leaveGrant _ i).mpr hs)

theorem poolLaw_applyMask (m : Mask) (hs : poolLaw s) : poolLaw (applyMask v i m s) := by
  unfold applyMask
  split
  · exact hs
  · exact poolLaw_ite hs ((poolLaw_setLatch v true).mpr hs)

theorem poolLaw_applyRemove (hs : poolLaw s) : poolLaw (applyRemove v i s).1 := by
  unfold applyRemove
  split
  · exact (poolLaw_setLatch v true).mpr hs
  · simp only [poolLaw_setLatch, poolLaw_lowerMapped]
    exact poolLaw_updatePool (s := s.removeEntry v i) _
      (fun r hr => by simpa [sub_eq_add_neg] using lawful_passed 0 (-1) 1 rfl hr) hs

end

theorem poolLaw_applyMode (v : Nat) (st : VolState) (t : Nat) (p : PoolId) (size : Nat) (hs : poolLaw s) :
    poolLaw (applyMode v st t p size s) := by
  unfold applyMode
  exact poolLaw_ite (poolLaw_dropGrants none _ ((poolLaw_setVolume v _).mpr hs)) ((poolLaw_setVolume v _).mpr hs)

/-- The counts of a pool as a span joins it, leaves it or is turned. -/
def Pool.reshaped (len allocatable : Int) (r : Pool) : Pool :=
  { r with capacity := r.capacity + len, free := r.free + len, allocatable := r.allocatable + allocatable }

theorem balanced_reshaped (len a : Int) (r : Pool) (hr : r.balanced) : (r.reshaped len a).balanced := by
  unfold Pool.balanced Pool.reshaped at *
  dsimp only
  omega

theorem poolLaw_applySpan (n : SpanId) (st : SpanState) (p : PoolId) (len : Nat) (hs : poolLaw s) :
    poolLaw (applySpan n st p len s) := by
  unfold applySpan
  dsimp only
  split
  · exact poolLaw_judgeLevel (poolLawBut_of_pools (s := s) (f := Pool.reshaped len len) rfl (balanced_reshaped _ _) hs)
  · refine poolLaw_judgeLevel (poolLawBut_of_pools (s := s)
      (f := fun r => { r with allocatable := r.allocatable - (s.spans.get n).freeCount }) rfl (fun r hr => hr) hs)
  · refine poolLaw_judgeLevel (poolLawBut_of_pools (s := s)
      (f := fun r => { r with allocatable := r.allocatable + (s.spans.get n).freeCount }) rfl (fun r hr => hr) hs)
  · refine poolLaw_updatePool (s := s.updateSpan n (fun _ => .absent)) p (fun r hr => ⟨?_, hr.2⟩) hs
    simpa [Pool.reshaped, sub_eq_add_neg] using balanced_reshaped (-len) 0 r hr.1
  all_goals exact hs

theorem poolLaw_applyEffect (kind : IntentKind) (e : Effect) (hs : poolLaw s) : poolLaw (applyEffect kind e s).1 := by
  cases e with
  | setEntry v i x m => exact poolLaw_applyEntry kind v i x m hs
  | setPlacement v i x => exact poolLaw_applyPlacement kind v i x hs
  | setMask v i m => exact poolLaw_applyMask v i m hs
  | removeEntry v i => exact poolLaw_applyRemove v i hs
  | setVolume v st t p size =>
    cases kind with
    | volumeCreate => exact (poolLaw_congr (applyCreate_keeps State.pools v st t p size s)).mpr hs
    | volumeMode mode => exact poolLaw_applyMode v st t p size hs
    | deleteEnd => exact (poolLaw_congr (applyEnd_keeps State.pools v s)).mpr hs
    | _ => exact hs
  | setTenant t q => exact hs
  | setSpan n st p len => exact poolLaw_applySpan n st p len hs
  | setPool p settings =>
    exact poolLaw_judgeLevel (poolLawBut_of_pools (s := s) (f := fun r => { r with settings := settings }) rfl
      (fun r hr => hr) hs)
  | setConfig t => exact hs

/-! ## Actions at DONE (Table 8-5) -/

theorem poolLaw_doneMark (v : Nat) (hs : poolLaw s) : poolLaw (doneMark v s) := by
  unfold doneMark
  simp only [poolLaw_continueDeletion, poolLaw_reportVolume]
  have hw (l : List Waiter) (t : State) (ht : poolLaw t) :
      poolLaw (l.foldl (fun s w => refuse ⟨w.port, w.tag⟩ .claim .noVolume s) t) :=
    poolLaw_foldl (fun _ _ hb => (poolLaw_refuse _ _ _).mpr hb) l ht
  have hd := poolLaw_dropGrants none (s.stagedGrants (fun g => decide (g.volume = v))) hs
  split
  · exact (poolLaw_addNotice _ _).mpr (hw _ _ ((poolLaw_setLease v _).mpr hd))
  · exact hw _ _ ((poolLaw_setLease v _).mpr hd)

theorem poolLaw_doneBatch (v : Nat) (f : Option Forming) (hs : poolLaw s) : poolLaw (doneBatch v f s) := by
  unfold doneBatch
  simp only [poolLaw_continueDeletion]
  cases f with
  | none => exact hs
  | some f => exact poolLaw_formPromised f none v hs

theorem poolLaw_doneEnd (v : Nat) (hs : poolLaw s) : poolLaw (doneEnd v s) := by
  unfold doneEnd
  dsimp only
  split <;> simpa

theorem poolLaw_doneTrim (v removed cancelled : Nat) (i : Intent) (hs : poolLaw s) :
    poolLaw (doneTrim v removed cancelled i s) := by
  unfold doneTrim
  simp only [poolLaw_answer?]
  split
  · exact poolLaw_formPromised _ _ _ hs
  · exact hs

theorem poolLaw_followOnOf (o : Option Origin) (advance : Bool) (g : Grant) (reads : Reads) (hs : poolLaw s) :
    poolLaw (followOnOf o advance g reads s).1 := by
  unfold followOnOf
  split
  · exact hs
  · split
    · exact poolLaw_followOn _ g reads hs
    · exact hs

theorem poolLaw_doneBind (n : Nat) (advance : Bool) (i : Intent) (reads : Reads) (hs : poolLaw s) :
    poolLaw (doneBind n advance i reads s) := by
  unfold doneBind
  split
  · exact hs
  · simp only [poolLaw_answer?]
    exact poolLaw_followOnOf _ _ _ _ ((poolLaw_freeGrant n).mpr hs)

theorem poolLaw_doneMove (v n : Nat) (i : Intent) (hs : poolLaw s) : poolLaw (doneMove v n i s) := by
  unfold doneMove
  split
  · rename_i f _ _
    have hf := poolLaw_formPromised f i.requester v ((poolLaw_freeGrant n).mpr hs)
    dsimp only
    split
    · simpa
    · exact hf
  · exact hs
  · exact hs

theorem poolLaw_doneActions (i : Intent) (reads : Reads) (hs : poolLaw s) : poolLaw (doneActions i reads s) := by
  obtain ⟨kind, queue, o, requester, effects, forming⟩ := i
  have he (q : QueueId) : poolLaw (endFlight q s) := (poolLaw_endFlight q).mpr hs
  have ha (t : State) (code : Byte) (outcome : AnswerOutcome) (body : AnswerBody) (ht : poolLaw t) :
      poolLaw (answer? o code outcome body t) := (poolLaw_answer? code outcome body o).mpr ht
  cases kind with
  | volumeCreate => exact ha _ _ _ _ (he queue)
  | volumeResize before after => exact ha _ _ _ _ (he queue)
  | volumeMode mode => exact ha _ _ _ _ (he queue)
  | tenant t => exact ha _ _ _ _ (he queue)
  | pool p => exact ha _ _ _ _ (he queue)
  | config t => exact ha { endFlight queue s with timing := t } _ _ _ (he queue)
  | span request n p => cases request <;> exact ha _ _ _ _ (he queue)
  | bind n advance => exact poolLaw_doneBind _ _ _ _ (he queue)
  | deleteMark =>
    cases queue with
    | volume v => exact poolLaw_doneMark v hs
    | shelf => exact he .shelf
  | deleteBatch =>
    cases queue with
    | volume v => exact poolLaw_doneBatch v forming hs
    | shelf => exact he .shelf
  | deleteEnd =>
    cases queue with
    | volume v => exact poolLaw_doneEnd v hs
    | shelf => exact he .shelf
  | note i =>
    cases queue with
    | volume v => exact ha _ _ _ _ (he _)
    | shelf => exact he .shelf
  | trim cancelled =>
    cases queue with
    | volume v => exact poolLaw_doneTrim _ _ _ _ (he _)
    | shelf => exact he .shelf
  | move n =>
    cases queue with
    | volume v => exact poolLaw_doneMove _ _ _ (he _)
    | shelf => exact he .shelf

end Sys2Proof.Machine
end

section
/-! PROOFS. The law of the pools under recovery: the reads of replay move no count, and the sweep of the maps keeps, span by
span, what the pools' counts are then taken from (R44, R153 to R157). -/

namespace Sys2Proof.Machine

open State

variable {s : State} {x : Vector Span 16 × Vector Pool 8}

/-! ## What the reads of recovery leave as it was -/

/-- The part is RECOVERING, with these spans and pools. -/
def recoveringWith (x : Vector Span 16 × Vector Pool 8) (s : State) : Prop :=
  s.mode = .recovering ∧ (s.spans, s.pools) = x

theorem recoveringWith_self (hm : s.mode = .recovering) : recoveringWith (s.spans, s.pools) s := ⟨hm, rfl⟩

/-- While RECOVERING a store fault freezes nothing (R161). -/
theorem recoveringWith_storeFault (src : FaultSource) (kind : FaultKind) (area : StoreArea) (hs : recoveringWith x s) :
    recoveringWith x (storeFault src kind area s) := by
  unfold storeFault
  dsimp only
  split
  · exact hs
  · split
    · rename_i hm
      exact absurd (hs.1.symm.trans hm) (by decide)
    · exact hs
    · exact hs

theorem recoveringWith_correctedRead (a : StoreArea) (hs : recoveringWith x s) : recoveringWith x (correctedRead a s) :=
  recoveringWith_storeFault (areaSource a) .corrected a hs

theorem recoveringWith_poisonedRead (v i : Nat) (hs : recoveringWith x s) : recoveringWith x (poisonedRead v i s) :=
  recoveringWith_storeFault (s := { s with poison := insertPair v i s.poison }) _ _ _ hs

theorem recoveringWith_areaFault (a : StoreArea) (f : ReadFault) (hs : recoveringWith x s) :
    recoveringWith x (areaFault a f s) := by
  cases f with
  | corrected => exact recoveringWith_correctedRead a hs
  | uncorrectable => exact recoveringWith_storeFault _ _ _ hs

theorem recoveringWith_areaFaults {α : Type} (a : α → StoreArea) (f : α → ReadFault) (l : List α)
    (hs : recoveringWith x s) : recoveringWith x (l.foldl (fun s e => areaFault (a e) (f e) s) s) :=
  l.foldlRecOn _ hs (fun _ hb _ _ => recoveringWith_areaFault _ _ hb)

theorem recoveringWith_slotFaults (reads : Reads) (hs : recoveringWith x s) : recoveringWith x (slotFaults reads s) :=
  recoveringWith_areaFaults (fun e : Nat × StoreArea × ReadFault => e.2.1) (fun e => e.2.2) _ hs

theorem recoveringWith_readLog (reads : Reads) (hs : recoveringWith x s) : recoveringWith x (readLog reads s) := by
  have hk (t : State) (ht : recoveringWith x t) : recoveringWith x (readLog.keep reads t) := by
    have hf := recoveringWith_slotFaults reads ht
    unfold readLog.keep
    dsimp only
    split
    · exact hf
    · exact hf
  unfold readLog
  split
  · exact recoveringWith_slotFaults reads (recoveringWith_areaFault _ _ hs)
  · exact hk _ (recoveringWith_areaFault _ _ hs)
  · exact hk _ hs

theorem recoveringWith_logged (reads : Reads) (hs : recoveringWith x s) : recoveringWith x (logged reads s) := by
  unfold logged
  split
  · exact recoveringWith_readLog reads hs
  · exact hs

/-! ## Replay (R154, R157) -/

theorem recoveringWith_replayRead (reads : Reads) (e : Effect) (hs : recoveringWith x s) :
    recoveringWith x (replayRead reads e s).1 := by
  unfold replayRead
  split
  · exact hs
  · split
    · exact hs
    · exact recoveringWith_correctedRead _ hs
    · exact recoveringWith_poisonedRead _ _ hs

theorem recoveringWith_replayEffects (reads : Reads) (l : List Effect) (lost : Bool) (hs : recoveringWith x s) :
    recoveringWith x (replayEffects reads l (s, lost)).1 := by
  induction l generalizing s lost with
  | nil => exact hs
  | cons e l ih =>
    have hr := recoveringWith_replayRead reads e hs
    unfold replayEffects
    split
    · rename_i t h
      rw [h] at hr
      exact ih (s := { t with store := t.store.write e }) lost hr
    · rename_i h
      rw [h] at hr
      exact ih true hr

theorem recoveringWith_replayItem (reads : Reads) (i : ReplayItem) (hs : recoveringWith x s) :
    recoveringWith x (replayItem reads i s) := by
  unfold replayItem
  split
  · rename_i image _ _
    have hr := recoveringWith_replayEffects reads image.effects false hs
    dsimp only
    split_ifs
    · exact hr
    · exact hr
    · exact hr
  · exact hs
  · exact hs

theorem recoveringWith_replayAll (reads : Reads) (l : List ReplayItem) (hs : recoveringWith x s) :
    recoveringWith x (replayAll reads l s) :=
  l.foldlRecOn _ hs (fun _ hb i _ => recoveringWith_replayItem reads i hb)

theorem recoveringWith_endReplay (hs : recoveringWith x s) : recoveringWith x (endReplay s) := by
  rw [endReplay_touches]
  exact hs

theorem recoveringWith_replayRest (hs : recoveringWith x s) : recoveringWith x (replayRest s) := by
  unfold replayRest
  split
  · exact hs
  · exact recoveringWith_replayAll [] _ hs

theorem inReplay_recovering (h : inReplay s = true) : s.mode = .recovering := by
  unfold inReplay at h
  exact of_decide_eq_true (Bool.and_eq_true_iff.mp h).1

theorem poolLaw_of_recoveringWith {u : State} (h : recoveringWith (s.spans, s.pools) u) (hs : poolLaw s) : poolLaw u :=
  (poolLaw_congr (congrArg Prod.snd h.2 :)).mpr hs

theorem poolLaw_replayStep (reads : Reads) (hs : poolLaw s) : poolLaw (replayStep reads s) := by
  unfold replayStep
  split
  · rename_i h
    refine poolLaw_of_recoveringWith (recoveringWith_endReplay ?_) hs
    have hl := recoveringWith_logged reads (recoveringWith_self (inReplay_recovering h))
    split
    · exact recoveringWith_replayAll reads _ hl
    · exact hl
  · exact hs

/-! ## The sweep of the maps (R44, R155) -/

namespace FreeSet

theorem count_remove_le (i : Nat) (f : FreeSet) : count (remove i f) ≤ count f := by
  induction f with
  | nil => exact le_refl _
  | cons r t ih =>
    obtain ⟨lo, hi⟩ := r
    unfold remove
    split_ifs <;> simp only [List.nil_append, List.cons_append, count] <;> omega

/-- The removal of a member lowers the count. -/
theorem count_remove_lt {i : Nat} {f : FreeSet} (h : mem i f = true) : count (remove i f) < count f := by
  induction f with
  | nil => exact absurd h Bool.false_ne_true
  | cons r t ih =>
    obtain ⟨lo, hi⟩ := r
    have hle := count_remove_le i t
    unfold remove
    rcases (mem_cons i lo hi t).mp h with hr | ht
    · rw [if_pos hr]
      split_ifs <;> simp only [List.nil_append, List.cons_append, count] <;> omega
    · have := ih ht
      split_ifs <;> simp only [List.nil_append, List.cons_append, count] <;> omega

theorem count_full (n : Nat) : count (full n) = n := by
  unfold full
  split
  · subst_vars; rfl
  · simp only [count]; omega

end FreeSet

/-- The extents of a span that count for a pool and are not free. -/
def Span.spent (k : PoolId) (sp : Span) : Int :=
  if sp.state ≠ .absent ∧ sp.pool = k then (sp.length : Int) - sp.freeCount else 0

/-- The extents of all spans that count for a pool and are not free. -/
def spentOf (k : PoolId) (spans : Vector Span 16) : Int := ∑ n, (spans.get n).spent k

/-- The used count of every pool is what its spans have spent so far, nothing is reserved or in grace, and a free count
covers its free set. -/
def sweeping (s : State) : Prop :=
  s.mode = .recovering ∧ (∀ n, FreeSet.count (s.spans.get n).free ≤ (s.spans.get n).freeCount) ∧
  ∀ k, (s.pools.get k).used = spentOf k s.spans ∧ (s.pools.get k).reserved = 0 ∧ (s.pools.get k).grace = 0

theorem sweeping_of_recoveringWith {u : State} (h : recoveringWith (s.spans, s.pools) u) (hs : sweeping s) :
    sweeping u := by
  obtain ⟨hm, hx⟩ := h
  obtain ⟨hspans, hpools⟩ := Prod.mk.inj hx
  unfold sweeping
  rw [hspans, hpools]
  exact ⟨hm, hs.2⟩

/-- One span changes: the sum changes by what that span's share does. -/
theorem spentOf_putAt (k : PoolId) (spans : Vector Span 16) (n : SpanId) (sp : Span) :
    spentOf k (putAt spans n sp) = spentOf k spans + (sp.spent k - (spans.get n).spent k) := by
  have hterm (j : SpanId) : ((putAt spans n sp).get j).spent k =
      (spans.get j).spent k + if n = j then sp.spent k - (spans.get n).spent k else 0 := by
    rw [putAt_get]
    split
    · subst_vars; omega
    · omega
  unfold spentOf
  simp only [hterm, Finset.sum_add_distrib, Finset.sum_ite_eq, Finset.mem_univ, if_true]

/-- A span as the sweep counts one of its extents. -/
def Span.counted (i : Nat) (sp : Span) : Span :=
  { sp with free := FreeSet.remove i sp.free, freeCount := sp.freeCount - 1 }

theorem countEntry_spans (v i : Nat) (e : Entry) (s : State) : (countEntry v i e s).spans =
    putAt s.spans e.placement.span ((s.spans.get e.placement.span).counted e.placement.index) := rfl

theorem countEntry_pools (v i : Nat) (e : Entry) (s : State) {k : PoolId}
    (hk : (s.spans.get e.placement.span).pool = k) : (countEntry v i e s).pools =
    putAt s.pools k { s.pools.get k with used := (s.pools.get k).used + 1 } := by
  have hspan := putAt_get_self s.spans e.placement.span ((s.spans.get e.placement.span).counted e.placement.index)
  have hk' := (congrArg Span.pool hspan).trans hk
  exact congrArg (fun j => putAt s.pools j { s.pools.get j with used := (s.pools.get j).used + 1 }) hk'

theorem countEntry_mode (v i : Nat) (e : Entry) (s : State) : (countEntry v i e s).mode = s.mode := by
  unfold countEntry
  dsimp only
  exact raiseMapped_keeps State.mode v _

/-- The counted extent is spent, for the pool of its span. -/
theorem spent_counted {sp : Span} (i : Nat) (k : PoolId) (ha : sp.state ≠ .absent) (hf : 0 < sp.freeCount) :
    (sp.counted i).spent k - sp.spent k = if sp.pool = k then 1 else 0 := by
  unfold Span.spent Span.counted
  by_cases hk : sp.pool = k
  · simp only [ne_eq, ha, not_false_eq_true, hk, and_self, if_true]
    omega
  · simp [hk]

theorem sweeping_countEntry (v i : Nat) {e : Entry} (hr : refusesPlacement s e.placement = false) (hs : sweeping s) :
    sweeping (countEntry v i e s) := by
  obtain ⟨hm, hcount, hpool⟩ := hs
  obtain ⟨habsent, -, hmem⟩ : (s.spans.get e.placement.span).state ≠ .absent ∧
      e.placement.index < (s.spans.get e.placement.span).length ∧
      FreeSet.mem e.placement.index (s.spans.get e.placement.span).free = true := by
    simpa [refusesPlacement, and_assoc] using hr
  have hlt := FreeSet.count_remove_lt hmem
  have hfree := hcount e.placement.span
  refine ⟨(countEntry_mode v i e s).trans hm, fun j => ?_, fun k => ?_⟩
  · rw [countEntry_spans, putAt_get]
    split
    · exact Nat.le_sub_one_of_lt (lt_of_lt_of_le hlt hfree)
    · exact hcount j
  · obtain ⟨hused, hres, hgrace⟩ := hpool k
    rw [countEntry_spans, countEntry_pools v i e s rfl, spentOf_putAt, spent_counted _ k habsent (by omega), putAt_get]
    split
    · subst_vars
      exact ⟨congrArg (· + 1) hused, hres, hgrace⟩
    · exact ⟨by rw [add_zero]; exact hused, hres, hgrace⟩

theorem sweeping_sweepCell (v i : Nat) (cell : Option Entry) (f : Option ReadFault) (hs : sweeping s) :
    sweeping (sweepCell v i cell f s) := by
  have hself := recoveringWith_self hs.1
  have htake (t : State) (ht : sweeping t) : sweeping (sweepCell.take v i cell t) := by
    unfold sweepCell.take
    split
    · exact ht
    · split
      · exact sweeping_of_recoveringWith (recoveringWith_poisonedRead v i (recoveringWith_self ht.1)) ht
      · rename_i hr
        exact sweeping_countEntry v i (Bool.eq_false_iff.mpr hr) ht
  unfold sweepCell
  split
  · exact sweeping_of_recoveringWith (recoveringWith_poisonedRead v i hself) hs
  · exact htake _ (sweeping_of_recoveringWith (recoveringWith_correctedRead _ hself) hs)
  · exact htake s hs

theorem sweeping_sweepMaps (view : MapStore) (reads : Reads) (hs : sweeping s) : sweeping (sweepMaps view reads s) :=
  List.foldlRecOn _ _ hs (fun _ hb _ _ =>
    List.foldlRecOn _ _ hb (fun _ hc _ _ => sweeping_sweepCell _ _ _ _ hc))

/-- A span as the sweep starts it has every extent free. -/
theorem spanOfStore_free (r : StoreSpan) : (spanOfStore r).freeCount = FreeSet.count (spanOfStore r).free ∧
    (spanOfStore r).freeCount = (spanOfStore r).length := by
  unfold spanOfStore
  split
  · exact ⟨rfl, rfl⟩
  · exact ⟨(FreeSet.count_full _).symm, rfl⟩
  · exact ⟨(FreeSet.count_full _).symm, rfl⟩

theorem loadTables_spans (view : MapStore) (s : State) : (loadTables view s).spans = mapAt spanOfStore view.spans := rfl

theorem loadTables_pools (view : MapStore) (s : State) :
    (loadTables view s).pools = mapAt (fun settings => { Pool.empty with settings := settings }) view.pools := rfl

theorem sweeping_loadTables (view : MapStore) (hm : s.mode = .recovering) : sweeping (loadTables view s) := by
  have hspans (n : SpanId) : (loadTables view s).spans.get n = spanOfStore (view.spans.get n) := by
    rw [loadTables_spans, mapAt_get]
  have hpools (k : PoolId) : (loadTables view s).pools.get k = { Pool.empty with settings := view.pools.get k } := by
    rw [loadTables_pools, mapAt_get]
  have hspent (k : PoolId) : spentOf k (loadTables view s).spans = 0 := by
    refine Finset.sum_eq_zero (fun n _ => ?_)
    rw [hspans, Span.spent, (spanOfStore_free _).2, sub_self, ite_self]
  refine ⟨hm, fun n => ?_, fun k => ?_⟩
  · rw [hspans, (spanOfStore_free _).1]
  · rw [hspent, hpools]
    exact ⟨rfl, rfl, rfl⟩

/-! ## The counts taken from the spans (R35, R44 step 6) -/

/-- The sum of one quantity over the spans that meet `f`, less that of another. -/
theorem sum_filter_sub (f : SpanId → Bool) (a b : SpanId → Nat) (l : List SpanId) :
    (((l.filter f).map a).sum : Int) - (((l.filter f).map b).sum : Nat) =
      (l.map (fun n => if f n = true then (a n : Int) - b n else 0)).sum := by
  induction l with
  | nil => rfl
  | cons n l ih =>
    simp only [List.filter_cons, List.map_cons, List.sum_cons]
    split
    · simp only [List.map_cons, List.sum_cons]
      omega
    · omega

theorem spentOf_eq_sum (k : PoolId) (spans : Vector Span 16) :
    spentOf k spans = (allSpans.map (fun n => (spans.get n).spent k)).sum := Fin.sum_univ_def _

/-- What the spans of a pool have spent is its capacity less its free count. -/
theorem poolFromSpans_spent (spans : Vector Span 16) (k : PoolId) (r : Pool) :
    (poolFromSpans spans k r).capacity - (poolFromSpans spans k r).free = spentOf k spans := by
  have hsum := sum_filter_sub (fun n => decide ((spans.get n).state ≠ .absent ∧ (spans.get n).pool = k))
    (fun n => (spans.get n).length) (fun n => (spans.get n).freeCount) allSpans
  rw [spentOf_eq_sum]
  simp only [decide_eq_true_eq] at hsum
  exact hsum

theorem balanced_poolFromSpans {spans : Vector Span 16} {k : PoolId} {r : Pool} (hu : r.used = spentOf k spans)
    (hr : r.reserved = 0) (hg : r.grace = 0) : (poolFromSpans spans k r).balanced := by
  have hspent := poolFromSpans_spent spans k r
  show (poolFromSpans spans k r).capacity = (poolFromSpans spans k r).free + r.reserved + r.used + r.grace
  omega

theorem poolLaw_countPools (hs : sweeping s) : poolLaw (countPools s) := fun k => by
  obtain ⟨hused, hres, hgrace⟩ := hs.2.2 k
  have hk : (countPools s).pools.get k = poolFromSpans s.spans k (s.pools.get k) := by simp [countPools]
  rw [hk]
  exact ⟨balanced_poolFromSpans hused hres hgrace, rfl⟩

theorem poolLaw_sweepTables (reads : Reads) (hm : s.mode = .recovering) : poolLaw (sweepTables reads s) := by
  have hf := recoveringWith_areaFaults (fun e : StoreArea × ReadFault => e.1) (fun e => e.2) (tableReports reads)
    (recoveringWith_self hm)
  have hp := poolLaw_countPools (sweeping_sweepMaps (tableView reads s.store) reads
    (sweeping_loadTables (tableView reads s.store) hf.1))
  unfold sweepTables
  exact hp

theorem poolLaw_sweepStep (reads : Reads) (hs : poolLaw s) : poolLaw (sweepStep reads s) := by
  unfold sweepStep
  split
  · rename_i h
    have hl := recoveringWith_logged reads (recoveringWith_self (inReplay_recovering h))
    exact poolLaw_sweepTables reads (recoveringWith_endReplay (recoveringWith_replayRest hl)).1
  · exact hs

/-! ## The start and the end of recovery (R153, R156) -/

theorem poolLaw_cold (store : MapStore) : poolLaw (State.cold store) := fun k => by
  have hk : (State.cold store).pools.get k = .empty := replicate_get _ k
  rw [hk]
  exact lawful_empty _

theorem poolLaw_restart (cause : ResetCause) (boot : Option ReadFault) : poolLaw (restart cause boot s) := by
  have hc := poolLaw_cold { s.store with bootCount := bootRead boot s.store + 1 }
  unfold restart bootFault
  dsimp only
  split
  · exact poolLaw_storeFault _ _ _ hc
  · exact poolLaw_correctedRead _ hc
  · exact hc

theorem poolLaw_finishRecovery (hs : poolLaw s) : poolLaw (finishRecovery s) := by
  cases hf : s.recovery.firstFault with
  | none =>
    rw [finishRecovery_serving hf]
    exact (poolLaw_congr (resumeAll_keeps State.pools _ _)).mpr hs
  | some c =>
    rw [finishRecovery_frozen hf]
    exact hs

theorem poolLaw_endStep (hs : poolLaw s) : poolLaw (endStep s) :=
  poolLaw_ite (poolLaw_finishRecovery (poolLaw_sweepStep [] hs)) hs

/-! ## Failed writes (R157) -/

theorem poolLaw_failReplayEffect (n : Nat) (reads : Reads) (hs : poolLaw s) : poolLaw (failReplayEffect n reads s) := by
  unfold failReplayEffect
  dsimp only
  split
  · rename_i h
    have hl := recoveringWith_logged reads (recoveringWith_self (inReplay_recovering (Bool.and_eq_true_iff.mp h).1))
    split
    · rename_i image _ _
      split
      · rename_i e _
        have hr := recoveringWith_replayRead reads e (recoveringWith_replayEffects reads (image.effects.take n) false hl)
        split
        · rename_i hb
          rw [hb] at hr
          exact poolLaw_storeFault _ _ _ (poolLaw_of_recoveringWith hr hs)
        · exact hs
      · exact hs
    · exact hs
  · exact hs

theorem poolLaw_failReplayRetirement (reads : Reads) (hs : poolLaw s) : poolLaw (failReplayRetirement reads s) := by
  unfold failReplayRetirement
  dsimp only
  split
  · rename_i h
    have hl := recoveringWith_logged reads (recoveringWith_self (inReplay_recovering (Bool.and_eq_true_iff.mp h).1))
    split
    · rename_i image _
      have hr := recoveringWith_replayEffects reads image.effects false hl
      split
      · rename_i hb
        rw [hb] at hr
        exact poolLaw_storeFault _ _ _ (poolLaw_of_recoveringWith hr hs)
      · exact hs
    · exact hs
    · exact hs
  · exact hs

end Sys2Proof.Machine
end

section
/-! PROOFS. The law of the pools under every command, and the judgement of a level with the notice that it sends (R35,
R37). -/

namespace Sys2Proof.Machine

open State

variable {s u : State}

/-! ## Arrival -/

section
variable {o : Origin} {kind : RequestKind} {k : State → State}

theorem poolLaw_onVolume (v : Nat) (hk : poolLaw (k s)) (hs : poolLaw s) : poolLaw (onVolume o kind v k s) := by
  unfold onVolume
  split
  · simpa
  · exact hk

theorem poolLaw_unlessFrozen (hk : poolLaw (k s)) (hs : poolLaw s) : poolLaw (unlessFrozen o kind k s) :=
  poolLaw_ite ((poolLaw_refuse o kind .frozen).mpr hs) hk

theorem poolLaw_receive (code : Byte) (hk : ∀ b, poolLaw b → poolLaw (k b)) (hs : poolLaw s) :
    poolLaw (receive o code k s) :=
  poolLaw_ite hs (poolLaw_ite hs (hk (setBusy o true s) hs))

theorem poolLaw_admitRequest (hk : ∀ b, poolLaw b → poolLaw (k b)) (hs : poolLaw s) :
    poolLaw (admitRequest o kind k s) :=
  poolLaw_ite (by simpa) (poolLaw_ite (by simpa) (hk s hs))

/-- A request whose own rule keeps the law keeps it. -/
theorem poolLaw_request {p : Port} {t : Tag} (h : request p t kind k s = .next u)
    (hk : ∀ b, poolLaw b → poolLaw (k b)) (hs : poolLaw s) : poolLaw u := by
  cases h
  exact poolLaw_receive _ (fun b hb => poolLaw_admitRequest hk hb) (poolLaw_finishDue hs)

/-- An event whose own effect keeps the law keeps it. -/
theorem poolLaw_event (h : event k s = .next u) (hk : ∀ b, poolLaw b → poolLaw (k b)) (hs : poolLaw s) : poolLaw u := by
  cases h
  exact hk _ (poolLaw_finishDue hs)

/-- A due step that keeps the law keeps it when it is a command of its own. -/
theorem poolLaw_stepDue {d : Due} (h : stepDue d k s = .next u)
    (hk : ∀ b, poolLaw b → poolLaw (k b)) (hs : poolLaw s) : poolLaw u := by
  cases h
  have hb := poolLaw_finishUntil d hs
  exact poolLaw_ite (hk _ hb) hb

end

/-! ## Requests -/

section
variable (o : Origin)

theorem poolLaw_judgeJoin (i : BitVec 32) (hs : poolLaw s) : poolLaw (judgeJoin o i s) := by
  unfold judgeJoin answerJoined
  split
  · simpa
  · exact poolLaw_ite (by simpa) (by simpa)
  · exact poolLaw_ite (by simpa) (by simpa using poolLaw_lapse o.port hs)

theorem poolLaw_judgeRenew (i : BitVec 32) (ack : Gen) (hs : poolLaw s) : poolLaw (judgeRenew o i ack s) := by
  unfold judgeRenew
  split
  · refine poolLaw_ite (by simpa) (poolLaw_ite (by simpa) ?_)
    simp only [poolLaw_answer]
    have hh (m : Head) : poolLaw (setHead o.port m s) := (poolLaw_setHead o.port m).mpr hs
    exact poolLaw_ite (poolLaw_releaseTest (hh _)) (hh _)
  · simpa
  · simpa

theorem poolLaw_leaveHead (p : Port) (hs : poolLaw s) : poolLaw (leaveHead p s) := by
  unfold leaveHead
  refine poolLaw_releaseTest ?_
  simp only [poolLaw_endWatches, poolLaw_endClaims, poolLaw_departAll, poolLaw_loseLeases]
  exact poolLaw_dropGrants none _ ((poolLaw_setHead p _).mpr hs)

theorem poolLaw_judgeConfigure (period : Byte) (l g d gr : Nat) (hs : poolLaw s) :
    poolLaw (judgeConfigure o period l g d gr s) := by
  unfold judgeConfigure
  refine poolLaw_ite (by simpa) ?_
  split
  · simpa
  · exact poolLaw_ite (by simpa) (by simpa)

theorem poolLaw_judgeClearFault (source : Byte) (hs : poolLaw s) : poolLaw (judgeClearFault o source s) := by
  unfold judgeClearFault
  split
  · simpa
  · exact (poolLaw_answer (s := { s with faults := _ }) _ _ _ _).mpr hs

theorem poolLaw_takeLease (v : Nat) (orphan : Bool) (hs : poolLaw s) : poolLaw (takeLease o v orphan s) := by
  unfold takeLease answerLeased
  simpa

theorem poolLaw_claimFlags (v : Nat) (wait demand : Byte) (hs : poolLaw s) : poolLaw (claimFlags o v wait demand s) := by
  have hjoin (h : Port) (d : Bool) : poolLaw (joinWaiters o v h d s) :=
    (poolLaw_addNotice _ _).mpr ((poolLaw_setLease v _).mpr hs)
  have hclaim (w d : Bool) : poolLaw (judgeClaim o v w d s) := by
    unfold judgeClaim
    dsimp only
    split
    · exact poolLaw_takeLease o v _ hs
    · exact poolLaw_ite (by simpa [answerLeased]) (poolLaw_ite (by simpa) (hjoin _ _))
  unfold claimFlags
  split
  · exact poolLaw_ite (by simpa) (hclaim _ _)
  · simpa
  · simpa

theorem poolLaw_judgeRelease (v : Nat) (hs : poolLaw s) : poolLaw (judgeRelease o v s) := by
  unfold judgeRelease answerReleased
  dsimp only
  refine poolLaw_ite ?_ ?_
  · simpa using poolLaw_dropGrants (some o.port) _ hs
  · split <;> simpa

theorem poolLaw_judgeCreate (v t : Nat) (pool : Byte) (size : Nat) (mode : Byte) (hs : poolLaw s) :
    poolLaw (judgeCreate o v t pool size mode s) := by
  unfold judgeCreate
  refine poolLaw_ite (by simpa) (poolLaw_ite (by simpa) ?_)
  split
  · exact poolLaw_ite (by simpa) (poolLaw_ite (by simpa) (poolLaw_unlessFrozen (by simpa) hs))
  · simpa
  · simpa

theorem poolLaw_judgeResize (v size : Nat) (hs : poolLaw s) : poolLaw (judgeResize o v size s) :=
  poolLaw_ite (by simpa) (poolLaw_unlessFrozen (by simpa) hs)

theorem poolLaw_judgeMode (v : Nat) (mode : Byte) (hs : poolLaw s) : poolLaw (judgeMode o v mode s) := by
  unfold judgeMode
  split
  · simpa
  · exact poolLaw_unlessFrozen (by simpa) hs

theorem poolLaw_judgeQueryVolume (v : Nat) (clear : Byte) (hs : poolLaw s) : poolLaw (judgeQueryVolume o v clear s) := by
  unfold judgeQueryVolume
  refine poolLaw_ite (by simpa) (poolLaw_ite (by simpa) ?_)
  split
  · simpa
  · exact poolLaw_ite (by simpa) (by simpa)

theorem poolLaw_judgeSetTenant (t : Nat) (quota : BitVec 32) (hs : poolLaw s) : poolLaw (judgeSetTenant o t quota s) :=
  poolLaw_ite (by simpa) (poolLaw_ite (by simpa) (poolLaw_unlessFrozen (by simpa) hs))

theorem poolLaw_judgeQueryTenant (t : Nat) (hs : poolLaw s) : poolLaw (judgeQueryTenant o t s) :=
  poolLaw_ite (by simpa) (by simpa)

theorem poolLaw_judgeResolve (v first count : Nat) (reads : Reads) (hs : poolLaw s) :
    poolLaw (judgeResolve o v first count reads s) :=
  poolLaw_ite (by simpa) (poolLaw_ite (by simpa) (by simpa using poolLaw_resolveCells v _ hs))

theorem poolLaw_noteNothing (v i : Nat) (reads : Reads) (hs : poolLaw s) : poolLaw (noteNothing o v i reads s) := by
  unfold noteNothing
  refine poolLaw_ite (by simpa) ?_
  split
  · rename_i hr
    simpa using poolLaw_of_readCells hr hs
  · rename_i hr
    have hb := poolLaw_of_readCells hr hs
    split <;> simpa

theorem poolLaw_judgeNoteWritten (v i : Nat) (written : Mask) (reads : Reads) (hs : poolLaw s) :
    poolLaw (judgeNoteWritten o v i written reads s) :=
  poolLaw_unlessFrozen (poolLaw_ite (poolLaw_noteNothing o v i reads hs) (by simpa)) hs

theorem poolLaw_judgeUnmap (v first count : Nat) (hs : poolLaw s) : poolLaw (judgeUnmap o v first count s) :=
  poolLaw_ite (by simpa) (by simpa)

theorem poolLaw_judgeReserve (v first count : Nat) (reads : Reads) (hs : poolLaw s) :
    poolLaw (judgeReserve o v first count reads s) := by
  unfold judgeReserve
  refine poolLaw_ite (by simpa) (poolLaw_ite (by simpa) (poolLaw_ite (by simpa) (poolLaw_ite (by simpa) ?_)))
  split
  · rename_i hr
    simpa using poolLaw_of_readCells hr hs
  · rename_i hr
    have hb := poolLaw_of_readCells hr hs
    split
    · simpa
    · exact (poolLaw_answer _ _ _ _).mpr (poolLaw_makeAllocation _ _ _ _ _ _ hb)

theorem poolLaw_bindForm (n : Nat) (serial check : BitVec 16) (advance : Byte) (written : List Mask) (hs : poolLaw s) :
    poolLaw (bindForm o n serial check advance written s) := by
  have hbind (a : Bool) : poolLaw (judgeBind o n serial check a written s) := by
    unfold judgeBind
    split
    · simpa
    · exact poolLaw_ite (by simpa) (poolLaw_ite (by simpa) (poolLaw_ite (by simpa) (poolLaw_ite (by simpa)
        (poolLaw_ite (by simpa) (by simpa)))))
  unfold bindForm
  split
  · simpa
  · exact poolLaw_ite (by simpa) (hbind _)

theorem poolLaw_judgeAbandon (n : Nat) (serial : BitVec 16) (hs : poolLaw s) : poolLaw (judgeAbandon o n serial s) := by
  unfold judgeAbandon
  refine poolLaw_ite (by simpa) ?_
  split
  · simpa
  · exact poolLaw_ite (by simpa) (poolLaw_ite (by simpa) (by simpa using poolLaw_dropGrant _ n hs))

theorem poolLaw_judgeRelocate (v i : Nat) (reads : Reads) (hs : poolLaw s) : poolLaw (judgeRelocate o v i reads s) := by
  unfold judgeRelocate
  refine poolLaw_ite (by simpa) (poolLaw_ite (by simpa) ?_)
  split
  · rename_i hr
    simpa using poolLaw_of_readCells hr hs
  · rename_i hr
    have hb := poolLaw_of_readCells hr hs
    split
    · simpa
    · refine poolLaw_ite (by simpa) (poolLaw_ite (by simpa) (poolLaw_ite (by simpa) ?_))
      split
      · simpa
      · split
        · exact poolLaw_makeRelocation _ _ _ _ _ _ hb
        · simpa
        · simpa

theorem poolLaw_judgeCompleteRelocate (n : Nat) (serial check : BitVec 16) (hs : poolLaw s) :
    poolLaw (judgeCompleteRelocate o n serial check s) := by
  unfold judgeCompleteRelocate
  refine poolLaw_ite (by simpa) ?_
  split
  · simpa
  · refine poolLaw_ite (by simpa) (poolLaw_ite (by simpa) (poolLaw_ite (by simpa) (poolLaw_ite (by simpa)
      (poolLaw_ite (by simpa) ?_))))
    rw [poolLaw_enqueue, poolLaw_setGrant]
    exact hs

theorem poolLaw_judgeAddSpan (span pool : Byte) (length : Nat) (hs : poolLaw s) :
    poolLaw (judgeAddSpan o span pool length s) := by
  unfold judgeAddSpan
  split
  · exact poolLaw_ite (by simpa) (poolLaw_unlessFrozen (by simpa) hs)
  · simpa
  · simpa

theorem poolLaw_judgeDrainSpan (span setting : Byte) (hs : poolLaw s) : poolLaw (judgeDrainSpan o span setting s) := by
  unfold judgeDrainSpan
  split
  · exact poolLaw_unlessFrozen (by simpa) hs
  · simpa
  · simpa

theorem poolLaw_judgeRemoveSpan (span : Byte) (hs : poolLaw s) : poolLaw (judgeRemoveSpan o span s) := by
  unfold judgeRemoveSpan
  split
  · exact poolLaw_unlessFrozen (by simpa) hs
  · simpa

theorem poolLaw_judgeSetPool (pool : Byte) (w c f : Nat) (hs : poolLaw s) : poolLaw (judgeSetPool o pool w c f s) := by
  unfold judgeSetPool
  split
  · simpa
  · exact poolLaw_ite (by simpa) (poolLaw_unlessFrozen (by simpa) hs)

theorem poolLaw_judgeQueryPool (pool : Byte) (hs : poolLaw s) : poolLaw (judgeQueryPool o pool s) := by
  unfold judgeQueryPool
  split <;> simpa

theorem poolLaw_judgeWatch (timeout : Nat) (items : List WatchItem) (hs : poolLaw s) :
    poolLaw (judgeWatch o timeout items s) := by
  have hitems (es : List WatchExpect) : poolLaw (judgeItems o timeout es s) := by
    unfold judgeItems
    refine poolLaw_ite (by simpa) ?_
    split
    · simpa
    · exact poolLaw_ite (by simpa) hs
  unfold judgeWatch
  split
  · simpa
  · exact poolLaw_ite (by simpa) (hitems _)

theorem poolLaw_receiveMalformed (code : Byte) (body : List Byte) (hs : poolLaw s) :
    poolLaw (receiveMalformed o code body s) :=
  poolLaw_ite (poolLaw_receive code (fun _ _ => poolLaw_ite (by simpa) (by simpa)) hs) hs

end

/-! ## Links and the time base -/

theorem poolLaw_loseLink (p : Port) (hs : poolLaw s) : poolLaw (loseLink p s) := by
  unfold loseLink
  rw [poolLaw_addNotice]
  have hw : poolLaw (stripWork p (s.updatePort p HeadPort.lostLink)) :=
    (poolLaw_congr (stripWork_keeps State.pools p _)).mpr hs
  exact (poolLaw_departAll p).mpr hw

theorem poolLaw_expireLiveness (hs : poolLaw s) : poolLaw (expireLiveness s) := by
  unfold expireLiveness
  split
  · exact poolLaw_lapse _ hs
  · exact hs

theorem poolLaw_expireGrant (hs : poolLaw s) : poolLaw (expireGrant s) := by
  unfold expireGrant
  split
  · exact poolLaw_dropGrant none _ hs
  · exact hs

theorem poolLaw_expireRecall (hs : poolLaw s) : poolLaw (expireRecall s) := by
  unfold expireRecall recallFrom
  split
  · simpa using poolLaw_dropGrants none _ hs
  · exact hs

theorem poolLaw_warnLagging (tag : Gen) (hs : poolLaw s) : poolLaw (warnLagging tag s) :=
  poolLaw_foldl (s := { s with heads := mapAt (Head.warned tag) s.heads, stall := .warned s.timing.grace tag })
    (fun _ _ hb => (poolLaw_addNotice _ _).mpr hb) _ hs

theorem poolLaw_expireQuiet (hs : poolLaw s) : poolLaw (expireQuiet s) := by
  unfold expireQuiet
  split
  · exact poolLaw_warnLagging _ hs
  all_goals exact hs

theorem poolLaw_expireWarned (hs : poolLaw s) : poolLaw (expireWarned s) := by
  unfold expireWarned
  split
  · exact poolLaw_foldl (fun _ p hb => poolLaw_ite (poolLaw_lapse p hb) hb) _ hs
  all_goals exact hs

theorem poolLaw_expireWatch (hs : poolLaw s) : poolLaw (expireWatch s) := by
  unfold expireWatch timeoutWatch
  split
  · rw [poolLaw_answer]
    exact hs
  · exact hs

/-! ## The log and the map store -/

theorem poolLaw_changeFront (f : LogIntent → LogIntent) : poolLaw (changeFront f s) ↔ poolLaw s := by
  unfold changeFront
  split <;> rfl

theorem poolLaw_effectCorrected (c : Bool) (e : Effect) (hs : poolLaw s) : poolLaw (effectCorrected c e s) := by
  unfold effectCorrected
  split
  · exact poolLaw_correctedRead _ hs
  · exact hs
  · exact hs

theorem poolLaw_ackImage (slot : Nat) (hs : poolLaw s) : poolLaw (ackImage slot s) := poolLaw_ite hs hs

theorem poolLaw_ackEffect (c : Bool) (hs : poolLaw s) : poolLaw (ackEffect c s) := by
  unfold ackEffect
  split
  · exact hs
  · rename_i l e _
    have hc := poolLaw_effectCorrected c e (s := { s with store := s.store.write e }) hs
    exact poolLaw_ite ((poolLaw_changeFront _).mpr (poolLaw_applyEffect l.intent.kind e hc))
      ((poolLaw_changeFront _).mpr hc)

theorem poolLaw_failEffectRead (hs : poolLaw s) : poolLaw (failEffectRead s) := by
  unfold failEffectRead
  split
  · exact hs
  · split
    · exact hs
    · exact poolLaw_poisonedRead _ _ ((poolLaw_changeFront _).mpr hs)

theorem poolLaw_ackRetire (reads : Reads) (hs : poolLaw s) : poolLaw (ackRetire reads s) := by
  unfold ackRetire
  split
  · exact hs
  · refine poolLaw_ite (poolLaw_doneActions _ _ ?_) ((poolLaw_changeFront _).mpr hs)
    rw [freeSlot_touches]
    exact hs

theorem poolLaw_failImage (slot : Nat) (hs : poolLaw s) : poolLaw (failImage slot s) :=
  poolLaw_ite (poolLaw_storeFault _ _ _ hs) hs

theorem poolLaw_failEffect (c : Bool) (hs : poolLaw s) : poolLaw (failEffect c s) := by
  unfold failEffect
  split
  · exact hs
  · exact poolLaw_storeFault _ _ _ (poolLaw_effectCorrected c _ ((poolLaw_changeFront _).mpr hs))

theorem poolLaw_failRetire (hs : poolLaw s) : poolLaw (failRetire s) := by
  unfold failRetire
  split
  · exact hs
  · exact poolLaw_storeFault _ _ _ ((poolLaw_changeFront _).mpr hs)

theorem poolLaw_failWrite (target : WriteTarget) (hs : poolLaw s) : poolLaw (failWrite target s) := by
  cases target with
  | logImage slot => exact poolLaw_failImage slot hs
  | effect c => exact poolLaw_failEffect c hs
  | retirement => exact poolLaw_failRetire hs
  | bootCount => exact poolLaw_ite (poolLaw_storeFault _ _ _ hs) hs
  | writeBack a => exact poolLaw_ite (poolLaw_storeFault _ _ _ hs) hs
  | replayEffect k reads => exact poolLaw_failReplayEffect k reads hs
  | replayRetirement reads => exact poolLaw_failReplayRetirement reads hs

/-! ## Every command -/

theorem poolLaw_exec (i : Instr) (hs : poolLaw s) (h : exec i s = .next u) : poolLaw u := by
  cases i with
  | join p t i => exact poolLaw_request h (fun _ => poolLaw_judgeJoin _ _) hs
  | renew p t i ack => exact poolLaw_request h (fun _ => poolLaw_judgeRenew _ _ _) hs
  | leave p t => exact poolLaw_request h (fun _ hb => (poolLaw_answer _ _ _ _).mpr (poolLaw_leaveHead p hb)) hs
  | configure p t period l g d gr => exact poolLaw_request h (fun _ => poolLaw_judgeConfigure _ _ _ _ _ _) hs
  | queryPart p t => exact poolLaw_request h (fun _ => (poolLaw_answer _ _ _ _).mpr) hs
  | queryFaults p t => exact poolLaw_request h (fun _ => (poolLaw_answer _ _ _ _).mpr) hs
  | clearFault p t source => exact poolLaw_request h (fun _ => poolLaw_judgeClearFault _ _) hs
  | claim p t v wait demand =>
    exact poolLaw_request h (fun _ hb => poolLaw_onVolume _ (poolLaw_claimFlags _ _ _ _ hb) hb) hs
  | release p t v => exact poolLaw_request h (fun _ hb => poolLaw_onVolume _ (poolLaw_judgeRelease _ _ hb) hb) hs
  | createVolume p t v te pool size mode => exact poolLaw_request h (fun _ => poolLaw_judgeCreate _ _ _ _ _ _) hs
  | deleteVolume p t v =>
    exact poolLaw_request h (fun _ hb => poolLaw_onVolume _ (poolLaw_unlessFrozen ((poolLaw_enqueue _ _).mpr hb) hb) hb) hs
  | resizeVolume p t v size =>
    exact poolLaw_request h (fun _ hb => poolLaw_onVolume _ (poolLaw_judgeResize _ _ _ hb) hb) hs
  | setVolumeMode p t v mode =>
    exact poolLaw_request h (fun _ hb => poolLaw_onVolume _ (poolLaw_judgeMode _ _ _ hb) hb) hs
  | queryVolume p t v clear => exact poolLaw_request h (fun _ => poolLaw_judgeQueryVolume _ _ _) hs
  | setTenant p t te quota => exact poolLaw_request h (fun _ => poolLaw_judgeSetTenant _ _ _) hs
  | queryTenant p t te => exact poolLaw_request h (fun _ => poolLaw_judgeQueryTenant _ _) hs
  | resolve p t v first count reads =>
    exact poolLaw_request h (fun _ hb => poolLaw_onVolume _ (poolLaw_judgeResolve _ _ _ _ _ hb) hb) hs
  | noteWritten p t v i written reads =>
    exact poolLaw_request h (fun _ hb => poolLaw_onVolume _ (poolLaw_judgeNoteWritten _ _ _ _ _ hb) hb) hs
  | unmap p t v first count =>
    exact poolLaw_request h
      (fun _ hb => poolLaw_unlessFrozen (poolLaw_onVolume _ (poolLaw_judgeUnmap _ _ _ _ hb) hb) hb) hs
  | reserve p t v first count reads =>
    exact poolLaw_request h
      (fun _ hb => poolLaw_unlessFrozen (poolLaw_onVolume _ (poolLaw_judgeReserve _ _ _ _ _ hb) hb) hb) hs
  | bind p t g serial check advance written =>
    exact poolLaw_request h (fun _ hb => poolLaw_unlessFrozen (poolLaw_bindForm _ _ _ _ _ _ hb) hb) hs
  | abandon p t g serial => exact poolLaw_request h (fun _ => poolLaw_judgeAbandon _ _ _) hs
  | relocate p t v i reads =>
    exact poolLaw_request h
      (fun _ hb => poolLaw_unlessFrozen (poolLaw_onVolume _ (poolLaw_judgeRelocate _ _ _ _ hb) hb) hb) hs
  | completeRelocate p t g serial check =>
    exact poolLaw_request h (fun _ hb => poolLaw_unlessFrozen (poolLaw_judgeCompleteRelocate _ _ _ _ hb) hb) hs
  | addSpan p t span pool length => exact poolLaw_request h (fun _ => poolLaw_judgeAddSpan _ _ _ _) hs
  | drainSpan p t span setting => exact poolLaw_request h (fun _ => poolLaw_judgeDrainSpan _ _ _) hs
  | removeSpan p t span => exact poolLaw_request h (fun _ => poolLaw_judgeRemoveSpan _ _) hs
  | setPool p t pool w c f => exact poolLaw_request h (fun _ => poolLaw_judgeSetPool _ _ _ _ _) hs
  | queryPool p t pool => exact poolLaw_request h (fun _ => poolLaw_judgeQueryPool _ _) hs
  | watch p t timeout items => exact poolLaw_request h (fun _ => poolLaw_judgeWatch _ _ _) hs
  | unknownRequestKind p t code body => exact poolLaw_event h (fun _ => poolLaw_receiveMalformed _ _ _) hs
  | frameDamaged p frame => exact poolLaw_event h (fun _ hb => poolLaw_ite hb hb) hs
  | powerOn boot =>
    exact poolLaw_event (k := fun s => { restart .power boot s with faults := .clear }) h
      (fun _ _ => poolLaw_restart .power boot) hs
  | lineReset boot => exact poolLaw_event h (fun _ _ => poolLaw_restart .line boot) hs
  | linkUp p =>
    exact poolLaw_event (k := fun s => if s.linkUp p then s else s.updatePort p HeadPort.trained) h
      (fun _ hb => poolLaw_ite hb hb) hs
  | linkDown p =>
    exact poolLaw_event (k := fun s => if s.linkUp p then loseLink p s else s) h
      (fun _ hb => poolLaw_ite (poolLaw_loseLink p hb) hb) hs
  | answerSent p =>
    exact poolLaw_event (k := fun s => if s.linkUp p then s.updatePort p HeadPort.sent else s) h
      (fun _ hb => poolLaw_ite hb hb) hs
  | noticeDelivered p =>
    exact poolLaw_event (k := fun s => if s.linkUp p then s.updatePort p HeadPort.delivered else s) h
      (fun _ hb => poolLaw_ite hb hb) hs
  | tick => exact poolLaw_event h (fun _ hb => hb) hs
  | livenessExpiry => exact poolLaw_event h (fun _ => poolLaw_expireLiveness) hs
  | grantExpiry => exact poolLaw_event h (fun _ => poolLaw_expireGrant) hs
  | recallExpiry => exact poolLaw_event h (fun _ => poolLaw_expireRecall) hs
  | stallExpiryQuiet => exact poolLaw_event h (fun _ => poolLaw_expireQuiet) hs
  | stallExpiryWarned => exact poolLaw_event h (fun _ => poolLaw_expireWarned) hs
  | watchTimeout => exact poolLaw_event h (fun _ => poolLaw_expireWatch) hs
  | validate q reads => exact poolLaw_stepDue h (fun _ => poolLaw_validateFront q reads) hs
  | logSlotTaken => exact poolLaw_stepDue h (fun _ => poolLaw_takeSlot.mpr) hs
  | logWriteAck slot => exact poolLaw_event h (fun _ => poolLaw_ackImage slot) hs
  | applyStart => exact poolLaw_stepDue h (fun _ => poolLaw_startApply) hs
  | effectWriteAck c => exact poolLaw_event h (fun _ => poolLaw_ackEffect c) hs
  | retireAck reads => exact poolLaw_event h (fun _ => poolLaw_ackRetire reads) hs
  | storeWriteFailed target => exact poolLaw_event h (fun _ => poolLaw_failWrite target) hs
  | recoveryReplayIntent reads => exact poolLaw_event h (fun _ => poolLaw_replayStep reads) hs
  | recoverySweep reads => exact poolLaw_event h (fun _ => poolLaw_sweepStep reads) hs
  | recoveryEnd => exact poolLaw_event h (fun _ => poolLaw_endStep) hs
  | deletionAdmitted reads => exact poolLaw_stepDue h (fun _ => poolLaw_formDeletion reads) hs
  | effectReadUncorrectable => exact poolLaw_event h (fun _ => poolLaw_failEffectRead) hs

theorem poolLaw_step (hs : poolLaw s) (h : step s = .next u) : poolLaw u := by
  unfold step at h
  split at h
  · cases h
    exact hs
  · rename_i c rest _
    exact poolLaw_exec (s := { s with pending := rest }) c hs h

/-! ## The notice of a level (R37, R174) -/

theorem mem_replaceFirst {α : Type} {f : α → Bool} (b : α) {l : List α} (h : l.any f = true) : b ∈ replaceFirst f b l := by
  induction l with
  | nil => cases h
  | cons a l ih =>
    unfold replaceFirst
    split
    · exact List.mem_cons_self
    · rename_i ha
      rw [List.any_cons, Bool.eq_false_iff.mpr ha, Bool.false_or] at h
      exact List.mem_cons_of_mem _ (ih h)

/-- A notice that raises no INVALIDATE_ALL stands in a set that had room, in place of one of its subject or behind all. -/
theorem mem_addToSet {g : Gen} {n : Notice} {set : List Notice} {lost : Bool} (hn : n.invalidatesAt = none)
    (hroom : set.length < Config.noticePlaces) : n ∈ (addToSet g n set lost).1 := by
  unfold addToSet
  split
  · rename_i h
    exact mem_replaceFirst n h
  · rw [hn]
    exact List.mem_append_right _ (List.mem_singleton_self n)

theorem addNotice_self {p : Port} (n : Notice) (h : s.joined p = true) :
    (addNotice p n s).ports.get p = (s.ports.get p).pushNotice s.generation n := by
  unfold addNotice
  rw [if_pos h]
  exact putAt_get_self _ _ _

theorem addNotice_absent {p : Port} (n : Notice) (h : s.joined p = false) : addNotice p n s = s := by
  unfold addNotice
  rw [if_neg (by rw [h]; exact Bool.false_ne_true)]

theorem addNotice_joined (p : Port) (n : Notice) (s : State) : (addNotice p n s).joined = s.joined :=
  keeps_of_erasePorts State.joined (addNotice_erase p n s)

/-- Notices to other ports leave a port as it was. -/
theorem foldl_addNotice_other {p : Port} (n : Notice) {l : List Port} (hp : p ∉ l) :
    (l.foldl (fun s q => addNotice q n s) s).ports.get p = s.ports.get p := by
  induction l generalizing s with
  | nil => rfl
  | cons q l ih =>
    obtain ⟨hq, hl⟩ := not_or.mp (mt List.mem_cons.mpr hp)
    rw [List.foldl_cons, ih hl, addNotice_other (Ne.symm hq)]

/-- A notice for several ports, each once: one of them that is JOINED gets it. -/
theorem foldl_addNotice_self {p : Port} (n : Notice) {l : List Port} (hl : l.Nodup) (hp : p ∈ l)
    (hj : s.joined p = true) :
    (l.foldl (fun s q => addNotice q n s) s).ports.get p = (s.ports.get p).pushNotice s.generation n := by
  induction l generalizing s with
  | nil => cases hp
  | cons q l ih =>
    obtain ⟨hq, hl⟩ := List.nodup_cons.mp hl
    rw [List.foldl_cons]
    rcases List.mem_cons.mp hp with rfl | hp
    · rw [foldl_addNotice_other n hq, addNotice_self n hj]
    · have hne : q ≠ p := fun h => hq (h ▸ hp)
      rw [ih hl hp (by rw [addNotice_joined]; exact hj), addNotice_other hne,
        keeps_of_erasePorts State.generation (addNotice_erase q n s)]

/-- No port whose head is not JOINED is changed. -/
theorem foldl_addNotice_absent {p : Port} (n : Notice) (l : List Port) (hj : s.joined p = false) :
    (l.foldl (fun s q => addNotice q n s) s).ports.get p = s.ports.get p := by
  induction l generalizing s with
  | nil => rfl
  | cons q l ih =>
    rw [List.foldl_cons, ih (by rw [addNotice_joined]; exact hj)]
    by_cases hq : q = p
    · rw [hq, addNotice_absent n hj]
    · rw [addNotice_other hq]

theorem mem_allPorts (p : Port) : p ∈ allPorts := by
  revert p; decide

theorem notifyJoined_all (n : Notice) (s : State) :
    notifyJoined none n s = allPorts.foldl (fun s q => addNotice q n s) s := rfl

theorem judgeLevel_same {k : PoolId} (h : (s.pools.get k).judged = (s.pools.get k).level) : judgeLevel k s = s := if_pos h

theorem judgeLevel_changes {k : PoolId} (h : (s.pools.get k).judged ≠ (s.pools.get k).level) :
    judgeLevel k s = notifyJoined none (.poolLevel k (s.pools.get k).judged)
      (s.updatePool k (fun r => { r with level := r.judged })) := if_neg h

/-- Settles O16: the law by the command taken (`poolLaw_exec`), the judgement by `Pool.judged`, its notice port by port. -/
theorem poolLevelJudged : Obligations.PoolLevelJudged := by
  refine ⟨fun s u => poolLaw_step, fun r => ⟨judged_critical, judged_low, judged_normal⟩,
    fun k s => judgeLevel_same, fun k s h => ⟨judgeLevel_pools k s, judgeLevel_grows k s, fun p hj hroom => ?_,
      fun p hj => ?_, judgeLevel_touches k s⟩⟩
  · rw [judgeLevel_changes h, notifyJoined_all,
      foldl_addNotice_self (s := s.updatePool k _) _ (by decide) (mem_allPorts p) hj]
    exact mem_addToSet rfl hroom
  · rw [judgeLevel_changes h, notifyJoined_all]
    exact foldl_addNotice_absent (s := s.updatePool k _) _ _ hj

end Sys2Proof.Machine
end

section
/-! PROOFS. Shelf space (chapter 2): what QueryPool reports (R43) and how an extent is selected (R31, R32). -/

namespace Sys2Proof.Machine

open State

variable {s : State} {p : Port} {t : Tag}

/-! ## The spans in ascending number -/

theorem mem_allSpans (n : SpanId) : n ∈ allSpans := by
  revert n; decide

theorem allSpans_pairwise : allSpans.Pairwise (· < ·) := by decide

/-! ## QueryPool (R43) -/

theorem exec_queryPool_badForm {b : Byte} (h : admits s p t) (hb : 7 < b.toNat) :
    exec (.queryPool p t b) s = .next (answered p t 0x54 (.refused .badForm) .empty s) := by
  refine (request_admits .queryPool _ h).trans (congrArg _ ?_)
  unfold judgeQueryPool
  rw [poolOf_high hb]
  exact refuse_taken .queryPool .badForm (admits_linkUp h)

theorem exec_queryPool_done (k : PoolId) (h : admits s p t) :
    exec (.queryPool p t (BitVec.ofNat 8 k.val)) s = .next (answered p t 0x54 .done (poolBody s k) s) := by
  refine (request_admits .queryPool _ h).trans (congrArg _ ?_)
  unfold judgeQueryPool
  rw [poolOf_ofNat]
  exact answer_taken RequestKind.queryPool.code .done (poolBody s k) (admits_linkUp h)

theorem poolSpans_numbers (k : PoolId) : (poolSpans s k).map SpanReport.span =
    allSpans.filter (fun n => decide ((s.spans.get n).state ≠ .absent ∧ (s.spans.get n).pool = k)) := by
  simp [poolSpans, Function.comp_def]

/-- Exactly the registered spans of the pool are listed, each as it stands. -/
theorem mem_poolSpans (k : PoolId) (r : SpanReport) : r ∈ poolSpans s k ↔
    (s.spans.get r.span).state ≠ .absent ∧ (s.spans.get r.span).pool = k ∧
      r = ⟨r.span, (s.spans.get r.span).state, (s.spans.get r.span).length, (s.spans.get r.span).freeCount⟩ := by
  simp only [poolSpans, List.mem_map, List.mem_filter, decide_eq_true_eq]
  constructor
  · rintro ⟨n, ⟨-, hn, hk⟩, rfl⟩
    exact ⟨hn, hk, rfl⟩
  · rintro ⟨hn, hk, hr⟩
    exact ⟨r.span, ⟨mem_allSpans r.span, hn, hk⟩, hr.symm⟩

/-- Settles O36: the answer carries the pool's record, and the list of spans is `poolSpans`. -/
theorem queryPoolReports : Obligations.QueryPoolReports := by
  refine fun p t s h => ⟨fun b hb => exec_queryPool_badForm h hb, fun k =>
    ⟨poolSpans s k, exec_queryPool_done k h, ?_, ?_, mem_poolSpans k⟩⟩
  · rw [← List.length_map (f := SpanReport.span), poolSpans_numbers]
    exact List.length_filter_le _ allSpans
  · rw [poolSpans_numbers]
    exact allSpans_pairwise.filter _

/-! ## The scan of a free set -/

namespace FreeSet

/-- With no member at or above `c` met, every member lies below it. -/
theorem lt_of_next?_none {c j : Nat} {f : FreeSet} (h : next? c f = none) (hj : mem j f = true) : j < c := by
  induction f with
  | nil => exact absurd hj Bool.false_ne_true
  | cons r t ih =>
    obtain ⟨lo, hi⟩ := r
    unfold next? at h
    split at h
    · cases h
    · rename_i hr
      rcases (mem_cons j lo hi t).mp hj with ⟨hlo, hhi⟩ | hj
      · omega
      · exact ih h hj

/-- In canonical form every member of the rest lies above the first run. -/
theorem lt_of_mem_tail {lo hi j : Nat} {t : FreeSet} (h : wf ((lo, hi) :: t) = true) (hj : mem j t = true) : hi < j := by
  induction t generalizing lo hi with
  | nil => exact absurd hj Bool.false_ne_true
  | cons r t ih =>
    obtain ⟨lo', hi'⟩ := r
    obtain ⟨-, hgap, ht⟩ := (wf_cons lo hi _).mp h
    have hlt : hi + 1 < lo' := hgap (lo', hi') rfl
    rcases (mem_cons j lo' hi' t).mp hj with ⟨hlo, -⟩ | hj
    · omega
    · have := ih ht hj
      have := ((wf_cons lo' hi' t).mp ht).1
      omega

/-- In canonical form the member that is met is the lowest at or above `c`. -/
theorem next?_least {c i j : Nat} {f : FreeSet} (hw : wf f = true) (h : next? c f = some i) (hj : mem j f = true)
    (hc : c ≤ j) : i ≤ j := by
  induction f with
  | nil => exact absurd hj Bool.false_ne_true
  | cons r t ih =>
    obtain ⟨lo, hi⟩ := r
    have htail := fun h => lt_of_mem_tail (j := j) hw h
    unfold next? at h
    split at h
    · rename_i hr
      cases h
      rcases (mem_cons j lo hi t).mp hj with ⟨hlo, -⟩ | hj
      · omega
      · have := htail hj
        omega
    · rename_i hr
      rcases (mem_cons j lo hi t).mp hj with ⟨hlo, hhi⟩ | hj
      · omega
      · exact ih ((wf_cons lo hi t).mp hw).2.2 h hj

end FreeSet

/-! ## The scan of a span (R31) -/

/-- A scan that meets nothing has passed over every index. -/
theorem scan_none {sp : Span} (h : sp.scan = none) (i : Nat) : FreeSet.mem i sp.free = false := by
  unfold Span.scan at h
  split at h
  · cases h
  · exact Bool.eq_false_iff.mpr fun hi => absurd (FreeSet.lt_of_next?_none h hi) (Nat.not_lt_zero i)

theorem scan_mem {sp : Span} {i : Nat} (h : sp.scan = some i) : FreeSet.mem i sp.free = true := by
  unfold Span.scan at h
  split at h
  · rename_i hn
    cases h
    exact (FreeSet.mem_of_next? _ _ _ hn).1
  · exact (FreeSet.mem_of_next? _ _ _ h).1

/-- The index met is the first free one from the cursor upward; behind a wrap, the first from 0 with none left above. -/
theorem scan_first {sp : Span} {i j : Nat} (hw : FreeSet.wf sp.free = true) (h : sp.scan = some i)
    (hj : FreeSet.mem j sp.free = true) :
    (sp.cursor ≤ i → j < sp.cursor ∨ i ≤ j) ∧ (i < sp.cursor → j < sp.cursor ∧ i ≤ j) := by
  unfold Span.scan at h
  split at h
  · rename_i m hm
    cases h
    have hle := (FreeSet.mem_of_next? _ _ _ hm).2
    have hleast := FreeSet.next?_least hw hm hj
    omega
  · rename_i hn
    have hj' := FreeSet.lt_of_next?_none hn hj
    have hi' := FreeSet.lt_of_next?_none hn (FreeSet.mem_of_next? _ _ _ h).1
    have hleast := FreeSet.next?_least hw h hj (Nat.zero_le j)
    omega

/-! ## The choice of a span (R31, R32) -/

theorem scanned_iff {sp : Span} {n : SpanId} {pool : PoolId} {skip : Option SpanId} :
    sp.scanned n pool skip = true ↔ sp.state = .online ∧ sp.pool = pool ∧ some n ≠ skip ∧ sp.freeCount ≠ 0 := by
  simp [Span.scanned]

/-- The extent chosen is met by the scan of its span, and the scan of every lower span that is scanned meets nothing. -/
theorem chooseExtent_spec {spans : Vector Span 16} {pool : PoolId} {skip : Option SpanId} {e : Extent}
    (h : chooseExtent spans pool skip = some e) :
    (spans.get e.span).scanned e.span pool skip = true ∧ (spans.get e.span).scan = some e.index ∧
    ∀ n, n < e.span → (spans.get n).scanned n pool skip = true → (spans.get n).scan = none := by
  obtain ⟨before, m, after, hall, hm, hbefore⟩ := List.findSome?_eq_some_iff.mp h
  split at hm
  · rename_i hsc
    obtain ⟨i, hi, rfl⟩ := Option.map_eq_some_iff.mp hm
    refine ⟨hsc, hi, fun n hn hnsc => ?_⟩
    have hmem : n ∈ before := by
      have hsorted := allSpans_pairwise
      rw [hall, List.pairwise_append, List.pairwise_cons] at hsorted
      obtain ⟨-, ⟨hafter, -⟩, -⟩ := hsorted
      have hn' : n ∈ before ++ m :: after := hall ▸ mem_allSpans n
      rcases List.mem_append.mp hn' with hn' | hn'
      · exact hn'
      · rcases List.mem_cons.mp hn' with rfl | hn'
        · exact absurd hn (lt_irrefl _)
        · exact absurd hn (hafter n hn').asymm
    have := hbefore n hmem
    rw [if_pos hnsc] at this
    exact Option.map_eq_none_iff.mp this
  · cases hm

theorem chooseRun_succ {spans : Vector Span 16} {pool : PoolId} {skip : Option SpanId} {e : Extent} (k : Nat)
    (h : chooseExtent spans pool skip = some e) :
    chooseRun pool skip (k + 1) spans =
      (e :: (chooseRun pool skip k (takeExtent spans e)).1, (chooseRun pool skip k (takeExtent spans e)).2) := by
  rw [chooseRun, h]

/-! ## The taking of an extent (R31) -/

theorem takeExtent_self (spans : Vector Span 16) (e : Extent) :
    (takeExtent spans e).get e.span = (spans.get e.span).takeIndex e.index := putAt_get_self _ _ _

theorem takeExtent_other (spans : Vector Span 16) (e : Extent) (n : SpanId) (h : n ≠ e.span) :
    (takeExtent spans e).get n = spans.get n := putAt_get_other _ _ _ _ h.symm

/-- An index that is taken is no longer free, and every other is free as before. -/
theorem mem_takeIndex (sp : Span) (i j : Nat) : FreeSet.mem j (sp.takeIndex i).free =
    (FreeSet.mem j sp.free && decide (j ≠ i)) := by
  show FreeSet.mem j (FreeSet.remove i sp.free) = _
  by_cases h : j = i
  · subst h
    simpa using FreeSet.mem_remove_self sp.free j
  · simpa [h] using FreeSet.mem_remove_other sp.free i j (Ne.symm h)

/-- Settles O15: the choice by `chooseExtent_spec` and `scan_first`, the taking by the facts on `takeExtent`. -/
theorem selectionTakesFirstFree : Obligations.SelectionTakesFirstFree := by
  refine ⟨fun spans pool skip e hw h => ?_, fun _ _ _ k _ h => chooseRun_succ k h, fun spans e => ?_⟩
  · obtain ⟨hsc, hscan, hlower⟩ := chooseExtent_spec h
    obtain ⟨honline, hpool, hskip, -⟩ := scanned_iff.mp hsc
    exact ⟨honline, hpool, hskip, scan_mem hscan,
      fun n hn ho hp hs hf => scan_none (hlower n hn (scanned_iff.mpr ⟨ho, hp, hs, hf⟩)),
      fun i hi => scan_first hw hscan hi⟩
  · rw [takeExtent_self]
    exact ⟨rfl, rfl, fun i => mem_takeIndex _ _ _, takeExtent_other spans e⟩

end Sys2Proof.Machine
end

/-! # Computations and the tick (R53, R106) -/

section

namespace Sys2Proof.Machine

open State

/-- The combining constant has its bits 15, 13 and 0 (R53). -/
theorem combine_bits : ∀ k : Fin 16, (0xA001#16).getLsbD k.val = true ↔ k.val = 15 ∨ k.val = 13 ∨ k.val = 0 := by decide

/-- Settles O13: each part is what the definitions say, but for the constant's bits, which are counted. -/
theorem checkGenerator : Obligations.CheckGenerator :=
  ⟨fun _ => rfl, fun _ _ _ => rfl, fun _ _ => rfl, fun _ _ => rfl, fun k hk => combine_bits ⟨k, hk⟩, fun _ _ => rfl,
    fun _ => rfl⟩

variable (s : State)

theorem tick_head (p : Port) : (tickAll s).heads.get p = (s.heads.get p).ticked := mapAt_get _ _ _

theorem tick_grant (n : Nat) : (tickAll s).grant? n = (s.grant? n).map Grant.ticked := Table.get?_map Grant.ticked s.grants n

theorem tick_lease (v : Nat) : (tickAll s).lease v = (s.lease v).ticked := by
  refine (congrArg (fun x => Option.getD x Lease.fresh) (Table.get?_map Lease.ticked s.leases v)).trans ?_
  unfold State.lease Table.getD
  cases Table.get? s.leases v <;> rfl

theorem ticked_of_apart {h : Head} (hj : h.isJoined = false) : h.ticked = h := by
  cases h with
  | joined m => cases hj
  | absent => rfl
  | lapsed i => rfl

theorem ticked_of_steady {l : Lease} (hl : l.hold.isRecalling = false) : l.ticked = l := by
  unfold Lease.ticked
  cases h : l.hold with
  | recalling p c => rw [h] at hl; cases hl
  | free => rfl
  | held p => rfl
  | orphaned => rfl

theorem ticked_staging {g : Grant} {c : Nat} (h : g.state = .staged c) : g.ticked = { g with state := .staged (c - 1) } := by
  unfold Grant.ticked; rw [h]

theorem ticked_binding {g : Grant} (h : g.state = .binding) : g.ticked = g := by
  unfold Grant.ticked; rw [h]

theorem ticked_recalling {l : Lease} {h : Port} {c : Nat} (hl : l.hold = .recalling h c) :
    l.ticked = { l with hold := .recalling h (c - 1) } := by
  unfold Lease.ticked; rw [hl]

/-- Settles O49: on settled tables a tick is `tickAll`, which acts on each record by itself. -/
theorem tickLowersCountdowns : Obligations.TickLowersCountdowns := by
  intro s hs
  refine ⟨tickAll s, event_settled tickAll hs, fun p m h => ?_, fun p h => ?_, fun n g c hg hc => ?_, fun n g hg hb => ?_,
    fun n hn => ?_, fun v h c hl => ?_, fun v hl => ?_, fun h => ?_, fun c h => ?_, fun c g h => ?_, rfl, rfl, rfl⟩
  · rw [tick_head, h]; rfl
  · rw [tick_head]; exact ticked_of_apart h
  · rw [tick_grant, hg]; exact congrArg some (ticked_staging hc)
  · rw [tick_grant, hg]; exact congrArg some (ticked_binding hb)
  · rw [tick_grant, hn]; rfl
  · rw [tick_lease]; exact ticked_recalling hl
  · rw [tick_lease]; exact ticked_of_steady hl
  · exact congrArg Stall.ticked h
  · exact congrArg Stall.ticked h
  · exact congrArg Stall.ticked h

end Sys2Proof.Machine

end

section
/-! PROOFS. The law of the volumes and of the STAGED grants as one invariant, and what leaves it as it is: the operations that
touch neither the holder and epoch of a lease, nor the state of a volume, nor what is under way on it (R22 to R25, R48, R142). -/

namespace Sys2Proof.Machine

open State

variable {s b u : State}

/-! ## The invariant -/

/-- Nothing is under way: the part of the law of the volumes that speaks of RECOVERING. -/
structure AtRest (s : State) : Prop where
  log : s.log = []
  logWait : s.logWait = []
  queues : s.queues = []
  shelf : s.shelf = .empty
  grants : s.grants = []
  due : s.deletionsDue = []
  paused : s.admissionWait = []

/-- What is under way on a volume, and the STAGED grants on it, fit its record. -/
structure VolumeOk (v : Nat) (s : State) : Prop where
  toCreate : ∀ i ∈ s.logWait, i.kind = .volumeCreate → i.queue = .volume v → (s.volume v).state = .absent
  creating : ∀ l ∈ s.log, l.applied = 0 → l.intent.kind = .volumeCreate → l.intent.queue = .volume v →
    (s.volume v).state = .absent
  deleting : removes s v ∨ holdsQueue s v .deleteMark →
    (s.volume v).deletion ≠ none ∧ ((s.volume v).state = .deleting ∨ (s.volume v).state = .absent)
  staged : ∀ e ∈ s.grants, e.2.isStaged = true → e.2.volume = v → (s.volume v).state ≠ .absent ∧ ¬ removes s v

/-- The part of the law of the volumes that speaks of SERVING. -/
structure WorkLaw (s : State) : Prop where
  nodup : (heldQueues s).Nodup
  flight : ∀ q ∈ heldQueues s, (s.queue q).flight ≠ none
  waiting : ∀ q, ∀ i ∈ (s.queue q).waiting, i.request.lawful q = true
  intents : ∀ i ∈ liveIntents s, i.lawful = true
  record : ∀ v, VolumeOk v s

theorem volumeLaw_iff : volumeLaw s ↔ (s.mode = .recovering → AtRest s) ∧ (s.mode = .serving → WorkLaw s) := by
  refine and_congr (forall_congr' fun _ => ⟨?_, ?_⟩) (forall_congr' fun _ => ⟨?_, ?_⟩)
  · rintro ⟨hlog, hwait, hqueues, hshelf, hgrants, hdue, hpaused⟩
    exact ⟨hlog, hwait, hqueues, hshelf, hgrants, hdue, hpaused⟩
  · rintro ⟨hlog, hwait, hqueues, hshelf, hgrants, hdue, hpaused⟩
    exact ⟨hlog, hwait, hqueues, hshelf, hgrants, hdue, hpaused⟩
  · rintro ⟨hn, hf, hw, hi, hc, hl, hd, hs⟩
    exact ⟨hn, hf, hw, hi, fun v => ⟨fun i h k => hc i h k v, fun l h a k => hl l h a k v, hd v,
      fun e h k hv => hv ▸ hs e h k⟩⟩
  · rintro ⟨hn, hf, hw, hi, hr⟩
    exact ⟨hn, hf, hw, hi, fun i h k v => (hr v).toCreate i h k, fun l h a k v => (hr v).creating l h a k,
      fun v => (hr v).deleting, fun e h k => (hr _).staged e h k rfl⟩

/-- The laws of the volumes and of the STAGED grants, with the order of the tables that they need: that of the leases, the change
queues and the store's volumes, and while RECOVERING that of the volumes, which the end of the recovery reads. -/
structure GrantLaw (s : State) : Prop where
  leases : Table.wf s.leases = true
  queues : Table.wf s.queues = true
  volumes : s.mode = .recovering → Table.wf s.volumes = true
  store : Table.wf s.store.volumes = true
  staged : stagedLaw s
  rest : s.mode = .recovering → AtRest s
  work : s.mode = .serving → WorkLaw s

theorem wf_of_wfD {α : Type} [DecidableEq α] {d : α} {t : Table α} (h : Table.wfD d t = true) : Table.wf t = true :=
  (Bool.and_eq_true_iff.mp h).1

theorem GrantLaw.of_laws (ht : tablesLaw s) (hv : volumeLaw s) (hs : stagedLaw s) : GrantLaw s := by
  obtain ⟨hvol, -, -, -, -, hlease, hqueue, hstore, -⟩ := ht
  obtain ⟨hrest, hwork⟩ := volumeLaw_iff.mp hv
  exact ⟨wf_of_wfD hlease, wf_of_wfD hqueue, fun _ => wf_of_wfD hvol, wf_of_wfD hstore, hs, hrest, hwork⟩

theorem GrantLaw.volumeLaw (h : GrantLaw s) : volumeLaw s := volumeLaw_iff.mpr ⟨h.rest, h.work⟩

/-! ## Operations that leave it as it is -/

/-- What the laws read of an intent. -/
def Intent.gist (i : Intent) : IntentKind × QueueId × List Effect := (i.kind, i.queue, i.effects)

/-- Every grant after comes of one before, STAGED if it is, with its volume, owner and epoch. -/
def grantsFrom (a b : Table Grant) : Prop :=
  ∀ e ∈ b, ∃ x ∈ a, (e.2.isStaged = true → x.2.isStaged = true) ∧ x.2.volume = e.2.volume ∧ x.2.owner = e.2.owner ∧
    x.2.epoch = e.2.epoch

/-- Two states agree on what is under way; in the log an intent may have gone on. -/
structure SameFlow (s u : State) : Prop where
  mode : u.mode = s.mode
  rest : s.queues = [] → s.shelf = .empty → u.queues = [] ∧ u.shelf = .empty
  queue : ∀ q, (u.queue q).flight = (s.queue q).flight ∧
    ∀ i ∈ (u.queue q).waiting, ∃ j ∈ (s.queue q).waiting, j.request = i.request
  logWait : u.logWait.map Intent.gist = s.logWait.map Intent.gist
  log : u.log.map (fun l => l.intent.gist) = s.log.map (fun l => l.intent.gist)
  fresh : ∀ l ∈ u.log, l.applied = 0 → ∃ j ∈ s.log, j.applied = 0 ∧ j.intent.gist = l.intent.gist
  deletions : u.deletionsDue ++ u.admissionWait = s.deletionsDue ++ s.admissionWait

/-- They agree on the life of each volume too. -/
structure SameWork (s u : State) : Prop extends SameFlow s u where
  volume : ∀ v, (u.volume v).state = (s.volume v).state ∧ ((u.volume v).deletion = none ↔ (s.volume v).deletion = none)
  volumes : Table.wf s.volumes = true → Table.wf u.volumes = true

/-- An operation that makes no grant, keeps the holder and epoch of each lease, and leaves what is under way as it was or the
part FROZEN. -/
structure Calm (s u : State) : Prop where
  grants : grantsFrom s.grants u.grants
  holder : ∀ v, (u.lease v).hold.holder? = (s.lease v).hold.holder? ∧ (u.lease v).epoch = (s.lease v).epoch
  leases : Table.wf s.leases = true → Table.wf u.leases = true
  queues : Table.wf s.queues = true → Table.wf u.queues = true
  store : Table.wf s.store.volumes = true → Table.wf u.store.volumes = true
  work : u.mode = .frozen ∨ SameWork s u

theorem grantsFrom_refl (a : Table Grant) : grantsFrom a a := fun e he => ⟨e, he, id, rfl, rfl, rfl⟩

theorem grantsFrom_of_subset {a b : Table Grant} (h : b ⊆ a) : grantsFrom a b :=
  fun e he => ⟨e, h he, id, rfl, rfl, rfl⟩

theorem grantsFrom_trans {a b c : Table Grant} (h : grantsFrom a b) (k : grantsFrom b c) : grantsFrom a c := by
  intro e he
  obtain ⟨x, hx, hs, hv, ho, hp⟩ := k e he
  obtain ⟨y, hy, hs', hv', ho', hp'⟩ := h x hx
  exact ⟨y, hy, fun h => hs' (hs h), hv'.trans hv, ho'.trans ho, hp'.trans hp⟩

theorem grantsFrom_nil {b : Table Grant} (h : grantsFrom [] b) : b = [] := by
  rw [List.eq_nil_iff_forall_not_mem]
  intro e he
  obtain ⟨x, hx, -⟩ := h e he
  cases hx

theorem SameFlow.refl (s : State) : SameFlow s s :=
  ⟨rfl, fun h k => ⟨h, k⟩, fun _ => ⟨rfl, fun i hi => ⟨i, hi, rfl⟩⟩, rfl, rfl, fun l hl ha => ⟨l, hl, ha, rfl⟩, rfl⟩

theorem SameWork.refl (s : State) : SameWork s s := ⟨SameFlow.refl s, fun _ => ⟨rfl, Iff.rfl⟩, id⟩

theorem SameFlow.trans (h : SameFlow s b) (k : SameFlow b u) : SameFlow s u where
  mode := k.mode.trans h.mode
  rest hq hs := (h.rest hq hs).elim k.rest
  queue q := by
    refine ⟨(k.queue q).1.trans (h.queue q).1, fun i hi => ?_⟩
    obtain ⟨j, hj, hji⟩ := (k.queue q).2 i hi
    obtain ⟨x, hx, hxj⟩ := (h.queue q).2 j hj
    exact ⟨x, hx, hxj.trans hji⟩
  logWait := k.logWait.trans h.logWait
  log := k.log.trans h.log
  fresh l hl ha := by
    obtain ⟨j, hj, haj, hjl⟩ := k.fresh l hl ha
    obtain ⟨x, hx, hax, hxj⟩ := h.fresh j hj haj
    exact ⟨x, hx, hax, hxj.trans hjl⟩
  deletions := k.deletions.trans h.deletions

theorem SameWork.trans (h : SameWork s b) (k : SameWork b u) : SameWork s u where
  toSameFlow := h.toSameFlow.trans k.toSameFlow
  volume v := ⟨(k.volume v).1.trans (h.volume v).1, (k.volume v).2.trans (h.volume v).2⟩
  volumes hw := k.volumes (h.volumes hw)

theorem Calm.refl (s : State) : Calm s s :=
  ⟨grantsFrom_refl _, fun _ => ⟨rfl, rfl⟩, id, id, id, Or.inr (SameWork.refl s)⟩

theorem Calm.trans (h : Calm s b) (k : Calm b u) : Calm s u where
  grants := grantsFrom_trans h.grants k.grants
  holder v := ⟨(k.holder v).1.trans (h.holder v).1, (k.holder v).2.trans (h.holder v).2⟩
  leases hw := k.leases (h.leases hw)
  queues hw := k.queues (h.queues hw)
  store hw := k.store (h.store hw)
  work := by
    rcases k.work with hk | hk
    · exact Or.inl hk
    · rcases h.work with hh | hh
      · exact Or.inl (hk.mode.trans hh)
      · exact Or.inr (hh.trans hk)

theorem Calm.ite {c : Prop} [Decidable c] {x y : State} (hx : Calm s x) (hy : Calm s y) : Calm s (if c then x else y) := by
  split
  · exact hx
  · exact hy

theorem Calm.foldl {α : Type} {f : State → α → State} (hf : ∀ b a, Calm b (f b a)) (l : List α) (s : State) :
    Calm s (l.foldl f s) := by
  induction l generalizing s with
  | nil => exact Calm.refl s
  | cons a l ih => exact (hf s a).trans (ih (f s a))

/-! ## What is under way, read by gist -/

theorem lawful_of_gist {i j : Intent} (h : i.gist = j.gist) : i.lawful = j.lawful := by
  obtain ⟨kind, queue, origin, requester, effects, forming⟩ := i
  obtain ⟨kind', queue', origin', requester', effects', forming'⟩ := j
  cases h
  rfl

/-- An element of a list whose image under a map stands in another. -/
theorem exists_of_map_eq {α β : Type} {f : α → β} {l m : List α} (h : l.map f = m.map f) {a : α} (ha : a ∈ l) :
    ∃ x ∈ m, f x = f a := List.mem_map.mp (h ▸ List.mem_map_of_mem (f := f) ha)

theorem SameFlow.liveIntents (h : SameFlow s u) : (liveIntents u).map Intent.gist = (liveIntents s).map Intent.gist := by
  unfold Machine.liveIntents
  rw [List.map_append, List.map_append, h.logWait, List.map_map, List.map_map]
  exact congrArg _ h.log

theorem SameFlow.heldQueues (h : SameFlow s u) : heldQueues u = heldQueues s := by
  have hl := congrArg (List.map (fun g => g.2.1)) h.liveIntents
  rw [List.map_map, List.map_map] at hl
  unfold Machine.heldQueues
  rw [h.deletions]
  exact congrArg (· ++ _) hl

theorem SameFlow.holdsQueue (h : SameFlow s u) {v : Nat} {k : IntentKind} (hu : holdsQueue u v k) : holdsQueue s v k := by
  obtain ⟨i, hi, hq, hk⟩ := hu
  obtain ⟨j, hj, hji⟩ := exists_of_map_eq h.liveIntents hi
  exact ⟨j, hj, (congrArg (fun g => g.2.1) hji).trans hq, (congrArg Prod.fst hji).trans hk⟩

theorem removes_iff {v : Nat} : removes s v ↔
    v ∈ s.deletionsDue ++ s.admissionWait ∨ holdsQueue s v .deleteBatch ∨ holdsQueue s v .deleteEnd := by
  rw [List.mem_append, or_assoc]
  rfl

theorem SameFlow.removes (h : SameFlow s u) {v : Nat} (hu : removes u v) : removes s v := by
  rw [removes_iff, h.deletions] at hu
  exact removes_iff.mpr (hu.imp_right (Or.imp h.holdsQueue h.holdsQueue))

/-- A volume whose life is as it was still fits what is under way. -/
theorem SameFlow.volumeOk (h : SameFlow s u) (hg : grantsFrom s.grants u.grants) {v : Nat}
    (hv : (u.volume v).state = (s.volume v).state ∧ ((u.volume v).deletion = none ↔ (s.volume v).deletion = none))
    (hs : VolumeOk v s) : VolumeOk v u where
  toCreate i hi hk hq := by
    obtain ⟨j, hj, hji⟩ := exists_of_map_eq h.logWait hi
    rw [hv.1]
    exact hs.toCreate j hj ((congrArg Prod.fst hji).trans hk) ((congrArg (fun g => g.2.1) hji).trans hq)
  creating l hl ha hk hq := by
    obtain ⟨j, hj, haj, hjl⟩ := h.fresh l hl ha
    rw [hv.1]
    exact hs.creating j hj haj ((congrArg Prod.fst hjl).trans hk) ((congrArg (fun g => g.2.1) hjl).trans hq)
  deleting hd := by
    obtain ⟨hr, hst⟩ := hs.deleting (hd.imp h.removes h.holdsQueue)
    rw [hv.1]
    exact ⟨fun hn => hr (hv.2.mp hn), hst⟩
  staged e he hst hev := by
    obtain ⟨x, hx, hxs, hxv, -, -⟩ := hg e he
    obtain ⟨ha, hr⟩ := hs.staged x hx (hxs hst) (hxv.trans hev)
    rw [hv.1]
    exact ⟨ha, fun hu => hr (h.removes hu)⟩

/-- What is under way as it was keeps the law, where every volume fits it. -/
theorem SameFlow.workLaw (h : SameFlow s u) (hr : ∀ v, VolumeOk v u) (hs : WorkLaw s) : WorkLaw u where
  nodup := h.heldQueues ▸ hs.nodup
  flight q hq := by
    rw [(h.queue q).1]
    exact hs.flight q (h.heldQueues ▸ hq)
  waiting q i hi := by
    obtain ⟨j, hj, hji⟩ := (h.queue q).2 i hi
    rw [← hji]
    exact hs.waiting q j hj
  intents i hi := by
    obtain ⟨j, hj, hji⟩ := exists_of_map_eq h.liveIntents hi
    rw [← lawful_of_gist hji]
    exact hs.intents j hj
  record := hr

theorem SameWork.workLaw (h : SameWork s u) (hg : grantsFrom s.grants u.grants) (hs : WorkLaw s) : WorkLaw u :=
  h.toSameFlow.workLaw (fun v => h.volumeOk hg (h.volume v) (hs.record v)) hs

theorem SameFlow.atRest (h : SameFlow s u) (hg : grantsFrom s.grants u.grants) (hs : AtRest s) : AtRest u := by
  obtain ⟨hq, hsh⟩ := h.rest hs.queues hs.shelf
  have hd := h.deletions
  rw [hs.due, hs.paused, List.append_nil, List.append_eq_nil_iff] at hd
  have hl := h.log
  have hw := h.logWait
  rw [hs.log, List.map_nil, List.map_eq_nil_iff] at hl
  rw [hs.logWait, List.map_nil, List.map_eq_nil_iff] at hw
  exact ⟨hl, hw, hq, hsh, grantsFrom_nil (hs.grants ▸ hg), hd.1, hd.2⟩

theorem stagedLaw_of {s u : State} (hg : grantsFrom s.grants u.grants)
    (hl : ∀ v, (u.lease v).hold.holder? = (s.lease v).hold.holder? ∧ (u.lease v).epoch = (s.lease v).epoch)
    (hs : stagedLaw s) : stagedLaw u := by
  intro e he hst
  obtain ⟨x, hx, hxs, hv, ho, hp⟩ := hg e he
  obtain ⟨h1, h2⟩ := hs x hx (hxs hst)
  rw [(hl _).1, (hl _).2, ← hv, ← ho, ← hp]
  exact ⟨h1, h2⟩

/-- A calm operation keeps the laws. -/
theorem Calm.law (h : Calm s u) (hs : GrantLaw s) : GrantLaw u where
  leases := h.leases hs.leases
  queues := h.queues hs.queues
  volumes hm := by
    rcases h.work with hf | hw
    · rw [hf] at hm; cases hm
    · exact hw.volumes (hs.volumes (hw.mode ▸ hm))
  store := h.store hs.store
  staged := stagedLaw_of h.grants h.holder hs.staged
  rest hm := by
    rcases h.work with hf | hw
    · rw [hf] at hm; cases hm
    · exact hw.atRest h.grants (hs.rest (hw.mode ▸ hm))
  work hm := by
    rcases h.work with hf | hw
    · rw [hf] at hm; cases hm
    · exact hw.workLaw h.grants (hs.work (hw.mode ▸ hm))

/-! ## Fields that the laws do not read -/

/-- The state without the fields that the laws do not read. -/
def State.eraseIdle (s : State) : State :=
  { s with
    bootCount := 0, resetCause := .power, freezeCause := none, faults := .clear, faultsMet := 0, poison := [], writeBacks := []
    recovery := .idle, timing := .factory, runningPeriod := .ms1, heads := Vector.replicate 4 .absent
    fences := Vector.replicate 4 .asserted, ports := Vector.replicate 4 .down, watches := [], tenants := [], maps := []
    spans := Vector.replicate 16 .absent, pools := Vector.replicate 8 .empty, serial := 0, generation := 0, grace := []
    promises := 0, stall := .stopped, sequence := 0, store := { MapStore.factory with volumes := s.store.volumes }
    pending := [] }

theorem SameFlow.of_idle (h : u.eraseIdle = s.eraseIdle) : SameFlow s u := by
  have keep {γ : Type} (g : State → γ) (hg : ∀ t : State, g t.eraseIdle = g t := by intro; rfl) : g u = g s :=
    keeps_of_erase g h hg
  have hl : u.log = s.log := keep State.log
  have hq : u.queue = s.queue := keep State.queue (fun t => by funext q; cases q <;> rfl)
  refine ⟨keep State.mode, fun h k => ⟨(keep State.queues).trans h, (keep State.shelf).trans k⟩, fun q => ?_,
    congrArg _ (keep State.logWait), congrArg _ hl, fun l hm ha => ⟨l, hl ▸ hm, ha, rfl⟩, ?_⟩
  · rw [hq]
    exact ⟨rfl, fun i hi => ⟨i, hi, rfl⟩⟩
  · rw [keep State.deletionsDue, keep State.admissionWait]

theorem SameWork.of_idle (h : u.eraseIdle = s.eraseIdle) : SameWork s u := by
  have keep {γ : Type} (g : State → γ) (hg : ∀ t : State, g t.eraseIdle = g t := by intro; rfl) : g u = g s :=
    keeps_of_erase g h hg
  refine ⟨SameFlow.of_idle h, fun v => ?_, fun h => ?_⟩
  · rw [keep State.volume]
    exact ⟨rfl, Iff.rfl⟩
  · rwa [keep State.volumes]

theorem Calm.of_idle (h : u.eraseIdle = s.eraseIdle) : Calm s u := by
  have keep {γ : Type} (g : State → γ) (hg : ∀ t : State, g t.eraseIdle = g t := by intro; rfl) : g u = g s :=
    keeps_of_erase g h hg
  refine ⟨?_, fun v => ?_, fun h => ?_, fun h => ?_, fun h => ?_, Or.inr (SameWork.of_idle h)⟩
  · rw [keep State.grants]
    exact grantsFrom_refl _
  · rw [keep State.lease]
    exact ⟨rfl, rfl⟩
  · rwa [keep State.leases]
  · rwa [keep State.queues]
  · rwa [keep (fun t => t.store.volumes)]

/-- A calm operation behind one that touches only what the laws do not read. -/
theorem Calm.after (h : Calm b u) (hb : b.eraseIdle = s.eraseIdle := by rfl) : Calm s u := (Calm.of_idle hb).trans h

theorem GrantLaw.of_idle (hs : GrantLaw s) (h : u.eraseIdle = s.eraseIdle := by rfl) : GrantLaw u := (Calm.of_idle h).law hs

theorem idle_of_erasePorts (h : u.erasePorts = s.erasePorts) : u.eraseIdle = s.eraseIdle :=
  keeps_of_erasePorts State.eraseIdle h

theorem idle_of_eraseReport (h : u.eraseReport = s.eraseReport) : u.eraseIdle = s.eraseIdle :=
  keeps_of_eraseReport State.eraseIdle h

theorem idle_of_eraseLevel (h : u.eraseLevel = s.eraseLevel) : u.eraseIdle = s.eraseIdle :=
  keeps_of_erase State.eraseIdle h (fun _ => rfl)

theorem calm_answer (o : Origin) (code : Byte) (outcome : AnswerOutcome) (body : AnswerBody) (s : State) :
    Calm s (answer o code outcome body s) := Calm.of_idle (idle_of_erasePorts (answer_erase _ _ _ _ _))

theorem calm_answer? (o : Option Origin) (code : Byte) (outcome : AnswerOutcome) (body : AnswerBody) (s : State) :
    Calm s (answer? o code outcome body s) := Calm.of_idle (idle_of_erasePorts (answer?_erase _ _ _ _ _))

theorem calm_refuse (o : Origin) (k : RequestKind) (r : Reason) (s : State) : Calm s (refuse o k r s) :=
  calm_answer _ _ _ _ _

theorem calm_addNotice (p : Port) (n : Notice) (s : State) : Calm s (addNotice p n s) :=
  Calm.of_idle (idle_of_erasePorts (addNotice_erase _ _ _))

theorem calm_notifyJoined (but : Option Port) (n : Notice) (s : State) : Calm s (notifyJoined but n s) :=
  Calm.of_idle (idle_of_erasePorts (notifyJoined_erase _ _ _))

theorem calm_reportVolume (v : Nat) (s : State) : Calm s (reportVolume v s) :=
  Calm.of_idle (idle_of_eraseReport (reportVolume_erase _ _))

theorem calm_endWatches (p : Port) (r : Reason) (s : State) : Calm s (endWatches p r s) :=
  Calm.of_idle (idle_of_eraseReport (endWatches_erase _ _ _))

theorem calm_endClaims (p : Port) (r : Reason) (c : List (Nat × Tag)) (s : State) : Calm s (endClaims p r c s) :=
  Calm.of_idle (idle_of_erasePorts (endClaims_erase _ _ _ _))

theorem calm_judgeLevel (k : PoolId) (s : State) : Calm s (judgeLevel k s) :=
  Calm.of_idle (idle_of_eraseLevel (judgeLevel_erase _ _))

/-! ## One record -/

theorem wf_setD {α : Type} [DecidableEq α] (d : α) (n : Nat) (a : α) (t : Table α) (h : Table.wf t = true) :
    Table.wf (Table.setD d n a t) = true := by
  unfold Table.setD
  split
  · exact Table.wf_erase t n h
  · exact Table.wf_insert t n a h

/-- A volume's record changes in nothing that the laws read. -/
theorem calm_setVolume {v : Nat} {r : Volume} {s : State} (hs : r.state = (s.volume v).state)
    (hd : r.deletion = none ↔ (s.volume v).deletion = none) : Calm s (s.setVolume v r) :=
  { Calm.refl s with
    work := Or.inr { SameWork.refl s with
      volume := fun w => by
        rw [volume_setVolume]
        split
        · subst_vars
          exact ⟨hs, hd⟩
        · exact ⟨rfl, Iff.rfl⟩
      volumes := wf_setD _ _ _ _ } }

theorem calm_updateVolume (v : Nat) (f : Volume → Volume) (s : State)
    (hs : ∀ r, (f r).state = r.state := by intro; rfl)
    (hd : ∀ r, (f r).deletion = none ↔ r.deletion = none := by intro; rfl) : Calm s (s.updateVolume v f) :=
  calm_setVolume (hs _) (hd _)

theorem calm_updateTenant (t : Nat) (f : Tenant → Tenant) (s : State) : Calm s (s.updateTenant t f) := Calm.of_idle rfl

theorem calm_updatePool (k : PoolId) (f : Pool → Pool) (s : State) : Calm s (s.updatePool k f) := Calm.of_idle rfl

theorem calm_updateDeletion (v : Nat) (f : Deletion → Deletion) (s : State) : Calm s (updateDeletion v f s) :=
  calm_updateVolume v (fun r => { r with deletion := r.deletion.map f }) s (hd := fun _ => Option.map_eq_none_iff)

theorem calm_lowerPending (v n : Nat) (s : State) : Calm s (lowerPending v n s) :=
  (calm_updateTenant _ _ s).trans (calm_updateVolume v (fun r => { r with pending := r.pending - n }) _)

theorem calm_raisePending (v n : Nat) (s : State) : Calm s (raisePending v n s) :=
  (calm_updateTenant _ _ s).trans (calm_updateVolume v (fun r => { r with pending := r.pending + n }) _)

theorem calm_raiseMapped (v : Nat) (s : State) : Calm s (raiseMapped v s) :=
  (calm_updateTenant _ _ s).trans (calm_updateVolume v (fun r => { r with mapped := r.mapped + 1 }) _)

theorem calm_lowerMapped (v : Nat) (s : State) : Calm s (lowerMapped v s) :=
  (calm_updateTenant _ _ s).trans (calm_updateVolume v (fun r => { r with mapped := r.mapped - 1 }) _)

theorem calm_setLatch (v : Nat) (x : Bool) (s : State) : Calm s (setLatch v x s) := by
  unfold setLatch
  exact Calm.ite (Calm.refl s) ((calm_updateVolume v (fun r => { r with latch := x }) s).trans (calm_reportVolume v _))

theorem calm_freeGrant (n : Nat) (s : State) : Calm s (s.freeGrant n) :=
  { Calm.refl s with
    grants := grantsFrom_of_subset (List.filter_subset_self s.grants)
    work := Or.inr { SameWork.refl s with } }

/-- A live grant changes in nothing that the laws read, but that it may no longer be STAGED. -/
theorem calm_setGrant {n : Nat} {g x : Grant} {s : State} (hg : s.grant? n = some g)
    (hs : x.isStaged = true → g.isStaged = true) (hv : g.volume = x.volume) (ho : g.owner = x.owner)
    (hp : g.epoch = x.epoch) : Calm s (s.setGrant n x) :=
  { Calm.refl s with
    grants := fun e he => by
      rcases Table.mem_insert _ _ _ _ he with rfl | he
      · exact ⟨(n, g), Table.mem_of_get? _ _ _ hg, hs, hv, ho, hp⟩
      · exact ⟨e, he, id, rfl, rfl, rfl⟩
    work := Or.inr { SameWork.refl s with } }

/-- A lease's record keeps its holder and epoch. -/
theorem calm_setLease {v : Nat} {l : Lease} {s : State} (hh : l.hold.holder? = (s.lease v).hold.holder?)
    (hp : l.epoch = (s.lease v).epoch) : Calm s (s.setLease v l) :=
  { Calm.refl s with
    holder := fun w => by
      rw [lease_setLease]
      split
      · subst_vars
        exact ⟨hh, hp⟩
      · exact ⟨rfl, rfl⟩
    leases := wf_setD _ _ _ _
    work := Or.inr { SameWork.refl s with } }

/-! ## Batches and drops -/

theorem wf_serveList (l : List Nat) (h : Table.wf s.volumes = true) : Table.wf (serveList l s).volumes = true := by
  induction l generalizing s with
  | nil => exact h
  | cons v l ih =>
    unfold serveList
    split
    · exact ih (wf_setD _ _ _ _ h)
    · exact h

theorem sameWork_serveWaiting (s : State) : SameWork s (serveWaiting s) := by
  have keep {γ : Type} (g : State → γ) (hg : ∀ t : State, g t.eraseServe = g t := by intro; rfl) :
      g (serveWaiting s) = g s := serveWaiting_keeps g s hg
  obtain ⟨granted, hw, hd, -, -, hv⟩ := serveList_grants s.admissionWait s
  have hl : (serveWaiting s).log = s.log := keep State.log
  have hq : (serveWaiting s).queue = s.queue := keep State.queue (fun t => by funext q; cases q <;> rfl)
  refine ⟨⟨keep State.mode, fun h k => ⟨(keep State.queues).trans h, (keep State.shelf).trans k⟩, fun q => ?_,
    congrArg _ (keep State.logWait), congrArg _ hl, fun l hm ha => ⟨l, hl ▸ hm, ha, rfl⟩, ?_⟩, fun v => ?_,
    wf_serveList s.admissionWait⟩
  · rw [hq]
    exact ⟨rfl, fun i hi => ⟨i, hi, rfl⟩⟩
  · unfold serveWaiting
    rw [hd, List.append_assoc, ← hw]
  · unfold serveWaiting
    rw [hv]
    unfold unpaused
    split
    · exact ⟨rfl, Option.map_eq_none_iff⟩
    · exact ⟨rfl, Iff.rfl⟩

theorem calm_serveWaiting (s : State) : Calm s (serveWaiting s) := by
  have keep {γ : Type} (g : State → γ) (hg : ∀ t : State, g t.eraseServe = g t := by intro; rfl) :
      g (serveWaiting s) = g s := serveWaiting_keeps g s hg
  refine ⟨?_, fun v => ?_, fun h => ?_, fun h => ?_, fun h => ?_, Or.inr (sameWork_serveWaiting s)⟩
  · rw [keep State.grants]
    exact grantsFrom_refl _
  · rw [keep State.lease]
    exact ⟨rfl, rfl⟩
  · rwa [keep State.leases]
  · rwa [keep State.queues]
  · rwa [keep (fun t => t.store.volumes)]

theorem calm_returnBatch (x : Batch) (rest : List Batch) (s : State) : Calm s (returnBatch x rest s) :=
  Calm.of_idle (judgeLevel_keeps State.eraseIdle x.pool _)

theorem calm_releaseOldest (x : Batch) (rest : List Batch) (s : State) : Calm s (releaseOldest x rest s) :=
  ((calm_returnBatch x rest s).trans (calm_serveWaiting _)).trans (Calm.of_idle rfl)

theorem calm_releaseLoop (n : Nat) (s : State) : Calm s (releaseLoop n s) := by
  induction n generalizing s with
  | zero => exact Calm.refl s
  | succ n ih =>
    unfold releaseLoop
    split
    · exact Calm.refl s
    · exact Calm.ite ((calm_releaseOldest _ _ s).trans (ih _)) (Calm.refl s)

theorem calm_releaseTest (s : State) : Calm s (releaseTest s) := calm_releaseLoop _ s

theorem calm_announceBatch (o : Option Port) (v : Option Nat) (g : Gen) (s : State) : Calm s (announceBatch o v g s) :=
  Calm.of_idle (idle_of_erasePorts (announceBatch_erase _ _ _ _))

theorem calm_batches (g : Gen) (l : List Batch) (x : Stall) (s : State) :
    Calm s { s with generation := g, grace := l, stall := x } := Calm.of_idle rfl

theorem calm_formBatch (k : PoolId) (x : List Extent) (o : Option Port) (v : Option Nat) (s : State) :
    Calm s (formBatch k x o v s) := by
  unfold formBatch
  exact ((calm_batches _ _ _ s).trans (calm_announceBatch _ _ _ _)).trans (calm_releaseTest _)

theorem calm_promises (n : Nat) (s : State) : Calm s { s with promises := n } := Calm.of_idle rfl

theorem calm_formPromised (f : Forming) (o : Option Port) (v : Nat) (s : State) : Calm s (formPromised f o v s) := by
  unfold formPromised
  exact (calm_promises _ s).trans (calm_formBatch _ _ _ _ _)

theorem calm_settleForming (f : Forming) (v : Nat) (s : State) : Calm s (settleForming f v s) := by
  unfold settleForming withdrawPromise
  exact Calm.ite ((calm_promises _ s).trans (calm_serveWaiting _)) (calm_formPromised f none v s)

theorem calm_dropped (n : Nat) (g : Grant) (s : State) : Calm s (dropped n g s) := by
  have h (f : Pool → Pool) : Calm s ((s.freeGrant n).updatePool (s.volume g.volume).pool f) :=
    (calm_freeGrant n s).trans (Calm.of_idle rfl)
  unfold dropped
  dsimp only
  split
  · exact (h _).trans (calm_lowerPending _ _ _)
  · exact h _

theorem calm_dropGrant (o : Option Port) (n : Nat) (s : State) : Calm s (dropGrant o n s) := by
  unfold dropGrant
  split
  · exact Calm.refl s
  · exact (calm_dropped n _ s).trans (calm_formBatch _ _ _ _ _)

theorem calm_dropGrants (o : Option Port) (ns : List Nat) (s : State) : Calm s (dropGrants o ns s) :=
  Calm.foldl (fun x n => calm_dropGrant o n x) ns s

/-! ## Waiters -/

theorem calm_departWaiter (p : Port) (v : Nat) (s : State) : Calm s (departWaiter p v s) := by
  have h : Calm s (s.setLease v ((s.lease v).without p)) := calm_setLease (unlessMarked_holder? _ _) rfl
  rcases departWaiter_eq p v s with e | ⟨q, -, -, e⟩
  · rw [e]
    exact h
  · rw [e]
    exact h.trans (calm_addNotice _ _ _)

theorem calm_departAll (p : Port) (s : State) : Calm s (departAll p s) :=
  Calm.foldl (f := fun s (c : Nat × Tag) => departWaiter p c.1 s) (fun x c => calm_departWaiter p c.1 x) _ s

end Sys2Proof.Machine
end

section
/-! PROOFS. The law of the STAGED grants under the freeze, the reads, the leases, the membership and the time base (R48, R79 to R83,
R100 to R102, R106, R162, R163). -/

namespace Sys2Proof.Machine

open State

variable {s b u : State}

/-! ## The freeze (R162, R163) -/

theorem Calm.frozen (h : Calm s u) (hm : s.mode = .frozen) : u.mode = .frozen := by
  rcases h.work with hf | hw
  · exact hf
  · exact hw.mode.trans hm

/-- A fold of operations that are calm while FROZEN. -/
theorem Calm.foldl_frozen {α : Type} {f : State → α → State} (hf : ∀ b a, b.mode = .frozen → Calm b (f b a)) (l : List α)
    (hm : s.mode = .frozen) : Calm s (l.foldl f s) := by
  induction l generalizing s with
  | nil => exact Calm.refl s
  | cons a l ih => exact (hf s a hm).trans (ih ((hf s a hm).frozen hm))

theorem calm_refuseFrozen (o : Option Origin) (k : RequestKind) (s : State) : Calm s (refuseFrozen o k s) :=
  Calm.of_idle (idle_of_erasePorts (refuseFrozen_erase o k s))

theorem calm_clearClaims (v : Nat) (s : State) : Calm s (clearClaims v s) := by
  unfold clearClaims
  dsimp only
  refine (calm_setLease ?_ ?_).trans (Calm.foldl (fun x w => calm_refuse _ _ _ x) _ _)
  · cases (s.lease v).hold <;> rfl
  · rfl

theorem calm_stopDeletion (v : Nat) (hm : s.mode = .frozen) : Calm s (stopDeletion v s) := by
  rcases stopDeletion_eq v s with h | ⟨o, t, ht, h⟩
  · rw [h]
    exact Calm.refl s
  · have hr := calm_refuseFrozen o .deleteVolume s
    have hc : Calm s t := hr.trans (ht ▸ { Calm.refl _ with work := Or.inl (hr.frozen hm) })
    rcases h with h | h
    · rw [h]
      exact hc
    · rw [h]
      exact hc.trans (calm_clearClaims v t)

theorem calm_stopWork (hm : s.mode = .frozen) : Calm s (stopWork s) := by
  rw [stopWork_eq]
  have hr : Calm s (stopRequests s) := by
    unfold stopRequests
    have ha := Calm.of_idle (idle_of_erasePorts (refuseAll_erase s))
    exact ha.trans (Calm.foldl_frozen (fun x (e : Nat × Volume) hx => calm_stopDeletion e.1 hx) _ (ha.frozen hm))
  have he : Calm (stopRequests s) (emptyQueues (stopRequests s)) :=
    { Calm.refl (stopRequests s) with
      queues := fun _ => rfl
      work := Or.inl (hr.frozen hm) }
  exact (hr.trans he).trans (Calm.foldl (f := fun t (x : Nat × Forming) => settleForming x.2 x.1 t)
    (fun t x => calm_settleForming x.2 x.1 t) _ _)

theorem calm_freeze (cause : FreezeCause) (s : State) : Calm s (freeze cause s) := by
  rw [freeze_eq]
  have h : Calm s (frozenBy cause s) := { Calm.refl s with work := Or.inl rfl }
  exact (h.trans (calm_stopWork rfl)).trans (calm_notifyJoined _ _ _)

/-! ## Faults and reads (R159, R160) -/

/-- The record of a fault, which the laws do not read. -/
theorem calm_storeFault (src : FaultSource) (kind : FaultKind) (area : StoreArea) (s : State) :
    Calm s (storeFault src kind area s) := by
  have hr : Calm s (recordFault src kind (.store area s.faultsMet) { s with faultsMet := s.faultsMet + 1 }) := Calm.of_idle rfl
  unfold storeFault
  refine Calm.ite hr ?_
  split
  · exact hr.trans (calm_freeze _ _)
  · exact hr.trans (Calm.of_idle rfl)
  · exact hr

theorem idle_correctedRead (a : StoreArea) (s : State) : (correctedRead a s).eraseIdle = s.eraseIdle := rfl

theorem calm_correctedRead (a : StoreArea) (s : State) : Calm s (correctedRead a s) := Calm.of_idle (idle_correctedRead a s)

theorem calm_poisonedRead (v i : Nat) (s : State) : Calm s (poisonedRead v i s) :=
  (calm_storeFault .mapStore .uncorrectable (.entry v i) { s with poison := insertPair v i s.poison }).after

theorem calm_readCells (v : Nat) (l : List (Nat × ReadFault)) (s : State) : Calm s (readCells v l s).1 := by
  induction l generalizing s with
  | nil => exact Calm.refl s
  | cons e l ih =>
    obtain ⟨i, f⟩ := e
    cases f with
    | corrected => exact (calm_correctedRead _ s).trans (ih _)
    | uncorrectable => exact calm_poisonedRead v i s

theorem calm_of_readCells {v : Nat} {l : List (Nat × ReadFault)} {x : Bool} (h : readCells v l s = (u, x)) : Calm s u := by
  have := calm_readCells v l s
  rwa [h] at this

/-- Reads that are all good or corrected change nothing that the laws read. -/
theorem idle_of_readCells {v : Nat} {l : List (Nat × ReadFault)} (h : readCells v l s = (u, true)) :
    u.eraseIdle = s.eraseIdle := by
  induction l generalizing s with
  | nil => cases h; rfl
  | cons e l ih =>
    obtain ⟨i, f⟩ := e
    cases f with
    | corrected => exact (ih h).trans (idle_correctedRead _ s)
    | uncorrectable => cases h

theorem calm_resolveCells (v : Nat) (l : List (Nat × ReadFault)) (s : State) : Calm s (resolveCells v l s) := by
  induction l generalizing s with
  | nil => exact Calm.refl s
  | cons e l ih =>
    obtain ⟨i, f⟩ := e
    cases f with
    | corrected => exact (calm_correctedRead _ s).trans (ih _)
    | uncorrectable => exact (calm_poisonedRead v i s).trans (ih _)

/-! ## Leases (R75, R79, R80) -/

/-- No STAGED grant names the volume. -/
def unstaged (v : Nat) (s : State) : Prop := ∀ e ∈ s.grants, e.2.isStaged = true → e.2.volume ≠ v

theorem unstaged_of_grants {v : Nat} (h : grantsFrom s.grants u.grants) (hs : unstaged v s) : unstaged v u := by
  intro e he hst
  obtain ⟨x, hx, hxs, hv, -, -⟩ := h e he
  rw [← hv]
  exact hs x hx (hxs hst)

/-- The holder of a lease has all the STAGED grants on its volume (R48). -/
theorem owner_of_staged {e : Nat × Grant} {p : Port} (hs : stagedLaw s) (he : e ∈ s.grants) (hst : e.2.isStaged = true)
    (hh : (s.lease e.2.volume).hold.holder? = some p) : e.2.owner = p :=
  Option.some.inj ((hs e he hst).1.symm.trans hh)

theorem unstaged_of_unheld {v : Nat} (hs : stagedLaw s) (hh : (s.lease v).hold.holder? = none) : unstaged v s := by
  rintro e he hst rfl
  exact Option.some_ne_none _ ((hs e he hst).1.symm.trans hh)

/-- A lease record is replaced while no STAGED grant rests on it. -/
theorem grantLaw_setLease {v : Nat} (l : Lease) (hn : unstaged v s) (hs : GrantLaw s) : GrantLaw (s.setLease v l) where
  leases := wf_setD _ _ _ _ hs.leases
  queues := hs.queues
  volumes := hs.volumes
  store := hs.store
  staged e he hst := by
    rw [lease_setLease, if_neg (hn e he hst).symm]
    exact hs.staged e he hst
  rest hm := SameFlow.atRest { SameFlow.refl s with } (grantsFrom_refl _) (hs.rest hm)
  work hm := SameWork.workLaw { SameWork.refl s with } (grantsFrom_refl _) (hs.work hm)

theorem grantLaw_passLease {v : Nat} (w : Waiter) (rest : List Waiter) (orphan : Bool) (hn : unstaged v s) (hs : GrantLaw s) :
    GrantLaw (passLease v w rest orphan s) := by
  unfold passLease
  refine (calm_reportVolume v _).law ?_
  have ha (l : Lease) (x : AnswerBody) := (calm_answer ⟨w.port, w.tag⟩ RequestKind.claim.code .granted x _).law
    (grantLaw_setLease l hn hs)
  dsimp only
  split
  · exact ha _ _
  · exact (calm_addNotice _ _ _).law (ha _ _)

theorem grantLaw_loseLease {v : Nat} (orphan : Bool) (empty : Hold) (hn : unstaged v s) (hs : GrantLaw s) :
    GrantLaw (loseLease v orphan empty s) := by
  unfold loseLease
  split
  · exact grantLaw_passLease _ _ _ hn hs
  · exact (calm_reportVolume v _).law (grantLaw_setLease _ hn hs)

theorem grantLaw_loseLeases (orphan : Bool) (empty : Hold) (l : List Nat) (hn : ∀ v ∈ l, unstaged v s) (hs : GrantLaw s) :
    GrantLaw (l.foldl (fun s v => loseLease v orphan empty s) s) := by
  induction l generalizing s with
  | nil => exact hs
  | cons v l ih =>
    have hg : (loseLease v orphan empty s).grants = s.grants :=
      keeps_of_erase State.grants (loseLease_erase v orphan empty s) (fun _ => rfl)
    refine ih (fun w hw => ?_) (grantLaw_loseLease orphan empty (hn v List.mem_cons_self) hs)
    exact unstaged_of_grants (hg ▸ grantsFrom_refl _) (hn w (List.mem_cons_of_mem v hw))

/-- A listed record is the record of its volume. -/
theorem lease_of_mem (hw : Table.wf s.leases = true) {e : Nat × Lease} (he : e ∈ s.leases) : s.lease e.1 = e.2 :=
  congrArg (fun x => Option.getD x Lease.fresh) (Table.get?_of_mem s.leases e.1 e.2 hw he)

theorem heldBy_iff {l : Lease} {p : Port} : l.heldBy p = true ↔ l.hold.holder? = some p := decide_eq_true_iff

theorem holder_of_heldVolumes {p : Port} {v : Nat} (hw : Table.wf s.leases = true) (hv : v ∈ heldVolumes s p) :
    (s.lease v).hold.holder? = some p := by
  obtain ⟨e, he, rfl⟩ := List.mem_map.mp hv
  obtain ⟨hes, hep⟩ := List.mem_filter.mp he
  rw [lease_of_mem hw hes]
  exact heldBy_iff.mp hep

/-- Of the STAGED grants that meet a test, a drop leaves none (R65, R66). -/
theorem dropGrants_left (o : Option Port) (f : Grant → Bool) (s : State) :
    ∀ e ∈ (dropGrants o (s.stagedGrants f) s).grants, e.2.isStaged = true → f e.2 = false := by
  intro e he hst
  rw [dropGrants_grants] at he
  obtain ⟨hes, hen⟩ := List.mem_filter.mp he
  rw [← Bool.not_eq_true]
  intro hf
  refine of_decide_eq_true hen (List.mem_map.mpr ⟨e, List.mem_filter.mpr ⟨hes, ?_⟩, rfl⟩)
  rw [hst, hf]
  rfl

/-- The drop of a head's STAGED grants leaves none on the volumes whose lease it holds. -/
theorem unstaged_heldVolumes (o : Option Port) (p : Port) (hs : GrantLaw s) :
    ∀ v ∈ heldVolumes (dropGrants o (stagedOf s p) s) p, unstaged v (dropGrants o (stagedOf s p) s) := by
  have hd := (calm_dropGrants o (stagedOf s p) s).law hs
  rintro v hv e he hst rfl
  have hp := dropGrants_left o (fun g => decide (g.owner = p)) s e he hst
  exact of_decide_eq_false hp (owner_of_staged hd.staged he hst (holder_of_heldVolumes hd.leases hv))

/-- The drop of a holder's STAGED grants on a volume leaves none on it. -/
theorem unstaged_stagedOn (o : Option Port) {p : Port} {v : Nat} (hh : (s.lease v).hold.holder? = some p) (hs : GrantLaw s) :
    unstaged v (dropGrants o (stagedOn s p v) s) := by
  have hc := calm_dropGrants o (stagedOn s p v) s
  rintro e he hst rfl
  have hp := dropGrants_left o (fun g => decide (g.owner = p ∧ g.volume = e.2.volume)) s e he hst
  exact of_decide_eq_false hp ⟨owner_of_staged (hc.law hs).staged he hst ((hc.holder _).1.trans hh), rfl⟩

/-! ## Membership (R96 to R102) -/

theorem calm_setHead (p : Port) (h : Head) (s : State) : Calm s (setHead p h s) := Calm.of_idle rfl

theorem calm_joinHead (p : Port) (i : BitVec 32) (s : State) : Calm s (joinHead p i s) := Calm.of_idle rfl

/-- What a departing head leaves: its STAGED grants, then its leases (R101, R102). -/
theorem grantLaw_departed (p : Port) (h : Head) (orphan : Bool) (empty : Hold) (hs : GrantLaw s) :
    GrantLaw ((heldVolumes (dropGrants none (stagedOf (setHead p h s) p) (setHead p h s)) p).foldl
      (fun s v => loseLease v orphan empty s) (dropGrants none (stagedOf (setHead p h s) p) (setHead p h s))) := by
  have ha := (calm_setHead p h s).law hs
  exact grantLaw_loseLeases _ _ _ (unstaged_heldVolumes none p ha) ((calm_dropGrants none _ _).law ha)

theorem grantLaw_lapse (p : Port) (hs : GrantLaw s) : GrantLaw (lapse p s) := by
  unfold lapse
  split
  · refine (calm_releaseTest _).law ((calm_notifyJoined _ _ _).law ((calm_endWatches _ _ _).law ?_))
    exact (calm_endClaims _ _ _ _).law ((calm_departAll _ _).law (grantLaw_departed p _ true .orphaned hs))
  · exact hs
  · exact hs

theorem grantLaw_leaveHead (p : Port) (hs : GrantLaw s) : GrantLaw (leaveHead p s) := by
  unfold leaveHead
  refine (calm_releaseTest _).law ((calm_endWatches _ _ _).law ?_)
  exact (calm_endClaims _ _ _ _).law ((calm_departAll _ _).law (grantLaw_departed p _ false .free hs))

theorem calm_watches (l : List Watch) (s : State) : Calm s { s with watches := l } := Calm.of_idle rfl

/-! ## The loss of a link (R151, R178) -/

theorem gist_stripIntent (p : Port) (i : Intent) : (stripIntent p i).gist = i.gist := by
  unfold stripIntent
  split <;> rfl

theorem request_of_stripItem {p : Port} {i j : Item} (h : stripItem p i = some j) : j.request = i.request := by
  unfold stripItem at h
  split at h
  · split at h
    · cases h; rfl
    · cases h
  · cases h; rfl

theorem wf_map {α β : Type} (f : Nat × α → β) (t : Table α) (h : Table.wf t = true) :
    Table.wf (t.map (fun e => (e.1, f e))) = true := by
  unfold Table.wf at h ⊢
  rwa [List.map_map]

theorem wf_stripQueues (p : Port) (l : Table ChangeQueue) (h : Table.wf s.queues = true) :
    Table.wf (l.foldl (fun s e => s.setQueue (.volume e.1) (stripQueue p e.2)) s).queues = true := by
  induction l generalizing s with
  | nil => exact h
  | cons e l ih => exact ih (s := s.setQueue (.volume e.1) (stripQueue p e.2)) (wf_setD _ _ _ _ h)

theorem calm_stripWork (p : Port) (hw : Table.wf s.queues = true) : Calm s (stripWork p s) := by
  have hwork : SameWork s (stripWork p s) := by
    refine ⟨⟨stripWork_keeps State.mode p s, fun hq hsh => ⟨?_, ?_⟩, fun q => ?_, ?_, ?_, fun l hl ha => ?_, ?_⟩, fun v => ?_,
      fun h => ?_⟩
    · unfold stripWork
      rw [hq]
      exact hq
    · show stripQueue p s.shelf = .empty
      rw [hsh]
      rfl
    · rw [stripWork_queue hw]
      refine ⟨rfl, fun i hi => ?_⟩
      obtain ⟨j, hj, hji⟩ := List.mem_filterMap.mp hi
      exact ⟨j, hj, (request_of_stripItem hji).symm⟩
    · show (s.logWait.map (stripIntent p)).map Intent.gist = _
      rw [List.map_map]
      exact List.map_congr_left (fun i _ => gist_stripIntent p i)
    · show (s.log.map (fun l => { l with intent := stripIntent p l.intent })).map (fun l => l.intent.gist) = _
      rw [List.map_map]
      exact List.map_congr_left (fun l _ => gist_stripIntent p l.intent)
    · obtain ⟨j, hj, rfl⟩ := List.mem_map.mp hl
      exact ⟨j, hj, ha, (gist_stripIntent p j.intent).symm⟩
    · rw [stripWork_keeps State.deletionsDue, stripWork_keeps State.admissionWait]
    · rw [stripWork_volume]
      exact ⟨rfl, Option.map_eq_none_iff⟩
    · exact wf_map (fun e => { e.2 with deletion := e.2.deletion.map (stripDeletion p) }) s.volumes h
  refine ⟨?_, fun v => ?_, fun h => ?_, fun _ => wf_stripQueues p s.queues hw, fun h => ?_, Or.inr hwork⟩
  · rw [stripWork_keeps State.grants]
    exact grantsFrom_refl _
  · rw [stripWork_keeps State.lease]
    exact ⟨rfl, rfl⟩
  · rwa [stripWork_keeps State.leases]
  · rwa [stripWork_keeps (fun t => t.store.volumes)]

theorem grantLaw_loseLink (p : Port) (hs : GrantLaw s) : GrantLaw (loseLink p s) := by
  unfold loseLink
  refine (calm_addNotice _ _ _).law ((calm_watches _ _).law ((calm_departAll p _).law ?_))
  have ha : GrantLaw (s.updatePort p HeadPort.lostLink) := hs.of_idle
  exact (calm_stripWork p ha.queues).law ha

/-! ## The tick (R63, R82, R106) -/

theorem ticked_staged (g : Grant) : g.ticked.isStaged = g.isStaged ∧ g.ticked.volume = g.volume ∧ g.ticked.owner = g.owner ∧
    g.ticked.epoch = g.epoch := by
  unfold Grant.ticked Grant.isStaged
  cases h : g.state with
  | staged c => exact ⟨rfl, rfl, rfl, rfl⟩
  | binding => exact ⟨by rw [h], rfl, rfl, rfl⟩

theorem ticked_holder (l : Lease) : l.ticked.hold.holder? = l.hold.holder? ∧ l.ticked.epoch = l.epoch := by
  obtain ⟨hold, epoch, waiters⟩ := l
  cases hold <;> exact ⟨rfl, rfl⟩

theorem calm_tickAll (s : State) : Calm s (tickAll s) where
  grants e he := by
    obtain ⟨x, hx, rfl⟩ := List.mem_map.mp he
    obtain ⟨hs, hv, ho, hp⟩ := ticked_staged x.2
    exact ⟨x, hx, hs.symm.trans, hv.symm, ho.symm, hp.symm⟩
  holder v := by
    rw [tick_lease]
    exact ticked_holder _
  leases := wf_map (fun e : Nat × Lease => e.2.ticked) s.leases
  queues := id
  store := id
  work := Or.inr { SameWork.refl s with }

/-! ## Expiries -/

theorem grantLaw_expireLiveness (hs : GrantLaw s) : GrantLaw (expireLiveness s) := by
  unfold expireLiveness
  split
  · exact grantLaw_lapse _ hs
  · exact hs

theorem calm_expireGrant (s : State) : Calm s (expireGrant s) := by
  unfold expireGrant
  split
  · exact calm_dropGrant _ _ s
  · exact Calm.refl s

theorem holder_of_expired {h : Hold} {p : Port} (he : h.expired? = some p) : h.holder? = some p := by
  cases h with
  | recalling q c =>
    cases c with
    | zero => exact he
    | succ c => cases he
  | free => cases he
  | held q => cases he
  | orphaned => cases he

theorem grantLaw_expireRecall (hs : GrantLaw s) : GrantLaw (expireRecall s) := by
  unfold expireRecall
  split
  · rename_i r hr
    obtain ⟨e, he, hx⟩ := List.exists_of_findSome?_eq_some hr
    obtain ⟨p, hp, rfl⟩ := Option.map_eq_some_iff.mp hx
    have hh : (s.lease e.1).hold.holder? = some p := by
      rw [lease_of_mem hs.leases he]
      exact holder_of_expired hp
    unfold recallFrom
    exact (calm_addNotice _ _ _).law
      (grantLaw_loseLease false .free (unstaged_stagedOn none hh hs) ((calm_dropGrants none _ s).law hs))
  · exact hs

theorem calm_expireQuiet (s : State) : Calm s (expireQuiet s) := by
  unfold expireQuiet
  split
  · unfold warnLagging
    dsimp only
    exact (Calm.foldl (fun x p => calm_addNotice p _ x) _ _).after
  all_goals exact Calm.refl s

theorem grantLaw_expireWarned (hs : GrantLaw s) : GrantLaw (expireWarned s) := by
  unfold expireWarned
  split
  · exact List.foldlRecOn (motive := GrantLaw) _ _ hs (fun x hx p _ => by split; exacts [grantLaw_lapse p hx, hx])
  all_goals exact hs

theorem calm_expireWatch (s : State) : Calm s (expireWatch s) := by
  unfold expireWatch timeoutWatch
  split
  · exact (calm_answer _ _ _ _ _).after
  · exact Calm.refl s

end Sys2Proof.Machine
end

section
/-! PROOFS. The law of the volumes when less is under way than before, and when one thing more is: the front of a free queue goes in
flight (R22 to R25, R142, R146). -/

namespace Sys2Proof.Machine

open State

variable {s b u : State}

/-! ## Less under way -/

/-- An operation that makes no grant, keeps each lease's holder and epoch and each volume's life, and leaves no more under way than
there was. A request that comes to wait is lawful, and a queue that is still held stays in flight. -/
structure Less (s u : State) : Prop where
  grants : grantsFrom s.grants u.grants
  holder : ∀ v, (u.lease v).hold.holder? = (s.lease v).hold.holder? ∧ (u.lease v).epoch = (s.lease v).epoch
  leases : Table.wf s.leases = true → Table.wf u.leases = true
  queues : Table.wf s.queues = true → Table.wf u.queues = true
  store : Table.wf s.store.volumes = true → Table.wf u.store.volumes = true
  mode : u.mode = s.mode
  held : (heldQueues u).Subperm (heldQueues s)
  intents : ∀ i ∈ liveIntents u, i ∈ liveIntents s
  logWait : ∀ i ∈ u.logWait, i ∈ s.logWait
  fresh : ∀ l ∈ u.log, l.applied = 0 → l ∈ s.log ∨ l.intent ∈ s.logWait
  due : ∀ v ∈ u.deletionsDue ++ u.admissionWait, v ∈ s.deletionsDue ++ s.admissionWait
  flight : ∀ q ∈ heldQueues u, (s.queue q).flight ≠ none → (u.queue q).flight ≠ none
  waiting : ∀ q, ∀ i ∈ (u.queue q).waiting, i ∈ (s.queue q).waiting ∨ i.request.lawful q = true
  volume : ∀ v, (u.volume v).state = (s.volume v).state ∧ ((u.volume v).deletion = none ↔ (s.volume v).deletion = none)

theorem Less.refl (s : State) : Less s s :=
  ⟨grantsFrom_refl _, fun _ => ⟨rfl, rfl⟩, id, id, id, rfl, List.Subperm.refl _, fun _ => id, fun _ => id,
    fun _ h _ => Or.inl h, fun _ => id, fun _ _ => id, fun _ _ => Or.inl, fun _ => ⟨rfl, Iff.rfl⟩⟩

theorem Less.holdsQueue (h : Less s u) {v : Nat} {k : IntentKind} (hu : holdsQueue u v k) : holdsQueue s v k := by
  obtain ⟨i, hi, hq, hk⟩ := hu
  exact ⟨i, h.intents i hi, hq, hk⟩

theorem Less.removes (h : Less s u) {v : Nat} (hu : removes u v) : removes s v :=
  removes_iff.mpr ((removes_iff.mp hu).imp (h.due v) (Or.imp h.holdsQueue h.holdsQueue))

theorem Less.volumeOk (h : Less s u) {v : Nat} (hs : VolumeOk v s) : VolumeOk v u where
  toCreate i hi hk hq := by
    rw [(h.volume v).1]
    exact hs.toCreate i (h.logWait i hi) hk hq
  creating l hl ha hk hq := by
    rw [(h.volume v).1]
    rcases h.fresh l hl ha with hl | hl
    · exact hs.creating l hl ha hk hq
    · exact hs.toCreate _ hl hk hq
  deleting hd := by
    obtain ⟨hr, hst⟩ := hs.deleting (hd.imp h.removes h.holdsQueue)
    rw [(h.volume v).1]
    exact ⟨fun hn => hr ((h.volume v).2.mp hn), hst⟩
  staged e he hst hev := by
    obtain ⟨x, hx, hxs, hxv, -, -⟩ := h.grants e he
    obtain ⟨ha, hr⟩ := hs.staged x hx (hxs hst) (hxv.trans hev)
    rw [(h.volume v).1]
    exact ⟨ha, fun hu => hr (h.removes hu)⟩

theorem Less.workLaw (h : Less s u) (hs : WorkLaw s) : WorkLaw u where
  nodup := by
    obtain ⟨l, hp, hl⟩ := h.held
    exact hp.nodup_iff.mp (hs.nodup.sublist hl)
  flight q hq := h.flight q hq (hs.flight q (h.held.subset hq))
  waiting q i hi := (h.waiting q i hi).elim (hs.waiting q i) id
  intents i hi := hs.intents i (h.intents i hi)
  record v := h.volumeOk (hs.record v)

/-- The laws outside RECOVERING, part by part. -/
theorem GrantLaw.running (hm : u.mode ≠ .recovering) (hl : Table.wf u.leases = true) (hq : Table.wf u.queues = true)
    (hst : Table.wf u.store.volumes = true) (hs : stagedLaw u) (hw : u.mode = .serving → WorkLaw u) : GrantLaw u :=
  ⟨hl, hq, fun h => absurd h hm, hst, hs, fun h => absurd h hm, hw⟩

theorem Less.law (h : Less s u) (hm : s.mode ≠ .recovering) (hs : GrantLaw s) : GrantLaw u :=
  GrantLaw.running (h.mode.trans_ne hm) (h.leases hs.leases) (h.queues hs.queues) (h.store hs.store)
    (stagedLaw_of h.grants h.holder hs.staged) (fun hu => h.workLaw (hs.work (h.mode.symm.trans hu)))

theorem wf_setQueue (q : QueueId) (c : ChangeQueue) (h : Table.wf s.queues = true) :
    Table.wf (s.setQueue q c).queues = true := by
  cases q with
  | volume v => exact wf_setD _ _ _ _ h
  | shelf => exact h

/-- A change queue changes and nothing else. -/
theorem less_setQueue {q : QueueId} {c : ChangeQueue} (hf : q ∈ heldQueues s → (s.queue q).flight ≠ none → c.flight ≠ none)
    (hw : ∀ i ∈ c.waiting, i ∈ (s.queue q).waiting ∨ i.request.lawful q = true) : Less s (s.setQueue q c) := by
  have queue (r : QueueId) : (s.setQueue q c).queue r = if q = r then c else s.queue r := by
    split
    · subst_vars
      exact queue_setQueue_self _ _ _
    · exact queue_setQueue_other _ _ _ _ ‹_›
  have same : { s.setQueue q c with queues := s.queues, shelf := s.shelf } = s := by cases q <;> rfl
  have keep {γ : Type} (g : State → γ) (hg : ∀ t : State, g { t with queues := s.queues, shelf := s.shelf } = g t := by
      intro; rfl) : g (s.setQueue q c) = g s := (hg _).symm.trans (congrArg g same)
  have held : heldQueues (s.setQueue q c) = heldQueues s := keep heldQueues
  refine ⟨?_, fun v => ?_, ?_, wf_setQueue q c, ?_, keep State.mode, ?_, ?_, ?_, ?_, ?_, fun r hr h => ?_, fun r i hi => ?_,
    fun v => ?_⟩
  · rw [keep State.grants]
    exact grantsFrom_refl _
  · rw [keep State.lease]
    exact ⟨rfl, rfl⟩
  · rw [keep State.leases]
    exact id
  · rw [keep (fun t => t.store.volumes)]
    exact id
  · rw [held]
  · rw [keep liveIntents]
    exact fun _ => id
  · rw [keep State.logWait]
    exact fun _ => id
  · rw [keep State.log]
    exact fun _ h _ => Or.inl h
  · rw [keep State.deletionsDue, keep State.admissionWait]
    exact fun _ => id
  · rw [queue]
    rw [held] at hr
    split
    · subst_vars
      exact hf hr h
    · exact h
  · rw [queue] at hi
    split at hi
    · subst_vars
      exact hw i hi
    · exact Or.inl hi
  · rw [keep State.volume]
    exact ⟨rfl, Iff.rfl⟩

theorem less_endFlight {q : QueueId} (hq : q ∉ heldQueues s) : Less s (endFlight q s) :=
  less_setQueue (fun h => absurd h hq) (fun _ => Or.inl)

/-- A lawful request joins its queue (R141). -/
theorem grantLaw_enqueue {r : Request} (o : Origin) (hr : r.lawful r.queue = true) (hm : s.mode ≠ .recovering) (hs : GrantLaw s) :
    GrantLaw (enqueue r o s) := by
  refine Less.law (u := s.setQueue r.queue _) (less_setQueue (fun _ => id) (fun i hi => ?_)) hm hs
  rcases List.mem_append.mp hi with hi | hi
  · exact Or.inl hi
  · exact Or.inr (List.mem_singleton.mp hi ▸ hr)

/-- The log and the log wait queue change and nothing else that the laws read, and hold no intent that they did not. -/
theorem less_log (w : List Intent) (l : List LogIntent) (n : BitVec 32) (m : MapStore)
    (hsub : (w ++ l.map LogIntent.intent).Subperm (liveIntents s)) (hw : ∀ i ∈ w, i ∈ s.logWait)
    (hl : ∀ x ∈ l, x.applied = 0 → x ∈ s.log ∨ x.intent ∈ s.logWait) (hm : m.volumes = s.store.volumes := by rfl) :
    Less s { s with logWait := w, log := l, sequence := n, store := m } :=
  { Less.refl s with
    store := fun h => hm ▸ h
    held := by
      obtain ⟨x, hp, hx⟩ := hsub
      exact (List.subperm_append_right _).mpr ⟨x.map Intent.queue, hp.map _, hx.map _⟩
    intents := fun _ hi => hsub.subset hi
    logWait := hw
    fresh := hl
    flight := fun _ _ h => h }

theorem less_takeSlot (s : State) : Less s (takeSlot s) := by
  unfold takeSlot
  split
  · rename_i i rest n hw hn
    refine less_log rest _ _ _ ?_ (fun j hj => hw ▸ List.mem_cons_of_mem i hj) (fun l hl _ => ?_)
    · refine List.Perm.subperm ?_
      unfold liveIntents
      rw [hw, List.map_append, ← List.append_assoc]
      exact List.perm_append_singleton i _
    · rcases List.mem_append.mp hl with hl | hl
      · exact Or.inl hl
      · cases List.mem_singleton.mp hl
        exact Or.inr (hw ▸ List.mem_cons_self)
  · exact Less.refl s
  · exact Less.refl s

theorem Less.trans (h : Less s b) (k : Less b u) : Less s u where
  grants := grantsFrom_trans h.grants k.grants
  holder v := ⟨(k.holder v).1.trans (h.holder v).1, (k.holder v).2.trans (h.holder v).2⟩
  leases hw := k.leases (h.leases hw)
  queues hw := k.queues (h.queues hw)
  store hw := k.store (h.store hw)
  mode := k.mode.trans h.mode
  held := k.held.trans h.held
  intents i hi := h.intents i (k.intents i hi)
  logWait i hi := h.logWait i (k.logWait i hi)
  fresh l hl ha := (k.fresh l hl ha).elim (fun hb => h.fresh l hb ha) (fun hb => Or.inr (h.logWait _ hb))
  due v hv := h.due v (k.due v hv)
  flight q hq hf := k.flight q hq (h.flight q (k.held.subset hq) hf)
  waiting q i hi := (k.waiting q i hi).elim (h.waiting q i) Or.inr
  volume v := ⟨(k.volume v).1.trans (h.volume v).1, (k.volume v).2.trans (h.volume v).2⟩

theorem less_freeSlot (l : LogIntent) (s : State) : Less s (freeSlot l s) := by
  refine Less.trans (b := { s with store := s.store.retire l.slot l.seq, log := s.log.tail }) ?_ (less_takeSlot _)
  refine less_log s.logWait s.log.tail s.sequence _ (List.Sublist.subperm ?_) (fun _ => id)
    (fun x hx _ => Or.inl (List.mem_of_mem_tail hx))
  exact (List.Sublist.refl _).append ((List.tail_sublist _).map _)

theorem less_nextDeletion (s : State) : Less s { s with deletionsDue := s.deletionsDue.tail } :=
  { Less.refl s with
    held := List.Sublist.subperm ((List.Sublist.refl _).append (((List.tail_sublist _).append (List.Sublist.refl _)).map _))
    due := fun _ hv => (List.mem_append.mp hv).elim (fun h => List.mem_append_left _ (List.mem_of_mem_tail h))
      (List.mem_append_right _)
    flight := fun _ _ h => h }

/-! ## A queue whose front is free -/

/-- The part is SERVING and nothing holds the queue. -/
structure Free (q : QueueId) (s : State) : Prop where
  mode : s.mode = .serving
  held : q ∉ heldQueues s

theorem Free.of_flow {q : QueueId} (h : SameFlow s u) (hs : Free q s) : Free q u :=
  ⟨h.mode.trans hs.mode, h.heldQueues ▸ hs.held⟩

theorem Free.of_idle {q : QueueId} (h : u.eraseIdle = s.eraseIdle) (hs : Free q s) : Free q u :=
  hs.of_flow (SameFlow.of_idle h)

theorem Free.of_less {q : QueueId} (h : Less s u) (hs : Free q s) : Free q u :=
  ⟨h.mode.trans hs.mode, fun hq => hs.held (h.held.subset hq)⟩

theorem Free.running {q : QueueId} (hs : Free q s) : s.mode ≠ .recovering := by
  rw [hs.mode]
  decide

/-- A queue without a request in flight is free (R142). -/
theorem Free.of_flight {q : QueueId} (hm : s.mode = .serving) (hf : (s.queue q).flight = none) (hs : GrantLaw s) : Free q s :=
  ⟨hm, fun hq => (hs.work hm).flight q hq hf⟩

theorem mem_heldQueues_of_intent {i : Intent} (h : i ∈ liveIntents s) : i.queue ∈ heldQueues s :=
  List.mem_append_left _ (List.mem_map_of_mem h)

theorem mem_heldQueues_of_due {v : Nat} (h : v ∈ s.deletionsDue ++ s.admissionWait) : .volume v ∈ heldQueues s :=
  List.mem_append_right _ (List.mem_map_of_mem h)

theorem held_of_holdsQueue {v : Nat} {k : IntentKind} (h : holdsQueue s v k) : .volume v ∈ heldQueues s := by
  obtain ⟨i, hi, hq, -⟩ := h
  exact hq ▸ mem_heldQueues_of_intent hi

theorem held_of_removes {v : Nat} (h : removes s v) : .volume v ∈ heldQueues s := by
  rcases removes_iff.mp h with h | h | h
  · exact mem_heldQueues_of_due h
  · exact held_of_holdsQueue h
  · exact held_of_holdsQueue h

theorem mem_live_of_log {l : LogIntent} (h : l ∈ s.log) : l.intent ∈ liveIntents s :=
  List.mem_append_right _ (List.mem_map_of_mem h)

/-- What is free asks nothing of its volume but that the STAGED grants on it name one that exists. -/
theorem VolumeOk.of_free {v : Nat} (hv : .volume v ∉ heldQueues s) (hs : (s.volume v).state = .absent → unstaged v s) :
    VolumeOk v s where
  toCreate _ hi _ hq := absurd (hq ▸ mem_heldQueues_of_intent (List.mem_append_left _ hi)) hv
  creating _ hl _ _ hq := absurd (hq ▸ mem_heldQueues_of_intent (mem_live_of_log hl)) hv
  deleting hd := absurd (hd.elim held_of_removes held_of_holdsQueue) hv
  staged e he hst hev := ⟨fun ha => hs ha e he hst hev, fun hr => hv (held_of_removes hr)⟩

theorem unstaged_of_absent {v : Nat} (hs : VolumeOk v s) (ha : (s.volume v).state = .absent) : unstaged v s :=
  fun e he hst hev => (hs.staged e he hst hev).1 ha

theorem unstaged_of_removes {v : Nat} (hs : VolumeOk v s) (hr : removes s v) : unstaged v s :=
  fun e he hst hev => (hs.staged e he hst hev).2 hr

/-- The record of a volume whose queue is free is replaced. -/
theorem grantLaw_setVolume {v : Nat} {r : Volume} (hf : Free (.volume v) s) (hr : r.state = .absent → unstaged v s)
    (hs : GrantLaw s) : GrantLaw (s.setVolume v r) := by
  have hw := hs.work hf.mode
  refine GrantLaw.running hf.running hs.leases hs.queues hs.store hs.staged (fun _ =>
    { hw with record := fun w => ?_ })
  have hself : (s.setVolume v r).volume v = r := by rw [volume_setVolume, if_pos rfl]
  by_cases h : v = w
  · subst h
    exact VolumeOk.of_free (s := s.setVolume v r) hf.held (fun ha => hr (hself ▸ ha))
  · have e : (s.setVolume v r).volume w = s.volume w := by rw [volume_setVolume, if_neg h]
    exact SameFlow.volumeOk (u := s.setVolume v r) { SameFlow.refl s with } (grantsFrom_refl _) ⟨congrArg _ e, by rw [e]⟩
      (hw.record w)

/-! ## An intent is formed (R142, R146) -/

/-- The intents of a deletion (R22 to R25). -/
def IntentKind.deletes (k : IntentKind) : Prop := k = .deleteMark ∨ k = .deleteBatch ∨ k = .deleteEnd

/-- The intents of a deletion past its mark (R24, R25). -/
def IntentKind.removes (k : IntentKind) : Prop := k = .deleteBatch ∨ k = .deleteEnd

/-- An intent that can be formed on a free queue: a creation finds its volume ABSENT, the intents of a deletion find the deletion,
and those past its mark no STAGED grant. -/
structure Formable (i : Intent) (s : State) : Prop where
  free : Free i.queue s
  lawful : i.lawful = true
  create : i.kind = .volumeCreate → ∀ v, i.queue = .volume v → (s.volume v).state = .absent
  delete : i.kind.deletes → ∀ v, i.queue = .volume v →
    (s.volume v).deletion ≠ none ∧ ((s.volume v).state = .deleting ∨ (s.volume v).state = .absent)
  remove : i.kind.removes → ∀ v, i.queue = .volume v → unstaged v s

/-- An intent without a slot holds its queue. -/
theorem heldQueues_logged (i : Intent) (s : State) :
    (heldQueues { s with logWait := s.logWait ++ [i] }).Perm (i.queue :: heldQueues s) := by
  have h : (s.logWait ++ [i] ++ s.log.map LogIntent.intent).Perm (i :: liveIntents s) := by
    rw [List.append_assoc]
    exact List.perm_middle
  exact (h.map Intent.queue).append_right _

theorem mem_live_logged {i j : Intent} (h : j ∈ liveIntents { s with logWait := s.logWait ++ [i] }) :
    j = i ∨ j ∈ liveIntents s := by
  rcases List.mem_append.mp h with h | h
  · exact (List.mem_append.mp h).symm.imp List.mem_singleton.mp (List.mem_append_left _)
  · exact Or.inr (List.mem_append_right _ h)

theorem holdsQueue_logged {i : Intent} {v : Nat} {k : IntentKind} (h : holdsQueue { s with logWait := s.logWait ++ [i] } v k) :
    (i.queue = .volume v ∧ i.kind = k) ∨ holdsQueue s v k := by
  obtain ⟨j, hj, hq, hk⟩ := h
  rcases mem_live_logged hj with rfl | hj
  · exact Or.inl ⟨hq, hk⟩
  · exact Or.inr ⟨j, hj, hq, hk⟩

theorem removes_logged {i : Intent} {v : Nat} (h : removes { s with logWait := s.logWait ++ [i] } v) :
    (i.queue = .volume v ∧ i.kind.removes) ∨ removes s v := by
  rw [removes_iff]
  rcases removes_iff.mp h with h | h | h
  · exact Or.inr (Or.inl h)
  · exact (holdsQueue_logged h).imp (fun ⟨hq, hk⟩ => ⟨hq, Or.inl hk⟩) (fun h => Or.inr (Or.inl h))
  · exact (holdsQueue_logged h).imp (fun ⟨hq, hk⟩ => ⟨hq, Or.inr hk⟩) (fun h => Or.inr (Or.inr h))

theorem volumeOk_logged {i : Intent} {v : Nat} (hf : Formable i s) (hs : VolumeOk v s) :
    VolumeOk v { s with logWait := s.logWait ++ [i] } where
  toCreate j hj hk hq := by
    rcases List.mem_append.mp hj with hj | hj
    · exact hs.toCreate j hj hk hq
    · cases List.mem_singleton.mp hj
      exact hf.create hk v hq
  creating := hs.creating
  deleting hd := by
    rcases hd with hd | hd
    · rcases removes_logged hd with ⟨hq, hk⟩ | hd
      · exact hf.delete (Or.inr hk) v hq
      · exact hs.deleting (Or.inl hd)
    · rcases holdsQueue_logged hd with ⟨hq, hk⟩ | hd
      · exact hf.delete (Or.inl hk) v hq
      · exact hs.deleting (Or.inr hd)
  staged e he hst hev := by
    refine ⟨(hs.staged e he hst hev).1, fun hr => ?_⟩
    rcases removes_logged hr with ⟨hq, hk⟩ | hr
    · exact hf.remove hk v hq e he hst hev
    · exact (hs.staged e he hst hev).2 hr

/-- An intent without a slot, whose queue is in flight. -/
theorem grantLaw_logged {i : Intent} (hf : Formable i s) (hq : (s.queue i.queue).flight ≠ none) (hs : GrantLaw s) :
    GrantLaw { s with logWait := s.logWait ++ [i] } := by
  have hw := hs.work hf.free.mode
  have hp := heldQueues_logged i s
  refine GrantLaw.running hf.free.running hs.leases hs.queues hs.store hs.staged (fun _ =>
    ⟨hp.nodup_iff.mpr (List.nodup_cons.mpr ⟨hf.free.held, hw.nodup⟩), fun q hm => ?_, hw.waiting, fun j hj => ?_,
      fun v => volumeOk_logged hf (hw.record v)⟩)
  · rcases List.mem_cons.mp (hp.mem_iff.mp hm) with rfl | hm
    · exact hq
    · exact hw.flight q hm
  · rcases mem_live_logged hj with rfl | hj
    · exact hf.lawful
    · exact hw.intents j hj

theorem Formable.of_less {i : Intent} (h : Less s u) (hs : Formable i s) : Formable i u where
  free := hs.free.of_less h
  lawful := hs.lawful
  create hk v hq := (h.volume v).1.trans (hs.create hk v hq)
  delete hk v hq := by
    obtain ⟨hd, hst⟩ := hs.delete hk v hq
    rw [(h.volume v).1]
    exact ⟨fun hn => hd ((h.volume v).2.mp hn), hst⟩
  remove hk v hq := unstaged_of_grants h.grants (hs.remove hk v hq)

theorem grantLaw_formIntent {i : Intent} (flight : Flight) (hf : Formable i s) (hs : GrantLaw s) :
    GrantLaw (formIntent flight i s) := by
  have h : Less s (s.setQueue i.queue { s.queue i.queue with flight := some flight }) :=
    less_setQueue (fun _ _ => nofun) (fun _ => Or.inl)
  refine grantLaw_logged (hf.of_less h) ?_ (h.law hf.free.running hs)
  rw [queue_setQueue_self]
  nofun

/-- The kinds that ask nothing of their volume's record. -/
def IntentKind.plain : IntentKind → Bool
  | .volumeCreate | .deleteMark | .deleteBatch | .deleteEnd => false
  | .volumeResize _ _ | .volumeMode _ | .note _ | .trim _ | .bind _ _ | .move _ | .tenant _ | .span _ _ _ | .pool _
  | .config _ => true

theorem Formable.of_plain {i : Intent} (hf : Free i.queue s) (hl : i.lawful = true) (hk : i.kind.plain = true) :
    Formable i s where
  free := hf
  lawful := hl
  create h := by rw [h] at hk; cases hk
  delete h := by rcases h with h | h | h <;> (rw [h] at hk; cases hk)
  remove h := by rcases h with h | h <;> (rw [h] at hk; cases hk)

theorem grantLaw_formPlain {i : Intent} (flight : Flight) (hf : Free i.queue s) (hs : GrantLaw s) (hl : i.lawful = true := by rfl)
    (hk : i.kind.plain = true := by rfl) : GrantLaw (formIntent flight i s) :=
  grantLaw_formIntent flight (Formable.of_plain hf hl hk) hs

/-! ## A deletion goes on (R23 to R25) -/

/-- The deletion of a volume can go on: its queue is free of intents and in flight, and its record stands. -/
structure Resting (v : Nat) (s : State) : Prop where
  held : .volume v ∉ heldQueues s
  flight : (s.queue (.volume v)).flight ≠ none
  record : (s.volume v).deletion ≠ none ∧ ((s.volume v).state = .deleting ∨ (s.volume v).state = .absent)

theorem Resting.of_work {v : Nat} (h : SameWork s u) (hs : Resting v s) : Resting v u where
  held := h.toSameFlow.heldQueues ▸ hs.held
  flight := by
    rw [(h.queue _).1]
    exact hs.flight
  record := by
    rw [(h.volume v).1]
    exact ⟨fun hn => hs.record.1 ((h.volume v).2.mp hn), hs.record.2⟩

/-- What a calm operation leaves of a deletion that can go on, unless the part is FROZEN after it. -/
theorem Calm.resting {v : Nat} (h : Calm s u) (hs : s.mode = .serving → Resting v s) (hm : u.mode = .serving) : Resting v u := by
  rcases h.work with hf | hw
  · rw [hf] at hm; cases hm
  · exact (hs (hw.mode.symm.trans hm)).of_work hw

theorem Calm.running (h : Calm s u) (hm : s.mode ≠ .recovering) : u.mode ≠ .recovering := by
  rcases h.work with hf | hw
  · rw [hf]
    decide
  · rwa [hw.mode]

/-- One more deletion is due or paused and nothing else that the laws read has changed. -/
theorem grantLaw_deletionAdded {v : Nat} {due paused : List Nat}
    (hp : (due ++ paused).Perm (v :: (s.deletionsDue ++ s.admissionWait))) (hm : s.mode ≠ .recovering)
    (hr : s.mode = .serving → Resting v s) (hu : unstaged v s) (hs : GrantLaw s) :
    GrantLaw { s with deletionsDue := due, admissionWait := paused } := by
  refine GrantLaw.running hm hs.leases hs.queues hs.store hs.staged (fun hserv => ?_)
  have hw := hs.work hserv
  have hv := hr hserv
  have hq : (heldQueues { s with deletionsDue := due, admissionWait := paused }).Perm (.volume v :: heldQueues s) :=
    ((hp.map QueueId.volume).append_left _).trans List.perm_middle
  have removes (w : Nat) (h : removes { s with deletionsDue := due, admissionWait := paused } w) : w = v ∨ removes s w := by
    rcases removes_iff.mp h with h | h
    · exact (List.mem_cons.mp (hp.mem_iff.mp h)).imp_right (fun h => removes_iff.mpr (Or.inl h))
    · exact Or.inr (removes_iff.mpr (Or.inr h))
  refine ⟨hq.nodup_iff.mpr (List.nodup_cons.mpr ⟨hv.held, hw.nodup⟩), fun q h => ?_, hw.waiting, hw.intents, fun w =>
    ⟨(hw.record w).toCreate, (hw.record w).creating, fun h => ?_, fun e he hst hev => ⟨?_, fun h => ?_⟩⟩⟩
  · rcases List.mem_cons.mp (hq.mem_iff.mp h) with rfl | h
    · exact hv.flight
    · exact hw.flight q h
  · rcases h with h | h
    · rcases removes w h with rfl | h
      · exact hv.record
      · exact (hw.record w).deleting (Or.inl h)
    · exact (hw.record w).deleting (Or.inr h)
  · exact ((hw.record w).staged e he hst hev).1
  · rcases removes w h with rfl | h
    · exact hu e he hst hev
    · exact ((hw.record w).staged e he hst hev).2 h

theorem grantLaw_continueDeletion {v : Nat} (hm : s.mode ≠ .recovering) (hr : s.mode = .serving → Resting v s)
    (hu : unstaged v s) (hs : GrantLaw s) : GrantLaw (continueDeletion v s) := by
  have hc (f : Deletion → Deletion) := calm_updateDeletion v f s
  have hl (f : Deletion → Deletion) : GrantLaw (updateDeletion v f s) := (hc f).law hs
  refine continueDeletion_cases (motive := GrantLaw) v s (fun _ => ?_) (fun _ _ => ?_) (fun _ _ => ?_)
  · refine grantLaw_deletionAdded ?_ hm (fun h => (hc _).resting hr h) hu (hl _)
    exact (List.perm_append_singleton v _).append_right s.admissionWait
  · refine (calm_updateDeletion v _ _).law ?_
    refine ((calm_promises _ { updateDeletion v _ s with deletionsDue := s.deletionsDue ++ [v] }).law ?_)
    refine grantLaw_deletionAdded ?_ hm (fun h => (hc _).resting hr h) hu (hl _)
    exact (List.perm_append_singleton v _).append_right s.admissionWait
  · refine (calm_updateDeletion v _ _).law ?_
    refine grantLaw_deletionAdded ?_ hm (fun h => (hc _).resting hr h) hu (hl _)
    show (s.deletionsDue ++ (s.admissionWait ++ [v])).Perm _
    rw [← List.append_assoc]
    exact List.perm_append_singleton v _

end Sys2Proof.Machine
end

section
/-! PROOFS. The law of the STAGED grants at the validation of a front and the other steps that are due inside an event (R142, R146,
R148). -/

namespace Sys2Proof.Machine

open State

variable {s b u : State}

theorem grantLaw_ite {c : Prop} [Decidable c] {x y : State} (hx : GrantLaw x) (hy : GrantLaw y) :
    GrantLaw (if c then x else y) := by
  split
  · exact hx
  · exact hy

theorem Less.of_idle (h : u.eraseIdle = s.eraseIdle) : Less s u := by
  have keep {γ : Type} (g : State → γ) (hg : ∀ t : State, g t.eraseIdle = g t := by intro; rfl) : g u = g s :=
    keeps_of_erase g h hg
  have hc := Calm.of_idle h
  refine ⟨hc.grants, hc.holder, hc.leases, hc.queues, hc.store, keep State.mode, ?_, ?_, ?_, ?_, ?_, fun q _ hf => ?_,
    fun q i hi => ?_,
    (SameWork.of_idle h).volume⟩
  · rw [keep heldQueues]
  · rw [keep liveIntents]
    exact fun _ => id
  · rw [keep State.logWait]
    exact fun _ => id
  · rw [keep State.log]
    exact fun _ h _ => Or.inl h
  · rw [keep State.deletionsDue, keep State.admissionWait]
    exact fun _ => id
  · rwa [((SameFlow.of_idle h).queue q).1]
  · rw [keep State.queue (fun t => by funext q; cases q <;> rfl)] at hi
    exact Or.inl hi

theorem Free.of_calm {q : QueueId} (h : Calm s u) (hm : u.mode = s.mode) (hs : Free q s) : Free q u := by
  rcases h.work with hf | hw
  · cases (hf.symm.trans hm).trans hs.mode
  · exact hs.of_flow hw.toSameFlow

/-! ## Deletions (R24, R25) -/

/-- The next intent of the deletion that is due first can be formed. -/
theorem formable_nextDeletion {v : Nat} {rest : List Nat} {i : Intent} (hd : s.deletionsDue = v :: rest)
    (hm : s.mode = .serving) (hq : i.queue = .volume v) (hl : i.lawful = true) (hk : i.kind.removes) (hs : GrantLaw s) :
    Formable i { s with deletionsDue := s.deletionsDue.tail } := by
  have hw := hs.work hm
  have hp : (heldQueues s).Perm (.volume v :: heldQueues { s with deletionsDue := s.deletionsDue.tail }) := by
    unfold heldQueues
    rw [hd]
    exact List.perm_middle
  have hr : removes s v := Or.inl (hd ▸ List.mem_cons_self)
  refine ⟨⟨hm, ?_⟩, hl, fun hc => ?_, fun _ w hwq => ?_, fun _ w hwq => ?_⟩
  · rw [hq]
    exact (List.nodup_cons.mp (hp.nodup_iff.mp hw.nodup)).1
  · rcases hk with hk | hk <;> (rw [hk] at hc; cases hc)
  · cases hq.symm.trans hwq
    exact (hw.record v).deleting (Or.inl hr)
  · cases hq.symm.trans hwq
    exact unstaged_of_removes (s := s) (hw.record v) hr

theorem grantLaw_formNextDeletion {v : Nat} {rest : List Nat} {i : Intent} (hd : s.deletionsDue = v :: rest)
    (hm : s.mode = .serving) (hs : GrantLaw s) (hk : i.kind.removes) (hq : i.queue = .volume v := by rfl)
    (hl : i.lawful = true := by rfl) :
    GrantLaw (formIntent .deletion i { s with deletionsDue := s.deletionsDue.tail }) :=
  grantLaw_formIntent .deletion (formable_nextDeletion hd hm hq hl hk hs)
    ((less_nextDeletion s).law (by rw [hm]; decide) hs)

theorem grantLaw_formDeletion (reads : Reads) (hm : s.mode = .serving) (hs : GrantLaw s) : GrantLaw (formDeletion reads s) := by
  unfold formDeletion
  split
  · exact hs
  · rename_i v rest hd
    refine grantLaw_ite ?_ ?_
    · exact grantLaw_formNextDeletion hd hm hs (Or.inr rfl) (hl := by simp [simpleIntent, Intent.lawful, Intent.writesState])
    · unfold formRemoval
      dsimp only
      split
      · rename_i hr
        exact (calm_of_readCells hr).law hs
      · rename_i w hr
        have hi := idle_of_readCells hr
        exact grantLaw_formNextDeletion ((keeps_of_erase State.deletionsDue hi (fun _ => rfl)).trans hd)
          ((keeps_of_erase State.mode hi (fun _ => rfl)).trans hm) (hs.of_idle hi) (Or.inl rfl)

/-! ## Validation (Table 8-1) -/

section
variable {v : Nat} (o : Option Origin) (reads : Reads)

theorem grantLaw_refuseItem (k : RequestKind) (r : Reason) (x : AnswerBody) (hs : GrantLaw s) : GrantLaw (refuseItem o k r x s) :=
  (calm_answer? _ _ _ _ _).law hs

theorem grantLaw_answer? (code : Byte) (a : AnswerOutcome) (x : AnswerBody) (hs : GrantLaw s) : GrantLaw (answer? o code a x s) :=
  (calm_answer? _ _ _ _ _).law hs

theorem grantLaw_validateCreate (t : Nat) (pool : PoolId) (size : Nat) {mode : VolState} (hmode : mode ≠ .absent)
    (hf : Free (.volume v) s) (hs : GrantLaw s) : GrantLaw (validateCreate v t pool size mode o s) := by
  unfold validateCreate
  split
  · rename_i ha
    refine grantLaw_formIntent _ ⟨hf, ?_, fun _ w hw => ?_, fun hk => ?_, fun hk => ?_⟩ hs
    · simpa [simpleIntent, Intent.lawful, Intent.writesState] using hmode
    · cases hw
      exact ha
    · rcases hk with hk | hk | hk <;> cases hk
    · rcases hk with hk | hk <;> cases hk
  all_goals exact grantLaw_refuseItem _ _ _ _ hs

theorem idle_refuseBehind (c : ChangeQueue) (s : State) : (refuseBehind c s).eraseIdle = s.eraseIdle :=
  idle_of_erasePorts (refuseBehind_erase c s)

theorem grantLaw_validateDelete (hf : Free (.volume v) s) (hs : GrantLaw s) : GrantLaw (validateDelete v o s) := by
  unfold validateDelete
  refine grantLaw_ite (grantLaw_refuseItem _ _ _ _ hs) (grantLaw_ite (grantLaw_refuseItem _ _ _ _ hs) ?_)
  dsimp only
  refine (calm_reportVolume v _).law ?_
  have marked : GrantLaw (s.setVolume v { s.volume v with state := .deleting, deletion := some ⟨o, .marking, false⟩ }) :=
    grantLaw_setVolume hf nofun hs
  generalize hb : s.setVolume v { s.volume v with state := .deleting, deletion := some ⟨o, .marking, false⟩ } = b at marked ⊢
  have hfb : Free (.volume v) b := by
    subst hb
    exact ⟨hf.mode, hf.held⟩
  have hvb : (b.volume v).deletion ≠ none ∧ (b.volume v).state = .deleting := by
    subst hb
    rw [volume_setVolume, if_pos rfl]
    exact ⟨nofun, rfl⟩
  have hl : Less b (refuseBehind (b.queue (.volume v)) (b.setQueue (.volume v) .empty)) :=
    (less_setQueue (fun h => absurd h hfb.held) (fun _ hi => absurd hi List.not_mem_nil)).trans (Less.of_idle
      (idle_refuseBehind _ _))
  refine grantLaw_formIntent _ (Formable.of_less hl ⟨hfb, ?_, fun hk => ?_, fun _ w hw => ?_, fun hk => ?_⟩)
    (hl.law hfb.running marked)
  · simp [simpleIntent, Intent.lawful, Intent.writesState]
  · cases hk
  · cases hw
    exact ⟨hvb.1, Or.inl hvb.2⟩
  · rcases hk with hk | hk <;> cases hk

theorem grantLaw_validateResize (size : Nat) (hf : Free (.volume v) s) (hs : GrantLaw s) :
    GrantLaw (validateResize v size o reads s) := by
  unfold validateResize
  dsimp only
  refine grantLaw_ite (grantLaw_refuseItem _ _ _ _ hs) (grantLaw_ite (grantLaw_formPlain _ hf hs) (grantLaw_ite
    (grantLaw_answer? _ _ _ _ hs) ?_))
  split
  · rename_i hr
    exact grantLaw_refuseItem _ _ _ _ ((calm_of_readCells hr).law hs)
  · rename_i hr
    have hi := idle_of_readCells hr
    exact grantLaw_ite (grantLaw_refuseItem _ _ _ _ (hs.of_idle hi)) (grantLaw_formPlain _ (hf.of_idle hi) (hs.of_idle hi))

theorem grantLaw_validateMode {mode : VolState} (hmode : mode ≠ .absent) (hf : Free (.volume v) s) (hs : GrantLaw s) :
    GrantLaw (validateMode v mode o s) := by
  unfold validateMode
  refine grantLaw_ite (grantLaw_refuseItem _ _ _ _ hs) (grantLaw_ite (grantLaw_answer? _ _ _ _ hs)
    (grantLaw_formPlain _ hf hs ?_))
  simpa [simpleIntent, Intent.lawful, Intent.writesState] using hmode

theorem grantLaw_validateNote (i : Nat) (written : Mask) (hf : Free (.volume v) s) (hs : GrantLaw s) :
    GrantLaw (validateNote v i written o reads s) := by
  unfold validateNote
  refine grantLaw_ite (grantLaw_refuseItem _ _ _ _ hs) (grantLaw_ite (grantLaw_refuseItem _ _ _ _ hs) (grantLaw_ite
    (grantLaw_refuseItem _ _ _ _ hs) ?_))
  split
  · rename_i hr
    exact grantLaw_refuseItem _ _ _ _ ((calm_of_readCells hr).law hs)
  · rename_i hr
    have hi := idle_of_readCells hr
    have hb := hs.of_idle hi
    split
    · exact grantLaw_refuseItem _ _ _ _ hb
    · exact grantLaw_ite (grantLaw_answer? _ _ _ _ hb) (grantLaw_formPlain _ (hf.of_idle hi) hb)

theorem calm_cancelInto (n : Nat) (r : State × List Extent) : Calm r.1 (cancelInto n r).1 := by
  unfold cancelInto
  dsimp only
  split
  · exact Calm.refl _
  · exact (calm_freeGrant n r.1).trans (Calm.of_idle rfl)

theorem mode_cancelInto (n : Nat) (r : State × List Extent) : (cancelInto n r).1.mode = r.1.mode := by
  unfold cancelInto
  split <;> rfl

theorem grantLaw_formUnmap (held cancelled : List Nat) (hf : Free (.volume v) s) (hs : GrantLaw s) :
    GrantLaw (formUnmap v held cancelled o s) := by
  have h : Calm s (cancelled.foldl (fun r n => cancelInto n r) ({ s with promises := s.promises + 1 }, [])).1 ∧
      (cancelled.foldl (fun r n => cancelInto n r) ({ s with promises := s.promises + 1 }, [])).1.mode = s.mode :=
    cancelled.foldlRecOn (motive := fun r => Calm s r.1 ∧ r.1.mode = s.mode) _ ⟨calm_promises _ s, rfl⟩
      (fun r hr n _ => ⟨hr.1.trans (calm_cancelInto n r), (mode_cancelInto n r).trans hr.2⟩)
  exact grantLaw_formPlain _ (hf.of_calm h.1 h.2) (h.1.law hs)

theorem grantLaw_validateUnmap (first count : Nat) (hf : Free (.volume v) s) (hs : GrantLaw s) :
    GrantLaw (validateUnmap v first count o reads s) := by
  unfold validateUnmap
  refine grantLaw_ite (grantLaw_refuseItem _ _ _ _ hs) (grantLaw_ite (grantLaw_refuseItem _ _ _ _ hs) (grantLaw_ite
    (grantLaw_refuseItem _ _ _ _ hs) ?_))
  split
  · rename_i hr
    exact grantLaw_refuseItem _ _ _ _ ((calm_of_readCells hr).law hs)
  · rename_i hr
    have hi := idle_of_readCells hr
    have hb := hs.of_idle hi
    split
    · exact grantLaw_refuseItem _ _ _ _ hb
    · exact grantLaw_ite (grantLaw_answer? _ _ _ _ hb) (grantLaw_ite (grantLaw_refuseItem _ _ _ _ hb)
        (grantLaw_formUnmap _ _ _ (hf.of_idle hi) hb))

/-- A request taken from the front of its free queue. -/
theorem grantLaw_validateRequest {r : Request} {q : QueueId} (hr : r.lawful q = true) (hf : Free q s) (hs : GrantLaw s) :
    GrantLaw (validateRequest r o reads s) := by
  obtain ⟨hq, hmode⟩ := Bool.and_eq_true_iff.mp hr
  cases of_decide_eq_true hq
  cases r with
  | createVolume v t pool size mode => exact grantLaw_validateCreate o t pool size (of_decide_eq_true hmode) hf hs
  | deleteVolume v => exact grantLaw_validateDelete o hf hs
  | resizeVolume v size => exact grantLaw_validateResize o reads size hf hs
  | setVolumeMode v mode => exact grantLaw_validateMode o (of_decide_eq_true hmode) hf hs
  | noteWritten v i written => exact grantLaw_validateNote o reads i written hf hs
  | unmap v first count => exact grantLaw_validateUnmap o reads first count hf hs
  | bind v n advance written => exact grantLaw_formPlain _ hf hs
  | completeRelocate v n forming => exact grantLaw_formPlain _ hf hs
  | setTenant t q => exact grantLaw_formPlain _ hf hs
  | addSpan n pool length =>
    exact grantLaw_ite (grantLaw_refuseItem _ _ _ _ hs) (grantLaw_ite (grantLaw_refuseItem _ _ _ _ hs)
      (grantLaw_formPlain _ hf hs))
  | drainSpan n on =>
    exact grantLaw_ite (grantLaw_refuseItem _ _ _ _ hs) (grantLaw_ite (grantLaw_answer? _ _ _ _ hs) (grantLaw_formPlain _ hf hs))
  | removeSpan n => exact grantLaw_ite (grantLaw_formPlain _ hf hs) (grantLaw_refuseItem _ _ _ _ hs)
  | setPool p settings => exact grantLaw_formPlain _ hf hs
  | configure t => exact grantLaw_formPlain _ hf hs

end

theorem grantLaw_validateFront (q : QueueId) (reads : Reads) (hm : s.mode = .serving) (hs : GrantLaw s) :
    GrantLaw (validateFront q reads s) := by
  unfold validateFront
  dsimp only
  split
  · rename_i i rest hfl hwait
    have hl : Less s (s.setQueue q { s.queue q with waiting := rest }) :=
      less_setQueue (fun _ => id) (fun j hj => Or.inl (hwait ▸ List.mem_cons_of_mem i hj))
    have hf := Free.of_flight hm hfl hs
    exact grantLaw_validateRequest _ _ ((hs.work hm).waiting q i (hwait ▸ List.mem_cons_self)) (hf.of_less hl)
      (hl.law hf.running hs)
  · exact hs
  · exact hs

/-! ## Steps that are due (log 4) -/

theorem calm_startApply (s : State) : Calm s (startApply s) := by
  unfold startApply
  split
  · exact Calm.refl s
  · rename_i l rest hl
    refine Calm.ite { Calm.refl s with work := Or.inr { SameWork.refl s with log := ?_, fresh := fun x hx ha => ?_ } }
      (Calm.refl s)
    · rw [hl]
      rfl
    · rcases List.mem_cons.mp hx with rfl | hx
      · exact ⟨l, hl ▸ List.mem_cons_self, ha, rfl⟩
      · exact ⟨x, hl ▸ List.mem_cons_of_mem l hx, ha, rfl⟩

theorem grantLaw_takeDue (d : Due) (hm : s.mode = .serving) (hs : GrantLaw s) : GrantLaw (takeDue d s) := by
  cases d with
  | slot => exact (less_takeSlot s).law (by rw [hm]; decide) hs
  | removal => exact grantLaw_formDeletion [] hm hs
  | ending => exact grantLaw_formDeletion [] hm hs
  | front q => exact grantLaw_validateFront q [] hm hs
  | apply => exact (calm_startApply s).law hs

theorem grantLaw_takeDues (stop : Due → Bool) (n : Nat) (hs : GrantLaw s) : GrantLaw (takeDues stop n s) := by
  induction n generalizing s with
  | zero => exact hs
  | succ n ih =>
    unfold takeDues
    split
    · exact hs
    · rename_i hd
      exact grantLaw_ite hs (ih (grantLaw_takeDue _ (due?_serving hd) hs))

theorem grantLaw_finishDue (hs : GrantLaw s) : GrantLaw (finishDue s) := grantLaw_takeDues _ _ hs

theorem grantLaw_finishUntil (d : Due) (hs : GrantLaw s) : GrantLaw (finishUntil d s) := grantLaw_takeDues _ _ hs

end Sys2Proof.Machine
end

section
/-! PROOFS. The law of the STAGED grants when a grant is made, under the effects of an intent and at its DONE (R23 to R25, R48, R51,
R60, R148, R149). -/

namespace Sys2Proof.Machine

open State

variable {s b u : State}

/-! ## A grant is made (R51, R61, R127) -/

/-- A head may have a grant on the volume: the part is SERVING, the head holds the lease, the volume is ACTIVE or READ_ONLY. -/
structure Grantable (p : Port) (v : Nat) (s : State) : Prop where
  mode : s.mode = .serving
  holder : (s.lease v).hold.holder? = some p
  live : (s.volume v).state = .active ∨ (s.volume v).state = .readOnly

theorem Grantable.of_idle {p : Port} {v : Nat} (h : u.eraseIdle = s.eraseIdle) (hs : Grantable p v s) : Grantable p v u where
  mode := (keeps_of_erase State.mode h (fun _ => rfl)).trans hs.mode
  holder := ((Calm.of_idle h).holder v).1.trans hs.holder
  live := by
    rw [((SameWork.of_idle h).volume v).1]
    exact hs.live

/-- A volume in use is not being deleted (R22). -/
theorem not_removes_of_live {v : Nat} (hs : VolumeOk v s) (hv : (s.volume v).state = .active ∨ (s.volume v).state = .readOnly) :
    ¬ removes s v := by
  intro hr
  obtain ⟨-, hd⟩ := hs.deleting (Or.inl hr)
  rcases hd with hd | hd <;> (rw [hd] at hv; rcases hv with hv | hv <;> cases hv)

theorem grantLaw_newGrant {n : Nat} {g : Grant} (hg : Grantable g.owner g.volume s) (he : g.epoch = (s.lease g.volume).epoch)
    (hs : GrantLaw s) : GrantLaw (s.setGrant n g) := by
  have hw := hs.work hg.mode
  refine GrantLaw.running (hg.mode ▸ by decide : s.mode ≠ .recovering) hs.leases hs.queues hs.store (fun e hm hst => ?_)
    (fun _ => { hw with record := fun v => { hw.record v with staged := fun e hm hst hev => ?_ } })
  · rcases Table.mem_insert _ _ _ _ hm with rfl | hm
    · exact ⟨hg.holder, he.symm⟩
    · exact hs.staged e hm hst
  · rcases Table.mem_insert _ _ _ _ hm with rfl | hm
    · cases hev
      refine ⟨fun ha => ?_, not_removes_of_live (s := s) (hw.record _) hg.live⟩
      have ha : (s.volume g.volume).state = .absent := ha
      rcases hg.live with h | h <;> cases ha.symm.trans h
    · exact (hw.record v).staged e hm hst hev

/-- The new grant stands with its serial, its extents taken and its pool's counts moved. -/
theorem grantLaw_grantMade {n : Nat} {g : Grant} {x : BitVec 16} {y : Vector Span 16} {k : PoolId} {f : Pool → Pool}
    (hg : Grantable g.owner g.volume s) (he : g.epoch = (s.lease g.volume).epoch) (hs : GrantLaw s) :
    GrantLaw (({ s with serial := x, spans := y }.setGrant n g).updatePool k f) := by
  have h : GrantLaw ({ s with serial := x, spans := y }.setGrant n g) :=
    grantLaw_newGrant (s := { s with serial := x, spans := y }) ⟨hg.mode, hg.holder, hg.live⟩ he hs.of_idle
  exact h.of_idle

theorem grantLaw_makeAllocation {p : Port} {v : Nat} (n first count : Nat)
    (check : BitVec 16 → BitVec 32 → List Extent → BitVec 16)
    (hg : Grantable p v s) (hs : GrantLaw s) : GrantLaw (makeAllocation n p v first count check s) := by
  unfold makeAllocation
  dsimp only
  refine (calm_judgeLevel _ _).law ((calm_raisePending _ _ _).law (grantLaw_grantMade ?_ rfl hs))
  exact hg

theorem grantLaw_makeRelocation {o : Origin} {v : Nat} (i n : Nat) (e : Entry) (x : Extent) (hg : Grantable o.port v s)
    (hs : GrantLaw s) : GrantLaw (makeRelocation o v i n e x s) := by
  unfold makeRelocation
  dsimp only
  refine (calm_answer _ _ _ _ _).law ((calm_judgeLevel _ _).law (grantLaw_grantMade ?_ rfl hs))
  exact hg

theorem grantLaw_followOn (p : Port) (g : Grant) (reads : Reads) (hm : s.mode = .serving) (hs : GrantLaw s) :
    GrantLaw (followOn p g reads s).1 := by
  unfold followOn
  dsimp only
  split
  · exact hs
  split
  · exact hs
  split
  · exact hs
  split
  · exact hs
  · rename_i hh ha
    have hg : Grantable p g.volume s := ⟨hm, heldBy_iff.mp (by simpa using hh), Or.inl (not_not.mp ha)⟩
    split
    · rename_i hr
      exact (calm_of_readCells hr).law hs
    · rename_i hr
      have hi := idle_of_readCells hr
      split
      · exact hs.of_idle hi
      · dsimp only
        exact grantLaw_makeAllocation _ _ _ _ (hg.of_idle hi) (hs.of_idle hi)

/-! ## Effects that no law reads (Table 8-4) -/

section
variable (kind : IntentKind) (v i : Nat)

theorem calm_leaveGrant (n : Option Nat) (s : State) : Calm s (leaveGrant n i s) := by
  unfold leaveGrant
  split
  · exact Calm.refl s
  · split
    · exact Calm.refl s
    · rename_i hg
      exact calm_setGrant hg id rfl rfl rfl

theorem calm_putEntry (e : Entry) (s : State) : Calm s (s.putEntry v i e) := Calm.of_idle rfl

theorem calm_removeEntry (s : State) : Calm s (s.removeEntry v i) := Calm.of_idle rfl

theorem calm_applyEntry (x : Extent) (m : Mask) (s : State) : Calm s (applyEntry kind v i x m s) := by
  unfold applyEntry
  dsimp only
  have h := (calm_putEntry v i ⟨x, m⟩ s).trans (calm_leaveGrant i kind.grant? _)
  generalize leaveGrant kind.grant? i (s.putEntry v i ⟨x, m⟩) = b at h ⊢
  have hb := h.trans ((calm_updatePool (b.volume v).pool
    (fun r => { r with reserved := r.reserved - 1, used := r.used + 1 }) b).trans (calm_lowerPending v 1 _))
  exact (Calm.ite hb (hb.trans (calm_raiseMapped v _))).trans (calm_setLatch v true _)

theorem calm_applyPlacement (x : Extent) (s : State) : Calm s (applyPlacement kind v i x s).1 := by
  unfold applyPlacement
  split
  · exact Calm.refl s
  · exact ((calm_putEntry v i _ s).trans (calm_leaveGrant i kind.grant? _)).trans
      ((calm_updatePool _ (fun r => { r with reserved := r.reserved - 1, grace := r.grace + 1 }) _).trans
        (calm_setLatch v true _))

theorem calm_applyMask (m : Mask) (s : State) : Calm s (applyMask v i m s) := by
  unfold applyMask
  split
  · exact Calm.refl s
  · exact Calm.ite (calm_putEntry v i _ s) ((calm_putEntry v i _ s).trans (calm_setLatch v true _))

theorem calm_applyRemove (s : State) : Calm s (applyRemove v i s).1 := by
  unfold applyRemove
  split
  · exact calm_setLatch v true s
  · exact ((calm_removeEntry v i s).trans
      (calm_updatePool _ (fun r => { r with used := r.used - 1, grace := r.grace + 1 }) _)).trans
        ((calm_lowerMapped v _).trans (calm_setLatch v true _))

end

theorem calm_updateSpan (n : SpanId) (f : Span → Span) (s : State) : Calm s (s.updateSpan n f) := Calm.of_idle rfl

theorem calm_applySpan (n : SpanId) (st : SpanState) (p : PoolId) (len : Nat) (s : State) : Calm s (applySpan n st p len s) := by
  have h (f : Span → Span) (g : Pool → Pool) : Calm s ((s.updateSpan n f).updatePool p g) := Calm.of_idle rfl
  unfold applySpan
  dsimp only
  split
  · exact (h _ _).trans (calm_judgeLevel _ _)
  · exact (h _ _).trans (calm_judgeLevel _ _)
  · exact (h _ _).trans (calm_judgeLevel _ _)
  · exact h _ _
  all_goals exact Calm.refl s

/-! ## Effects on a volume's state -/

theorem changeFront_eq {l : LogIntent} {rest : List LogIntent} (f : LogIntent → LogIntent) (h : s.log = l :: rest) :
    changeFront f s = { s with log := f l :: rest } := by
  unfold changeFront; rw [h]

theorem writesState_iff {f : VolState → Bool} {i : Intent} : i.writesState f = true ↔
    ∃ v st t p n, i.queue = .volume v ∧ i.effects = [.setVolume v st t p n] ∧ f st = true := by
  unfold Intent.writesState
  split
  · rename_i v w st t p n hq he
    rw [hq, he, Bool.and_eq_true, decide_eq_true_iff]
    constructor
    · rintro ⟨rfl, hf⟩
      exact ⟨_, st, t, p, n, rfl, rfl, hf⟩
    · rintro ⟨x, st', t', p', n', hx, he', hf⟩
      cases hx
      cases he'
      exact ⟨rfl, hf⟩
  · rename_i hn
    refine ⟨nofun, ?_⟩
    rintro ⟨v, st, t, p, n, hq, he, -⟩
    exact (hn v v st t p n hq he).elim

/-- The front of the log goes on by one effect and nothing else that the laws read changes. -/
theorem calm_advanced (x : List Extent) (s : State) : Calm s (changeFront (LogIntent.advanced x) s) := by
  cases h : s.log with
  | nil =>
    unfold changeFront
    rw [h]
    exact Calm.refl s
  | cons l rest =>
    rw [changeFront_eq _ h]
    refine { Calm.refl s with work := Or.inr { SameWork.refl s with log := ?_, fresh := fun y hy ha => ?_ } }
    · rw [h]
      rfl
    · rcases List.mem_cons.mp hy with rfl | hy
      · cases ha
      · exact ⟨y, h ▸ List.mem_cons_of_mem l hy, ha, rfl⟩

/-- An operation that is calm is calm under another log. -/
theorem Calm.withLog (h : Calm s u) (l : List LogIntent) : Calm { s with log := l } { u with log := l } where
  grants := h.grants
  holder := h.holder
  leases := h.leases
  queues := h.queues
  store := h.store
  work := h.work.imp id (fun hw => { hw with log := rfl, fresh := fun x hx ha => ⟨x, hx, ha, rfl⟩ })

/-- The front of the log holds its queue alone. -/
theorem front_alone {l : LogIntent} {rest : List LogIntent} (hl : s.log = l :: rest) (hs : (heldQueues s).Nodup) :
    l.intent.queue ∉ heldQueues { s with log := rest } := by
  have hp : (heldQueues s).Perm (l.intent.queue :: heldQueues { s with log := rest }) := by
    unfold heldQueues liveIntents
    rw [hl]
    exact (List.perm_middle.map Intent.queue).append_right _
  exact (List.nodup_cons.mp (hp.nodup_iff.mp hs)).1

/-- A volume that the front intent alone works on, one of whose effects is applied. -/
theorem VolumeOk.of_front {v : Nat} {l : LogIntent} {rest : List LogIntent} (hl : s.log = l :: rest)
    (hv : .volume v ∉ heldQueues { s with log := rest }) (ha : l.applied ≠ 0)
    (hd : l.intent.kind.deletes →
      (s.volume v).deletion ≠ none ∧ ((s.volume v).state = .deleting ∨ (s.volume v).state = .absent))
    (hs : (s.volume v).state = .absent → unstaged v s) (hr : l.intent.kind.removes → unstaged v s) : VolumeOk v s := by
  have holds {k : IntentKind} (h : holdsQueue s v k) : l.intent.kind = k := by
    obtain ⟨i, hi, hq, hk⟩ := h
    unfold liveIntents at hi
    rw [hl] at hi
    rcases List.mem_append.mp hi with hi | hi
    · exact absurd (hq ▸ mem_heldQueues_of_intent (List.mem_append_left _ hi)) hv
    · rcases List.mem_cons.mp hi with rfl | hi
      · exact hk
      · exact absurd (hq ▸ mem_heldQueues_of_intent (List.mem_append_right _ hi)) hv
  have removes (h : removes s v) : l.intent.kind.removes := by
    rcases removes_iff.mp h with h | h | h
    · exact absurd (mem_heldQueues_of_due (s := { s with log := rest }) h) hv
    · exact Or.inl (holds h)
    · exact Or.inr (holds h)
  refine ⟨fun i hi _ hq => ?_, fun x hx hxa _ hq => ?_, fun h => ?_, fun e he hst hev => ⟨fun h => ?_, fun h => ?_⟩⟩
  · exact absurd (hq ▸ mem_heldQueues_of_intent (List.mem_append_left _ hi)) hv
  · rw [hl] at hx
    rcases List.mem_cons.mp hx with rfl | hx
    · exact absurd hxa ha
    · exact absurd (hq ▸ mem_heldQueues_of_intent (mem_live_of_log hx)) hv
  · exact hd (h.elim (fun h => Or.inr (removes h)) (fun h => Or.inl (holds h)))
  · exact hs h e he hst hev
  · exact hr (removes h) e he hst hev

/-- The front intent has written its volume's record. -/
theorem grantLaw_writeVolume {v : Nat} {l : LogIntent} {rest : List LogIntent} {r : Volume} (hm : s.mode = .serving)
    (hl : s.log = l :: rest) (hq : l.intent.queue = .volume v)
    (hd : l.intent.kind.deletes → r.deletion ≠ none ∧ (r.state = .deleting ∨ r.state = .absent))
    (hr : r.state = .absent ∨ l.intent.kind.removes → unstaged v s) (hs : GrantLaw s) :
    GrantLaw { s.setVolume v r with log := l.advanced [] :: rest } := by
  have hw := hs.work hm
  have hself : (s.setVolume v r).volume v = r := by rw [volume_setVolume, if_pos rfl]
  have ha := calm_advanced [] s
  rw [changeFront_eq _ hl] at ha
  have hflow : SameFlow s { s with log := l.advanced [] :: rest } := by
    rcases ha.work with hf | hf
    · cases hf.symm.trans hm
    · exact hf.toSameFlow
  have hu : SameFlow s { s.setVolume v r with log := l.advanced [] :: rest } := { hflow with }
  refine GrantLaw.running (hm ▸ by decide : s.mode ≠ .recovering) hs.leases hs.queues hs.store hs.staged
    (fun _ => hu.workLaw (fun w => ?_) hw)
  by_cases h : v = w
  · subst h
    refine VolumeOk.of_front (s := { s.setVolume v r with log := l.advanced [] :: rest }) rfl ?_ nofun (fun hk => ?_)
      (fun ha => hr (Or.inl ?_)) (fun hk => hr (Or.inr hk))
    · exact hq ▸ front_alone (s := s) hl hw.nodup
    · exact hself.symm ▸ hd hk
    · exact hself ▸ ha
  · refine hu.volumeOk (grantsFrom_refl _) ?_ (hw.record w)
    have e : (s.setVolume v r).volume w = s.volume w := by rw [volume_setVolume, if_neg h]
    exact ⟨congrArg Volume.state e, iff_of_eq (congrArg (fun x : Volume => x.deletion = none) e)⟩

end Sys2Proof.Machine
end

section
/-! PROOFS. The law of the STAGED grants at the acknowledgement of an effect and at the DONE of an intent (R23 to R25, R59, R118, R133,
R148, R149). -/

namespace Sys2Proof.Machine

open State

variable {s b u : State}

/-! ## An effect is applied (R148, Table 8-4) -/

/-- The state after a calm operation on a volume's written record, and one more effect of the front applied. -/
theorem Calm.grantLaw_written {l : LogIntent} {rest : List LogIntent} (hc : Calm b u) (hu : u.log = l :: rest)
    (hb : GrantLaw { b with log := l.advanced [] :: rest }) : GrantLaw (changeFront (LogIntent.advanced []) u) := by
  rw [changeFront_eq _ hu]
  exact (hc.withLog _).law hb

theorem calm_applyMode (v : Nat) (st : VolState) (t : Nat) (p : PoolId) (size : Nat) (s : State) :
    Calm (s.setVolume v { s.volume v with state := st, tenant := t, pool := p, size := size }) (applyMode v st t p size s) := by
  unfold applyMode
  exact Calm.ite (calm_dropGrants _ _ _) (Calm.refl _)

theorem log_applyMode (v : Nat) (st : VolState) (t : Nat) (p : PoolId) (size : Nat) (s : State) :
    (applyMode v st t p size s).log = s.log := by
  unfold applyMode
  dsimp only
  split
  · exact keeps_of_erase State.log (dropGrants_erase _ _ _) (fun _ => rfl)
  · rfl

section
variable {l : LogIntent} {rest : List LogIntent} {v : Nat} {st : VolState} {t : Nat} {p : PoolId} {size : Nat}

/-- An intent that writes a volume's state has one effect, on its own volume. -/
theorem front_writes {f : VolState → Bool} (he : l.intent.effects[l.applied]? = some (.setVolume v st t p size))
    (hf : l.intent.writesState f = true) : l.intent.queue = .volume v ∧ l.applied = 0 ∧ f st = true := by
  obtain ⟨w, st', t', p', n', hq, hx, hst⟩ := writesState_iff.mp hf
  rw [hx] at he
  cases ha : l.applied with
  | zero =>
    rw [ha] at he
    cases he
    exact ⟨hq, rfl, hst⟩
  | succ k =>
    rw [ha] at he
    cases he

theorem lawful_front (hl : s.log = l :: rest) (hm : s.mode = .serving) (hs : GrantLaw s) : l.intent.lawful = true :=
  (hs.work hm).intents _ (mem_live_of_log (hl ▸ List.mem_cons_self))

theorem holdsQueue_front (hl : s.log = l :: rest) (hq : l.intent.queue = .volume v) : holdsQueue s v l.intent.kind :=
  ⟨l.intent, mem_live_of_log (hl ▸ List.mem_cons_self), hq, rfl⟩

/-- Neither a creation nor a mode switch is an intent of a deletion. -/
theorem not_deletes {k : IntentKind} (h : k = .volumeCreate ∨ ∃ m, k = .volumeMode m) : ¬ k.deletes ∧ ¬ k.removes := by
  have hd : ¬ k.deletes := by
    rcases h with rfl | ⟨m, rfl⟩ <;> (rintro (h | h | h) <;> cases h)
  exact ⟨hd, fun h => hd (Or.inr h)⟩

theorem grantLaw_applyCreate (hm : s.mode = .serving) (hl : s.log = l :: rest)
    (he : l.intent.effects[l.applied]? = some (.setVolume v st t p size)) (hk : l.intent.kind = .volumeCreate)
    (hs : GrantLaw s) : GrantLaw (changeFront (LogIntent.advanced []) (applyCreate v st t p size s)) := by
  have hf := lawful_front hl hm hs
  unfold Intent.lawful at hf
  rw [hk] at hf
  obtain ⟨hq, h0, hst⟩ := front_writes he hf
  have hn : unstaged v s := unstaged_of_absent ((hs.work hm).record v)
    (((hs.work hm).record v).creating l (hl ▸ List.mem_cons_self) h0 hk hq)
  obtain ⟨hd, hr⟩ := not_deletes (Or.inl hk)
  have hc : Calm ((s.setVolume v
      { s.volume v with state := st, tenant := t, pool := p, size := size, mapped := 0, pending := 0 }).setLease v .fresh)
      (applyCreate v st t p size s) := (calm_reportVolume v _).after
  refine hc.grantLaw_written ((applyCreate_keeps State.log v st t p size s).trans hl) ?_
  refine grantLaw_setLease (s := { s.setVolume v _ with log := l.advanced [] :: rest }) .fresh hn
    (grantLaw_writeVolume hm hl hq (fun h => absurd h hd) (fun h => ?_) hs)
  rcases h with h | h
  · exact absurd h (of_decide_eq_true hst)
  · exact absurd h hr

theorem grantLaw_applyMode (hm : s.mode = .serving) (hl : s.log = l :: rest)
    (he : l.intent.effects[l.applied]? = some (.setVolume v st t p size)) {m : VolState} (hk : l.intent.kind = .volumeMode m)
    (hs : GrantLaw s) : GrantLaw (changeFront (LogIntent.advanced []) (applyMode v st t p size s)) := by
  have hf := lawful_front hl hm hs
  unfold Intent.lawful at hf
  rw [hk] at hf
  obtain ⟨hq, h0, hst⟩ := front_writes he hf
  obtain ⟨hd, hr⟩ := not_deletes (Or.inr ⟨m, hk⟩)
  refine (calm_applyMode v st t p size s).grantLaw_written ((log_applyMode v st t p size s).trans hl)
    (grantLaw_writeVolume hm hl hq (fun h => absurd h hd) (fun h => ?_) hs)
  rcases h with h | h
  · exact absurd h (of_decide_eq_true hst)
  · exact absurd h hr

theorem grantLaw_applyEnd (hm : s.mode = .serving) (hl : s.log = l :: rest)
    (he : l.intent.effects[l.applied]? = some (.setVolume v st t p size)) (hk : l.intent.kind = .deleteEnd)
    (hs : GrantLaw s) : GrantLaw (changeFront (LogIntent.advanced []) (applyEnd v s)) := by
  have hf := lawful_front hl hm hs
  unfold Intent.lawful at hf
  rw [hk] at hf
  obtain ⟨hq, -, -⟩ := front_writes he hf
  have hr : removes s v := Or.inr (Or.inr (Or.inr (hk ▸ holdsQueue_front hl hq)))
  have hv := (hs.work hm).record v
  have hc : Calm (s.setVolume v
      { s.volume v with state := .absent, tenant := 0, pool := 0, size := 0, mapped := 0, pending := 0 }) (applyEnd v s) :=
    calm_reportVolume v _
  exact hc.grantLaw_written ((applyEnd_keeps State.log v s).trans hl)
    (grantLaw_writeVolume hm hl hq (fun _ => ⟨(hv.deleting (Or.inl hr)).1, Or.inr rfl⟩) (fun _ => unstaged_of_removes hv hr) hs)

theorem grantLaw_applyMark (hm : s.mode = .serving) (hl : s.log = l :: rest)
    (he : l.intent.effects[l.applied]? = some (.setVolume v st t p size)) (hk : l.intent.kind = .deleteMark)
    (hs : GrantLaw s) :
    GrantLaw (changeFront (LogIntent.advanced []) (s.setVolume v { s.volume v with state := st })) := by
  have hf := lawful_front hl hm hs
  unfold Intent.lawful at hf
  rw [hk] at hf
  obtain ⟨hq, -, hst⟩ := front_writes he hf
  cases of_decide_eq_true hst
  have hv := (hs.work hm).record v
  refine (Calm.refl _).grantLaw_written hl (grantLaw_writeVolume hm hl hq (fun _ => ⟨?_, Or.inl rfl⟩) (fun h => ?_) hs)
  · exact (hv.deleting (Or.inr (hk ▸ holdsQueue_front hl hq))).1
  · rcases h with h | h
    · cases h
    · rcases h with h | h <;> cases hk.symm.trans h

theorem grantLaw_applyVolume (hm : s.mode = .serving) (hl : s.log = l :: rest)
    (he : l.intent.effects[l.applied]? = some (.setVolume v st t p size)) (hs : GrantLaw s) :
    GrantLaw (applyNext l (.setVolume v st t p size) s) := by
  unfold applyNext
  dsimp only
  rcases applyEffect_setVolume l.intent.kind v st t p size s with ⟨hk, e⟩ | ⟨m, hk, e⟩ | ⟨hk, e⟩ | ⟨-, e⟩ | ⟨hk, e⟩ | ⟨-, e⟩ <;>
    rw [e]
  · exact grantLaw_applyCreate hm hl he hk hs
  · exact grantLaw_applyMode hm hl he hk hs
  · exact grantLaw_applyEnd hm hl he hk hs
  · exact (calm_advanced [] _).law ((calm_setVolume (r := { s.volume v with size := size }) rfl Iff.rfl).law hs)
  · exact grantLaw_applyMark hm hl he hk hs
  · exact (calm_advanced [] s).law hs

theorem grantLaw_applyNext {e : Effect} (hm : s.mode = .serving) (hl : s.log = l :: rest)
    (he : l.intent.effects[l.applied]? = some e) (hs : GrantLaw s) : GrantLaw (applyNext l e s) := by
  cases e with
  | setEntry v i x m => exact (calm_advanced _ _).law ((calm_applyEntry _ v i x m s).law hs)
  | setPlacement v i x => exact (calm_advanced _ _).law ((calm_applyPlacement _ v i x s).law hs)
  | setMask v i m => exact (calm_advanced _ _).law ((calm_applyMask v i m s).law hs)
  | removeEntry v i => exact (calm_advanced _ _).law ((calm_applyRemove v i s).law hs)
  | setVolume v st t p size => exact grantLaw_applyVolume hm hl he hs
  | setTenant t q => exact (calm_advanced _ _).law ((calm_updateTenant t (fun r => { r with quota := q }) s).law hs)
  | setSpan n st p len => exact (calm_advanced _ _).law ((calm_applySpan n st p len s).law hs)
  | setPool p settings =>
    exact (calm_advanced _ _).law ((calm_judgeLevel p _).law ((calm_updatePool p
      (fun r => { r with settings := settings }) s).law hs))
  | setConfig t => exact (calm_advanced _ _).law hs

end

theorem wf_write (e : Effect) {m : MapStore} (h : Table.wf m.volumes = true) : Table.wf (m.write e).volumes = true := by
  have hc (v i : Nat) (f : Entry → Entry) : (m.changeCell v i f).volumes = m.volumes := by
    unfold MapStore.changeCell
    split <;> rfl
  cases e with
  | setVolume v st t p size => exact wf_setD _ _ _ _ h
  | setPlacement v i x => exact (hc v i _).symm ▸ h
  | setMask v i m => exact (hc v i _).symm ▸ h
  | setEntry v i x m => exact h
  | removeEntry v i => exact h
  | setTenant t q => cases q <;> exact h
  | setSpan n st p len => exact h
  | setPool p settings => exact h
  | setConfig t => exact h

/-- The store changes, its volume records in order. -/
theorem calm_store {m : MapStore} (h : Table.wf s.store.volumes = true → Table.wf m.volumes = true) :
    Calm s { s with store := m } := { Calm.refl s with store := h, work := Or.inr { SameWork.refl s with } }

theorem log_of_effectOut? {l : LogIntent} {e : Effect} (h : effectOut? s = some (l, e)) :
    ∃ rest, s.log = l :: rest ∧ l.intent.effects[l.applied]? = some e := by
  unfold effectOut? at h
  split at h
  · cases h
  · rename_i x rest hl
    split at h
    · obtain ⟨y, hy, hxy⟩ := Option.map_eq_some_iff.mp h
      cases hxy
      exact ⟨rest, hl, hy⟩
    · cases h

/-- The write of the front intent's step is no longer under way. -/
theorem calm_writeOver (s : State) : Calm s (changeFront (fun l => { l with writeOut := false }) s) := by
  cases h : s.log with
  | nil =>
    unfold changeFront
    rw [h]
    exact Calm.refl s
  | cons l rest =>
    rw [changeFront_eq _ h]
    refine { Calm.refl s with work := Or.inr { SameWork.refl s with log := ?_, fresh := fun y hy ha => ?_ } }
    · rw [h]
      rfl
    · rcases List.mem_cons.mp hy with rfl | hy
      · exact ⟨l, h ▸ List.mem_cons_self, ha, rfl⟩
      · exact ⟨y, h ▸ List.mem_cons_of_mem l hy, ha, rfl⟩

theorem idle_effectCorrected (c : Bool) (e : Effect) (s : State) : (effectCorrected c e s).eraseIdle = s.eraseIdle := by
  unfold effectCorrected
  split
  · exact idle_correctedRead _ s
  · rfl
  · rfl

theorem grantLaw_ackEffect (c : Bool) (hs : GrantLaw s) : GrantLaw (ackEffect c s) := by
  unfold ackEffect
  split
  · exact hs
  · rename_i l e he
    obtain ⟨rest, hl, hx⟩ := log_of_effectOut? he
    have hi := idle_effectCorrected c e { s with store := s.store.write e }
    have hb : GrantLaw (effectCorrected c e { s with store := s.store.write e }) :=
      ((calm_store (wf_write e)).law hs).of_idle hi
    dsimp only
    split
    · rename_i hm
      exact grantLaw_applyNext hm ((keeps_of_erase State.log hi (fun _ => rfl)).trans hl) hx hb
    · exact (calm_writeOver _).law hb

/-! ## DONE (R149, Table 8-5) -/

/-- The intent's slot is free and its queue still in flight; what it knew of its volume's deletion stands. -/
structure Landed (i : Intent) (s : State) : Prop where
  free : Free i.queue s
  flight : (s.queue i.queue).flight ≠ none
  delete : i.kind.deletes → ∀ v, i.queue = .volume v →
    (s.volume v).deletion ≠ none ∧ ((s.volume v).state = .deleting ∨ (s.volume v).state = .absent)
  remove : i.kind.removes → ∀ v, i.queue = .volume v → unstaged v s

theorem freeSlot_keeps {γ : Type} (g : State → γ) (l : LogIntent) (s : State)
    (hg : ∀ (t : State) a b c d, g { t with logWait := a, sequence := b, log := c, store := d } = g t := by intros; rfl) :
    g (freeSlot l s) = g s := (congrArg g (freeSlot_touches l s)).trans (hg s _ _ _ _)

/-- The front intent has landed once its slot is free. -/
theorem landed_freeSlot {l : LogIntent} {rest : List LogIntent} (hm : s.mode = .serving) (hl : s.log = l :: rest)
    (hs : GrantLaw s) : Landed l.intent (freeSlot l s) := by
  have hw := hs.work hm
  have hlive : l.intent ∈ liveIntents s := mem_live_of_log (hl ▸ List.mem_cons_self)
  have hfree : l.intent.queue ∉ heldQueues { s with store := s.store.retire l.slot l.seq, log := s.log.tail } := by
    rw [hl]
    exact front_alone (s := s) hl hw.nodup
  refine ⟨⟨(freeSlot_keeps State.mode l s).trans hm, fun h => hfree ((less_takeSlot _).held.subset h)⟩, ?_, fun hk v hq => ?_,
    fun hk v hq => ?_⟩
  · rw [freeSlot_keeps State.queue l s (by intros; funext q; cases q <;> rfl)]
    exact hw.flight _ (mem_heldQueues_of_intent hlive)
  · rw [freeSlot_keeps State.volume l s]
    refine (hw.record v).deleting ?_
    rcases hk with hk | hk
    · exact Or.inr ⟨l.intent, hlive, hq, hk⟩
    · exact Or.inl (Or.inr (Or.inr (hk.imp (fun h => ⟨l.intent, hlive, hq, h⟩) (fun h => ⟨l.intent, hlive, hq, h⟩))))
  · refine unstaged_of_grants (s := s) ((freeSlot_keeps State.grants l s).symm ▸ grantsFrom_refl _)
      (unstaged_of_removes (hw.record v) ?_)
    exact Or.inr (Or.inr (hk.imp (fun h => ⟨l.intent, hlive, hq, h⟩) (fun h => ⟨l.intent, hlive, hq, h⟩)))

theorem Landed.resting {i : Intent} {v : Nat} (h : Landed i s) (hk : i.kind.deletes) (hq : i.queue = .volume v) :
    Resting v s := ⟨hq ▸ h.free.held, hq ▸ h.flight, h.delete hk v hq⟩

theorem grantLaw_doneMark {v : Nat} (hm : s.mode = .serving) (hr : Resting v s) (hs : GrantLaw s) : GrantLaw (doneMark v s) := by
  unfold doneMark
  dsimp only
  have hd := calm_dropGrants none (s.stagedGrants (fun g => decide (g.volume = v))) s
  have hu : unstaged v (dropGrants none (s.stagedGrants (fun g => decide (g.volume = v))) s) := fun e he hst =>
    of_decide_eq_false (dropGrants_left none (fun g => decide (g.volume = v)) s e he hst)
  have hrb := hd.resting (fun _ => hr)
  have hmb := hd.running (hm ▸ by decide : s.mode ≠ .recovering)
  have hb := hd.law hs
  generalize dropGrants none (s.stagedGrants (fun g => decide (g.volume = v))) s = b at hu hrb hmb hb
  have cleared := grantLaw_setLease { b.lease v with hold := .free, waiters := [] } hu hb
  have hc (w : List Waiter) (t : State) : Calm t (w.foldl (fun s w => refuse ⟨w.port, w.tag⟩ .claim .noVolume s) t) :=
    Calm.foldl (fun x (w : Waiter) => calm_refuse ⟨w.port, w.tag⟩ .claim .noVolume x) w t
  have hcalm : Calm (b.setLease v { b.lease v with hold := .free, waiters := [] })
      (reportVolume v (match (b.lease v).hold.holder? with
        | some h => addNotice h (.leaseLost v) ((b.lease v).waiters.foldl
            (fun s w => refuse ⟨w.port, w.tag⟩ .claim .noVolume s)
            (b.setLease v { b.lease v with hold := .free, waiters := [] }))
        | none => (b.lease v).waiters.foldl (fun s w => refuse ⟨w.port, w.tag⟩ .claim .noVolume s)
            (b.setLease v { b.lease v with hold := .free, waiters := [] }))) := by
    refine Calm.trans ?_ (calm_reportVolume v _)
    split
    · exact (hc _ _).trans (calm_addNotice _ _ _)
    · exact hc _ _
  refine grantLaw_continueDeletion (hcalm.running hmb) (hcalm.resting (fun h => ?_)) (unstaged_of_grants hcalm.grants hu)
    (hcalm.law cleared)
  have hv := hrb h
  exact ⟨hv.held, hv.flight, hv.record⟩

theorem grantLaw_doneBatch {v : Nat} (f : Option Forming) (hm : s.mode = .serving) (hr : Resting v s) (hu : unstaged v s)
    (hs : GrantLaw s) : GrantLaw (doneBatch v f s) := by
  have hc : Calm s (match f with | some f => formPromised f none v s | none => s) := by
    cases f with
    | none => exact Calm.refl s
    | some f => exact calm_formPromised f none v s
  exact grantLaw_continueDeletion (hc.running (hm ▸ by decide : s.mode ≠ .recovering)) (hc.resting (fun _ => hr))
    (unstaged_of_grants hc.grants hu) (hc.law hs)

theorem grantLaw_doneEnd {v : Nat} (hf : Free (.volume v) s) (hs : GrantLaw s) : GrantLaw (doneEnd v s) := by
  have hb : GrantLaw (s.setVolume v { s.volume v with deletion := none }) :=
    grantLaw_setVolume hf (unstaged_of_absent ((hs.work hf.mode).record v)) hs
  have he : GrantLaw (endFlight (.volume v) (s.setVolume v { s.volume v with deletion := none })) :=
    (less_endFlight (s := s.setVolume v _) hf.held).law hf.running hb
  unfold doneEnd
  dsimp only
  split
  · exact grantLaw_answer? _ _ _ _ he
  · exact he

theorem grantLaw_doneTrim (v removed cancelled : Nat) (i : Intent) (hs : GrantLaw s) :
    GrantLaw (doneTrim v removed cancelled i s) := by
  unfold doneTrim
  refine grantLaw_answer? _ _ _ _ ?_
  split
  · exact (calm_formPromised _ _ _ s).law hs
  · exact hs

theorem grantLaw_doneBind (n : Nat) (advance : Bool) (i : Intent) (reads : Reads) (hm : s.mode = .serving) (hs : GrantLaw s) :
    GrantLaw (doneBind n advance i reads s) := by
  unfold doneBind
  split
  · exact hs
  · refine grantLaw_answer? _ _ _ _ ?_
    have hb := (calm_freeGrant n s).law hs
    unfold followOnOf
    split
    · exact hb
    · split
      · exact grantLaw_followOn _ _ reads hm hb
      · exact hb

theorem grantLaw_doneMove (v n : Nat) (i : Intent) (hs : GrantLaw s) : GrantLaw (doneMove v n i s) := by
  unfold doneMove
  split
  · rename_i f _ _
    have hf := (calm_formPromised f i.requester v _).law ((calm_freeGrant n s).law hs)
    dsimp only
    split
    · exact grantLaw_answer? _ _ _ _ hf
    · exact hf
  · exact hs
  · exact hs

theorem grantLaw_doneActions {i : Intent} (reads : Reads) (hi : Landed i s) (hs : GrantLaw s) :
    GrantLaw (doneActions i reads s) := by
  obtain ⟨kind, queue, o, requester, effects, forming⟩ := i
  have hm := hi.free.mode
  have he : GrantLaw (endFlight queue s) := (less_endFlight hi.free.held).law hi.free.running hs
  have hme : (endFlight queue s).mode = .serving := (less_endFlight hi.free.held).mode.trans hm
  have ha (t : State) (code : Byte) (outcome : AnswerOutcome) (body : AnswerBody) (ht : GrantLaw t) :
      GrantLaw (answer? o code outcome body t) := grantLaw_answer? o _ _ _ ht
  cases kind with
  | volumeCreate => exact ha _ _ _ _ he
  | volumeResize before after => exact ha _ _ _ _ he
  | volumeMode mode => exact ha _ _ _ _ he
  | tenant t => exact ha _ _ _ _ he
  | pool p => exact ha _ _ _ _ he
  | config t => exact ha _ _ _ _ (he.of_idle (u := { endFlight queue s with timing := t }))
  | span request n p => cases request <;> exact ha _ _ _ _ he
  | bind n advance => exact grantLaw_doneBind _ _ _ _ hme he
  | deleteMark =>
    cases queue with
    | volume v => exact grantLaw_doneMark hm (hi.resting (Or.inl rfl) rfl) hs
    | shelf => exact he
  | deleteBatch =>
    cases queue with
    | volume v => exact grantLaw_doneBatch forming hm (hi.resting (Or.inr (Or.inl rfl)) rfl) (hi.remove (Or.inl rfl) v rfl) hs
    | shelf => exact he
  | deleteEnd =>
    cases queue with
    | volume v => exact grantLaw_doneEnd hi.free hs
    | shelf => exact he
  | note i =>
    cases queue with
    | volume v => exact ha _ _ _ _ he
    | shelf => exact he
  | trim cancelled =>
    cases queue with
    | volume v => exact grantLaw_doneTrim _ _ _ _ he
    | shelf => exact he
  | move n =>
    cases queue with
    | volume v => exact grantLaw_doneMove _ _ _ he
    | shelf => exact he

/-! ## Acknowledgements and failed writes (R147, R149, R160) -/

theorem log_of_retireOut? {l : LogIntent} (h : retireOut? s = some l) : ∃ rest, s.log = l :: rest := by
  unfold retireOut? at h
  split at h
  · cases h
  · rename_i x rest hl
    split at h
    · cases h
      exact ⟨rest, hl⟩
    · cases h

theorem grantLaw_ackRetire (reads : Reads) (hs : GrantLaw s) : GrantLaw (ackRetire reads s) := by
  unfold ackRetire
  split
  · exact hs
  · rename_i l hl
    obtain ⟨rest, hlog⟩ := log_of_retireOut? hl
    split
    · rename_i hm
      exact grantLaw_doneActions reads (landed_freeSlot hm hlog hs) ((less_freeSlot l s).law (hm ▸ by decide) hs)
    · exact (calm_writeOver _).law ((calm_store (m := s.store.retire l.slot l.seq) id).law hs)

/-- Intents of the log change their state or their write and nothing else. -/
theorem calm_changeLog (f : LogIntent → Bool) {g : LogIntent → LogIntent} {m : MapStore}
    (hg : ∀ l, (g l).intent = l.intent ∧ (g l).applied = l.applied)
    (hm : Table.wf s.store.volumes = true → Table.wf m.volumes = true) :
    Calm s { s with log := changeLog f g s.log, store := m } := by
  refine { Calm.refl s with store := hm, work := Or.inr { SameWork.refl s with log := ?_, fresh := fun y hy ha => ?_ } }
  · show (s.log.map (fun l => if f l then g l else l)).map (fun l => l.intent.gist) = _
    rw [List.map_map]
    refine List.map_congr_left (fun l _ => ?_)
    show (if f l then g l else l).intent.gist = l.intent.gist
    split
    · rw [(hg l).1]
    · rfl
  · obtain ⟨l, hl, rfl⟩ := List.mem_map.mp hy
    refine ⟨l, hl, ?_⟩
    by_cases hf : f l = true
    · rw [if_pos hf] at ha ⊢
      rw [(hg l).1]
      exact ⟨(hg l).2.symm.trans ha, rfl⟩
    · rw [if_neg hf] at ha ⊢
      exact ⟨ha, rfl⟩

theorem calm_ackImage (slot : Nat) (s : State) : Calm s (ackImage slot s) := by
  unfold ackImage
  refine Calm.ite (calm_changeLog _ (fun l => ?_) (fun h => ?_)) (Calm.refl s)
  · split <;> exact ⟨rfl, rfl⟩
  · unfold wholeImage
    split <;> exact h

theorem calm_failImage (slot : Nat) (s : State) : Calm s (failImage slot s) := by
  unfold failImage
  exact Calm.ite ((calm_changeLog (LogIntent.isWriting slot) (g := fun l => { l with writeOut := false })
    (fun l => ⟨rfl, rfl⟩) id).trans (calm_storeFault _ _ _ _)) (Calm.refl s)

theorem calm_failEffect (c : Bool) (s : State) : Calm s (failEffect c s) := by
  unfold failEffect
  split
  · exact Calm.refl s
  · exact ((calm_writeOver s).trans (Calm.of_idle (idle_effectCorrected c _ _))).trans (calm_storeFault _ _ _ _)

theorem calm_failEffectRead (s : State) : Calm s (failEffectRead s) := by
  unfold failEffectRead
  split
  · exact Calm.refl s
  · split
    · exact Calm.refl s
    · exact (calm_writeOver s).trans (calm_poisonedRead _ _ _)

theorem calm_failRetire (s : State) : Calm s (failRetire s) := by
  unfold failRetire
  split
  · exact Calm.refl s
  · exact (calm_writeOver s).trans (calm_storeFault _ _ _ _)

theorem calm_failWriteBack (a : StoreArea) (s : State) : Calm s (failWriteBack a s) := by
  unfold failWriteBack
  exact Calm.ite (calm_storeFault _ _ _ _).after (Calm.refl s)

end Sys2Proof.Machine
end

section
/-! PROOFS. The law of the STAGED grants under recovery: nothing is under way until its end, which resumes the deletions (R27, R153 to
R157). -/

namespace Sys2Proof.Machine

open State

variable {s b u : State}

/-! ## Nothing under way -/

theorem AtRest.live (h : AtRest s) : liveIntents s = [] := by
  unfold liveIntents
  rw [h.logWait, h.log]
  rfl

theorem AtRest.held (h : AtRest s) : heldQueues s = [] := by
  unfold heldQueues
  rw [h.live, h.due, h.paused]
  rfl

theorem AtRest.workLaw (h : AtRest s) : WorkLaw s := by
  have hlive := h.live
  have hheld := h.held
  have hqueue (q : QueueId) : (s.queue q).waiting = [] := by
    cases q with
    | volume v =>
      unfold State.queue
      rw [h.queues]
      rfl
    | shelf =>
      unfold State.queue
      rw [h.shelf]
      rfl
  refine ⟨hheld ▸ List.nodup_nil, fun q hq => ?_, fun q i hi => ?_, fun i hi => ?_, fun v => VolumeOk.of_free ?_
    (fun _ e he => ?_)⟩
  · rw [hheld] at hq
    cases hq
  · rw [hqueue] at hi
    cases hi
  · rw [hlive] at hi
    cases hi
  · rw [hheld]
    exact List.not_mem_nil
  · rw [h.grants] at he
    cases he

/-- A part with nothing under way and its tables empty obeys the laws. -/
theorem grantLaw_cold {m : MapStore} (h : Table.wf m.volumes = true) : GrantLaw (State.cold m) where
  leases := rfl
  queues := rfl
  volumes _ := rfl
  store := h
  staged := nofun
  rest _ := ⟨rfl, rfl, rfl, rfl, rfl, rfl, rfl⟩
  work := nofun

theorem grantLaw_restart (cause : ResetCause) (boot : Option ReadFault) (hs : GrantLaw s) : GrantLaw (restart cause boot s) := by
  have hc : GrantLaw (State.cold { s.store with bootCount := bootRead boot s.store + 1 }) := grantLaw_cold hs.store
  have hb (t : State) (ht : GrantLaw t) : GrantLaw (bootFault boot t) := by
    unfold bootFault
    split
    · exact (calm_storeFault _ _ _ t).law ht
    · exact (calm_correctedRead _ t).law ht
    · exact ht
  exact hb _ hc.of_idle

/-! ## Replay (R154, R157) -/

theorem calm_areaFault (a : StoreArea) (f : ReadFault) (s : State) : Calm s (areaFault a f s) := by
  cases f with
  | corrected => exact calm_correctedRead a s
  | uncorrectable => exact calm_storeFault (areaSource a) .uncorrectable a s

theorem calm_areaFaults {α : Type} (a : α → StoreArea) (f : α → ReadFault) (l : List α) (s : State) :
    Calm s (l.foldl (fun s e => areaFault (a e) (f e) s) s) :=
  Calm.foldl (fun x e => calm_areaFault (a e) (f e) x) l s

theorem calm_slotFaults (reads : Reads) (s : State) : Calm s (slotFaults reads s) :=
  calm_areaFaults (fun e : Nat × StoreArea × ReadFault => e.2.1) (fun e => e.2.2) _ s

theorem calm_recovery (r : Recovery) (s : State) : Calm s { s with recovery := r } := Calm.of_idle rfl

theorem calm_readLog (reads : Reads) (s : State) : Calm s (readLog reads s) := by
  have hk (t : State) : Calm t (readLog.keep reads t) := by
    have h : Calm t (logRead (replayItems reads t.store) false (slotFaults reads t)) :=
      (calm_slotFaults reads t).trans (calm_recovery _ _)
    unfold readLog.keep
    exact Calm.ite h (h.trans (calm_store (m := discardSlots reads _) id))
  unfold readLog
  split
  · exact ((calm_areaFault _ _ s).trans (calm_slotFaults reads _)).trans (calm_recovery _ _)
  · exact (calm_areaFault _ _ s).trans (hk _)
  · exact hk s

theorem calm_logged (reads : Reads) (s : State) : Calm s (logged reads s) := Calm.ite (calm_readLog reads s) (Calm.refl s)

theorem calm_replayRead (reads : Reads) (e : Effect) (s : State) : Calm s (replayRead reads e s).1 := by
  unfold replayRead
  split
  · exact Calm.refl s
  · split
    · exact Calm.refl s
    · exact calm_correctedRead _ s
    · exact calm_poisonedRead _ _ s

theorem calm_replayEffects (reads : Reads) (l : List Effect) (lost : Bool) (s : State) :
    Calm s (replayEffects reads l (s, lost)).1 := by
  induction l generalizing s lost with
  | nil => exact Calm.refl s
  | cons e l ih =>
    have hr := calm_replayRead reads e s
    unfold replayEffects
    split
    · rename_i t h
      rw [h] at hr
      exact (hr.trans (calm_store (wf_write e))).trans (ih lost _)
    · rename_i t h
      rw [h] at hr
      exact hr.trans (ih true t)

theorem calm_block (s : State) : Calm s (block s) := calm_recovery _ s

theorem calm_replayItem (reads : Reads) (i : ReplayItem) (s : State) : Calm s (replayItem reads i s) := by
  unfold replayItem
  split
  · rename_i image _ _
    have hr := calm_replayEffects reads image.effects false s
    exact Calm.ite (hr.trans (calm_block _)) (Calm.ite hr (hr.trans (calm_store (m := MapStore.retire _ _ _) id)))
  · exact Calm.refl s
  · exact calm_block s

theorem calm_replayAll (reads : Reads) (l : List ReplayItem) (s : State) : Calm s (replayAll reads l s) :=
  Calm.foldl (fun x i => calm_replayItem reads i x) l s

theorem calm_endReplay (s : State) : Calm s (endReplay s) := by
  unfold endReplay
  exact Calm.ite (Calm.refl s) (Calm.of_idle rfl)

theorem calm_replayRest (s : State) : Calm s (replayRest s) := by
  unfold replayRest
  exact Calm.ite (Calm.refl s) ((calm_replayAll _ _ s).trans (calm_recovery _ _))

theorem calm_replayStep (reads : Reads) (s : State) : Calm s (replayStep reads s) := by
  unfold replayStep replayOne
  refine Calm.ite ?_ (Calm.refl s)
  refine Calm.trans ?_ (calm_endReplay _)
  exact (calm_logged reads s).trans (Calm.ite ((calm_replayAll _ _ _).trans (calm_recovery _ _)) (Calm.refl _))

/-! ## The sweep (R155) -/

theorem calm_countEntry (v i : Nat) (e : Entry) (s : State) : Calm s (countEntry v i e s) := by
  have h (f : Span → Span) (k : PoolId) (g : Pool → Pool) :
      Calm s (((s.updateSpan e.placement.span f).updatePool k g).putEntry v i e) := Calm.of_idle rfl
  unfold countEntry
  exact (h _ _ _).trans (calm_raiseMapped v _)

theorem calm_sweepCell (v i : Nat) (cell : Option Entry) (f : Option ReadFault) (s : State) :
    Calm s (sweepCell v i cell f s) := by
  have ht (t : State) : Calm t (sweepCell.take v i cell t) := by
    unfold sweepCell.take
    split
    · exact Calm.refl t
    · exact Calm.ite (calm_poisonedRead v i t) (calm_countEntry v i _ t)
  unfold sweepCell
  split
  · exact calm_poisonedRead v i s
  · exact (calm_correctedRead _ s).trans (ht _)
  · exact ht s

theorem calm_sweepMaps (view : MapStore) (reads : Reads) (s : State) : Calm s (sweepMaps view reads s) := by
  unfold sweepMaps
  refine Calm.foldl (fun x e => ?_) _ s
  exact Calm.foldl (fun y (c : Nat × Option Entry × Option ReadFault) => calm_sweepCell e.1 c.1 c.2.1 c.2.2 y) _ x

/-- The volatile tables are loaded while nothing is under way. -/
theorem grantLaw_loadTables {view : MapStore} (hv : Table.wf view.volumes = true) (hm : s.mode = .recovering) (hs : GrantLaw s) :
    GrantLaw (loadTables view s) where
  leases := hs.leases
  queues := hs.queues
  volumes _ := wf_map (fun e => volumeOfStore e.2) view.volumes hv
  store := hs.store
  staged := hs.staged
  rest _ := by
    obtain ⟨h1, h2, h3, h4, h5, h6, h7⟩ := hs.rest hm
    exact ⟨h1, h2, h3, h4, h5, h6, h7⟩
  work h := by cases hm.symm.trans h

theorem calm_countPools (s : State) : Calm s (countPools s) := Calm.of_idle rfl

theorem grantLaw_sweepTables (reads : Reads) (hm : s.mode = .recovering) (hs : GrantLaw s) : GrantLaw (sweepTables reads s) := by
  have hf : GrantLaw ((tableReports reads).foldl (fun s e => areaFault e.1 e.2 s) s) :=
    (calm_areaFaults (fun e : StoreArea × ReadFault => e.1) (fun e => e.2) _ s).law hs
  have hmf := (recoveringWith_areaFaults (fun e : StoreArea × ReadFault => e.1) (fun e => e.2) (tableReports reads)
    (recoveringWith_self hm)).1
  have hl := grantLaw_loadTables (view := tableView reads s.store) (Table.wf_filter _ _ hs.store) hmf hf
  exact (calm_recovery _ _).law ((calm_countPools _).law ((calm_sweepMaps _ reads _).law hl))

theorem grantLaw_sweepStep (reads : Reads) (hs : GrantLaw s) : GrantLaw (sweepStep reads s) := by
  unfold sweepStep
  split
  · rename_i h
    have hl := recoveringWith_logged reads (recoveringWith_self (inReplay_recovering h))
    exact grantLaw_sweepTables reads (recoveringWith_endReplay (recoveringWith_replayRest hl)).1
      ((((calm_logged reads s).trans (calm_replayRest _)).trans (calm_endReplay _)).law hs)
  · exact hs

/-! ## The end (R27, R156) -/

/-- The volume is DELETING, nothing holds its queue, and no STAGED grant names it. -/
structure Resumable (v : Nat) (s : State) : Prop where
  held : .volume v ∉ heldQueues s
  state : (s.volume v).state = .deleting
  unstaged : unstaged v s

theorem heldQueues_continueDeletion {v : Nat} {q : QueueId} (h : q ∈ heldQueues (continueDeletion v s)) :
    q = .volume v ∨ q ∈ heldQueues s := by
  have hlive : liveIntents (continueDeletion v s) = liveIntents s := continueDeletion_keeps liveIntents v s
  have hdue : ∀ w ∈ (continueDeletion v s).deletionsDue ++ (continueDeletion v s).admissionWait,
      w = v ∨ w ∈ s.deletionsDue ++ s.admissionWait := by
    have hmem {a c : List Nat} {w : Nat} (h : w ∈ (a ++ [v]) ++ c ∨ w ∈ a ++ (c ++ [v])) : w = v ∨ w ∈ a ++ c := by
      simp only [List.mem_append, List.mem_singleton] at h ⊢
      tauto
    refine continueDeletion_cases (motive := fun u => ∀ w ∈ u.deletionsDue ++ u.admissionWait,
      w = v ∨ w ∈ s.deletionsDue ++ s.admissionWait) v s (fun _ w hw => hmem (Or.inl hw)) (fun _ _ w hw => hmem (Or.inl hw))
      (fun _ _ w hw => hmem (Or.inr hw))
  unfold heldQueues at h
  rw [hlive] at h
  rcases List.mem_append.mp h with h | h
  · exact Or.inr (List.mem_append_left _ h)
  · obtain ⟨w, hw, rfl⟩ := List.mem_map.mp h
    rcases hdue w hw with rfl | hw
    · exact Or.inl rfl
    · exact Or.inr (mem_heldQueues_of_due hw)

theorem Resumable.of_resumed {v w : Nat} (hvw : v ≠ w) (hs : Resumable w s) : Resumable w (resumeDeletion v s) where
  held h := by
    rw [resumeDeletion_eq] at h
    rcases heldQueues_continueDeletion h with h | h
    · cases h
      exact hvw rfl
    · exact hs.held h
  state := by
    rw [(resumeDeletion_volume v w s).2 hvw]
    exact hs.state
  unstaged := unstaged_of_grants ((resumeDeletion_keeps State.grants v s).symm ▸ grantsFrom_refl _) hs.unstaged

theorem grantLaw_resumeDeletion {v : Nat} (hm : s.mode = .serving) (hr : Resumable v s) (hs : GrantLaw s) :
    GrantLaw (resumeDeletion v s) := by
  rw [resumeDeletion_eq]
  have hf : Free (.volume v) s := ⟨hm, hr.held⟩
  have hd : GrantLaw (deletionResumed v s) := by
    have hv : GrantLaw (s.setVolume v { s.volume v with deletion := some ⟨none, .removing, false⟩ }) :=
      grantLaw_setVolume hf (fun _ => hr.unstaged) hs
    exact (less_setQueue (s := s.setVolume v _) (q := .volume v) (c := { s.queue (.volume v) with flight := some .deletion })
      (fun _ _ => Option.some_ne_none _) (fun _ => Or.inl)).law hf.running hv
  refine grantLaw_continueDeletion (s := deletionResumed v s) hf.running (fun _ => ⟨hr.held, ?_, ?_⟩) hr.unstaged hd
  · rw [deletionResumed_queue, if_pos rfl]
    nofun
  · rw [deletionResumed_volume, if_pos rfl]
    exact ⟨nofun, Or.inl hr.state⟩

theorem grantLaw_resumeAll {l : List Nat} (hn : l.Nodup) (hm : s.mode = .serving) (hr : ∀ v ∈ l, Resumable v s)
    (hs : GrantLaw s) :
    GrantLaw (resumeAll l s) := by
  induction l generalizing s with
  | nil => exact hs
  | cons v l ih =>
    obtain ⟨hv, hn⟩ := List.nodup_cons.mp hn
    rw [resumeAll_cons]
    refine ih hn ((resumeDeletion_keeps State.mode v s).trans hm) (fun w hw => ?_)
      (grantLaw_resumeDeletion hm (hr v List.mem_cons_self) hs)
    exact (hr w (List.mem_cons_of_mem v hw)).of_resumed (fun e => hv (e ▸ hw))

theorem grantLaw_finishRecovery (hm : s.mode = .recovering) (hs : GrantLaw s) : GrantLaw (finishRecovery s) := by
  have hrest := hs.rest hm
  cases hf : s.recovery.firstFault with
  | some c =>
    rw [finishRecovery_frozen hf]
    exact GrantLaw.running nofun hs.leases hs.queues hs.store hs.staged nofun
  | none =>
    rw [finishRecovery_serving hf]
    have hr : AtRest (servingAgain s) := by
      obtain ⟨h1, h2, h3, h4, h5, h6, h7⟩ := hrest
      exact ⟨h1, h2, h3, h4, h5, h6, h7⟩
    have hw := hr.workLaw
    have hvol : Table.wf (servingAgain s).volumes = true := hs.volumes hm
    refine grantLaw_resumeAll ?_ rfl (fun v hv => ⟨fun h => ?_, ?_, fun e he => ?_⟩)
      (GrantLaw.running nofun hs.leases hs.queues hs.store hs.staged (fun _ => hw))
    · exact (List.filter_sublist.map Prod.fst).nodup (Table.wf_nodup _ hvol)
    · rw [hr.held] at h
      cases h
    · exact (mem_deletingVolumes hvol v).mp hv
    · rw [hr.grants] at he
      cases he

theorem sweepStep_mode (reads : Reads) (hm : s.mode = .recovering) : (sweepStep reads s).mode = .recovering := by
  unfold sweepStep
  split
  · have hl := recoveringWith_endReplay (recoveringWith_replayRest (recoveringWith_logged reads (recoveringWith_self hm)))
    have hf := recoveringWith_areaFaults (fun e : StoreArea × ReadFault => e.1) (fun e => e.2) (tableReports reads) hl
    exact (sweeping_sweepMaps _ reads (sweeping_loadTables (tableView reads _) hf.1)).1
  · exact hm

theorem grantLaw_endStep (hs : GrantLaw s) : GrantLaw (endStep s) := by
  unfold endStep
  split
  · rename_i hm
    exact grantLaw_finishRecovery (sweepStep_mode [] hm) (grantLaw_sweepStep [] hs)
  · exact hs

/-! ## Failed writes (R157) -/

theorem calm_failReplayEffect (n : Nat) (reads : Reads) (s : State) : Calm s (failReplayEffect n reads s) := by
  unfold failReplayEffect
  dsimp only
  split
  · split
    · rename_i image _ _
      split
      · rename_i e _
        have hr := ((calm_logged reads s).trans (calm_replayEffects reads (image.effects.take n) false _)).trans
          (calm_replayRead reads e _)
        split
        · rename_i hb
          rw [hb] at hr
          exact (hr.trans (calm_recovery _ _)).trans (calm_storeFault _ _ _ _)
        · exact Calm.refl s
      · exact Calm.refl s
    · exact Calm.refl s
  · exact Calm.refl s

theorem calm_failReplayRetirement (reads : Reads) (s : State) : Calm s (failReplayRetirement reads s) := by
  unfold failReplayRetirement
  dsimp only
  split
  · split
    · rename_i image _
      have hr := (calm_logged reads s).trans (calm_replayEffects reads image.effects false _)
      split
      · rename_i hb
        rw [hb] at hr
        exact (hr.trans (calm_recovery _ _)).trans (calm_storeFault _ _ _ _)
      · exact Calm.refl s
    · exact Calm.refl s
    · exact Calm.refl s
  · exact Calm.refl s

theorem calm_failBootCount (s : State) : Calm s (failBootCount s) := by
  unfold failBootCount
  exact Calm.ite (calm_storeFault _ _ _ _).after (Calm.refl s)

theorem calm_failWrite (target : WriteTarget) (s : State) : Calm s (failWrite target s) := by
  cases target with
  | logImage slot => exact calm_failImage slot s
  | effect corrected => exact calm_failEffect corrected s
  | retirement => exact calm_failRetire s
  | bootCount => exact calm_failBootCount s
  | writeBack a => exact calm_failWriteBack a s
  | replayEffect k reads => exact calm_failReplayEffect k reads s
  | replayRetirement reads => exact calm_failReplayRetirement reads s

end Sys2Proof.Machine
end

section
/-! PROOFS. The law of the STAGED grants under every command (R48). -/

namespace Sys2Proof.Machine

open State

variable {s b u : State}

/-! ## Arrival -/

section
variable {o : Origin} {kind : RequestKind} {k : State → State}

theorem grantLaw_refuse (r : Reason) (hs : GrantLaw s) : GrantLaw (refuse o kind r s) := (calm_refuse _ _ _ _).law hs

theorem grantLaw_answer {code : Byte} {a : AnswerOutcome} {x : AnswerBody} (hs : GrantLaw s) : GrantLaw (answer o code a x s) :=
  (calm_answer _ _ _ _ _).law hs

theorem grantLaw_refuseWith (r : Reason) (x : AnswerBody) (hs : GrantLaw s) :
    GrantLaw (refuseWith o kind r x s) := grantLaw_answer hs

theorem grantLaw_onVolume {v : Nat} (hk : volumeRefusal s v = none → GrantLaw (k s)) (hs : GrantLaw s) :
    GrantLaw (onVolume o kind v k s) := by
  unfold onVolume
  split
  · exact grantLaw_refuse _ hs
  · rename_i h
    exact hk h

theorem serving_of {m : PartMode} (hr : m ≠ .recovering) (hf : m ≠ .frozen) : m = .serving := by
  cases m with
  | serving => rfl
  | recovering => exact absurd rfl hr
  | frozen => exact absurd rfl hf

theorem grantLaw_unlessFrozen (hm : s.mode ≠ .recovering) (hk : s.mode = .serving → GrantLaw (k s)) (hs : GrantLaw s) :
    GrantLaw (unlessFrozen o kind k s) := by
  unfold unlessFrozen
  split
  · exact grantLaw_refuse _ hs
  · rename_i hf
    exact hk (serving_of hm hf)

/-- A durable request that is not refused FROZEN waits. -/
theorem grantLaw_unlessEnqueue {r : Request} (hm : s.mode ≠ .recovering) (hs : GrantLaw s)
    (hr : r.lawful r.queue = true := by simp [Request.lawful, Request.queue]) : GrantLaw (unlessFrozen o kind (enqueue r o) s) :=
  grantLaw_unlessFrozen hm (fun _ => grantLaw_enqueue o hr hm hs) hs

theorem grantLaw_receive {code : Byte} (hk : ∀ b, GrantLaw b → GrantLaw (k b)) (hs : GrantLaw s) :
    GrantLaw (receive o code k s) :=
  grantLaw_ite hs (grantLaw_ite hs.of_idle (hk _ hs.of_idle))

/-- A request but QueryPart goes on to its own rule only outside RECOVERING (R180 step 5). -/
theorem grantLaw_request {p : Port} {t : Tag} (h : request p t kind k s = .next u) (hkind : kind ≠ .queryPart)
    (hk : ∀ b, b.mode ≠ .recovering → GrantLaw b → GrantLaw (k b)) (hs : GrantLaw s) : GrantLaw u := by
  cases h
  refine grantLaw_receive (fun b hb => ?_) (grantLaw_finishDue hs)
  unfold admitRequest
  split
  · exact grantLaw_refuse _ hb
  · rename_i hm
    exact grantLaw_ite (grantLaw_refuse _ hb) (hk b (fun h => hm ⟨h, hkind⟩) hb)

theorem grantLaw_event (h : event k s = .next u) (hk : ∀ b, GrantLaw b → GrantLaw (k b)) (hs : GrantLaw s) : GrantLaw u := by
  cases h
  exact hk _ (grantLaw_finishDue hs)

theorem calm_event (h : event k s = .next u) (hk : ∀ b, Calm b (k b)) (hs : GrantLaw s) : GrantLaw u :=
  grantLaw_event h (fun b hb => (hk b).law hb) hs

theorem grantLaw_stepDue {d : Due} (h : stepDue d k s = .next u) (hk : ∀ b, b.mode = .serving → GrantLaw b → GrantLaw (k b))
    (hs : GrantLaw s) : GrantLaw u := by
  cases h
  have hb := grantLaw_finishUntil d hs
  split
  · rename_i hd
    exact hk _ (due?_serving hd) hb
  · exact hb

end

/-! ## Requests of the membership -/

section
variable (o : Origin)

theorem grantLaw_judgeJoin (i : BitVec 32) (hs : GrantLaw s) : GrantLaw (judgeJoin o i s) := by
  unfold judgeJoin answerJoined
  split
  · exact grantLaw_answer ((calm_joinHead _ _ s).law hs)
  · exact grantLaw_ite (grantLaw_refuseWith _ _ hs) (grantLaw_answer ((calm_joinHead _ _ s).law hs))
  · exact grantLaw_ite (grantLaw_answer ((calm_setHead _ _ s).law hs)) (grantLaw_answer ((calm_joinHead _ _ _).law
      (grantLaw_lapse o.port hs)))

theorem grantLaw_judgeRenew (i : BitVec 32) (ack : Gen) (hs : GrantLaw s) : GrantLaw (judgeRenew o i ack s) := by
  unfold judgeRenew
  split
  · refine grantLaw_ite (grantLaw_refuse _ hs) (grantLaw_ite (grantLaw_refuse _ hs) (grantLaw_answer ?_))
    have hh (m : Head) : GrantLaw (setHead o.port m s) := (calm_setHead o.port m s).law hs
    exact grantLaw_ite ((calm_releaseTest _).law (hh _)) (hh _)
  · exact grantLaw_refuse _ hs
  · exact grantLaw_refuse _ hs

theorem grantLaw_judgeConfigure (period : Byte) (l g d gr : Nat) (hm : s.mode ≠ .recovering) (hs : GrantLaw s) :
    GrantLaw (judgeConfigure o period l g d gr s) := by
  unfold judgeConfigure
  refine grantLaw_ite (grantLaw_refuse _ hs) ?_
  split
  · exact grantLaw_refuse _ hs
  · exact grantLaw_ite (grantLaw_enqueue o rfl hm hs) (grantLaw_refuse _ hs)

theorem grantLaw_judgeClearFault (source : Byte) (hs : GrantLaw s) : GrantLaw (judgeClearFault o source s) := by
  unfold judgeClearFault
  split
  · exact grantLaw_refuse _ hs
  · exact grantLaw_answer hs.of_idle

/-! ## Requests on leases -/

theorem grantLaw_takeLease {v : Nat} (orphan : Bool) (hh : (s.lease v).hold.holder? = none) (hs : GrantLaw s) :
    GrantLaw (takeLease o v orphan s) :=
  (calm_reportVolume v _).law (grantLaw_answer (grantLaw_setLease _ (unstaged_of_unheld hs.staged hh) hs))

theorem calm_joinWaiters (v : Nat) (h : Port) (d : Bool) (s : State) : Calm s (joinWaiters o v h d s) := by
  unfold joinWaiters
  dsimp only
  refine Calm.trans ?_ (calm_addNotice _ _ _)
  refine calm_setLease ?_ ?_
  · dsimp only
    split
    · rename_i hh
      rw [hh]
      rfl
    · rfl
  · rfl

theorem grantLaw_claimFlags (v : Nat) (wait demand : Byte) (hs : GrantLaw s) : GrantLaw (claimFlags o v wait demand s) := by
  have hclaim (w d : Bool) : GrantLaw (judgeClaim o v w d s) := by
    unfold judgeClaim
    dsimp only
    split
    · rename_i hh
      exact grantLaw_takeLease o _ hh hs
    · exact grantLaw_ite (grantLaw_answer hs) (grantLaw_ite (grantLaw_refuseWith _ _ hs) ((calm_joinWaiters o v _ d s).law hs))
  unfold claimFlags
  split
  · exact grantLaw_ite (grantLaw_refuse _ hs) (hclaim _ _)
  · exact grantLaw_refuse _ hs
  · exact grantLaw_refuse _ hs

theorem grantLaw_judgeRelease (v : Nat) (hs : GrantLaw s) : GrantLaw (judgeRelease o v s) := by
  unfold judgeRelease answerReleased
  dsimp only
  split
  · rename_i hh
    exact grantLaw_answer (grantLaw_loseLease false .free (unstaged_stagedOn (some o.port) (heldBy_iff.mp hh) hs)
      ((calm_dropGrants _ _ s).law hs))
  · split
    · exact grantLaw_answer (grantLaw_refuse _ ((calm_departWaiter _ v s).law hs))
    · exact grantLaw_refuse _ hs

/-! ## Requests on volumes and tenants -/

theorem modeOf_present {b : Byte} {m : VolState} (h : modeOf b = some m) : m ≠ .absent := by
  unfold modeOf at h
  split at h
  · cases h; decide
  · split at h
    · cases h; decide
    · cases h

theorem grantLaw_judgeCreate (v t : Nat) (pool : Byte) (size : Nat) (mode : Byte) (hm : s.mode ≠ .recovering) (hs : GrantLaw s) :
    GrantLaw (judgeCreate o v t pool size mode s) := by
  unfold judgeCreate
  refine grantLaw_ite (grantLaw_refuse _ hs) (grantLaw_ite (grantLaw_refuse _ hs) ?_)
  split
  · rename_i hmode
    refine grantLaw_ite (grantLaw_refuse _ hs) (grantLaw_ite (grantLaw_refuse _ hs) (grantLaw_unlessEnqueue hm hs ?_))
    simpa [Request.lawful, Request.queue] using modeOf_present hmode
  · exact grantLaw_refuse _ hs
  · exact grantLaw_refuse _ hs

theorem grantLaw_judgeResize (v size : Nat) (hm : s.mode ≠ .recovering) (hs : GrantLaw s) : GrantLaw (judgeResize o v size s) :=
  grantLaw_ite (grantLaw_refuse _ hs) (grantLaw_unlessEnqueue hm hs)

theorem grantLaw_judgeMode (v : Nat) (mode : Byte) (hm : s.mode ≠ .recovering) (hs : GrantLaw s) :
    GrantLaw (judgeMode o v mode s) := by
  unfold judgeMode
  split
  · exact grantLaw_refuse _ hs
  · rename_i hmode
    refine grantLaw_unlessEnqueue hm hs ?_
    simpa [Request.lawful, Request.queue] using modeOf_present hmode

theorem grantLaw_judgeQueryVolume (v : Nat) (clear : Byte) (hs : GrantLaw s) : GrantLaw (judgeQueryVolume o v clear s) := by
  unfold judgeQueryVolume
  refine grantLaw_ite (grantLaw_refuse _ hs) (grantLaw_ite (grantLaw_refuse _ hs) ?_)
  split
  · exact grantLaw_refuse _ hs
  · exact grantLaw_ite ((calm_setLatch v false _).law (grantLaw_answer hs)) (grantLaw_answer hs)

theorem grantLaw_judgeSetTenant (t : Nat) (quota : BitVec 32) (hm : s.mode ≠ .recovering) (hs : GrantLaw s) :
    GrantLaw (judgeSetTenant o t quota s) :=
  grantLaw_ite (grantLaw_refuse _ hs) (grantLaw_ite (grantLaw_refuse _ hs) (grantLaw_unlessEnqueue hm hs))

theorem grantLaw_judgeQueryTenant (t : Nat) (hs : GrantLaw s) : GrantLaw (judgeQueryTenant o t s) :=
  grantLaw_ite (grantLaw_refuse _ hs) (grantLaw_answer hs)

theorem grantLaw_judgeResolve (v first count : Nat) (reads : Reads) (hs : GrantLaw s) :
    GrantLaw (judgeResolve o v first count reads s) :=
  grantLaw_ite (grantLaw_refuse _ hs) (grantLaw_ite (grantLaw_refuse _ hs) (grantLaw_answer ((calm_resolveCells v _ s).law hs)))

theorem grantLaw_noteNothing (v i : Nat) (reads : Reads) (hs : GrantLaw s) : GrantLaw (noteNothing o v i reads s) := by
  unfold noteNothing
  refine grantLaw_ite (grantLaw_refuse _ hs) ?_
  split
  · rename_i hr
    exact grantLaw_refuse _ ((calm_of_readCells hr).law hs)
  · rename_i hr
    have hb := (calm_of_readCells hr).law hs
    split
    · exact grantLaw_refuse _ hb
    · exact grantLaw_answer hb

theorem grantLaw_judgeNoteWritten (v i : Nat) (written : Mask) (reads : Reads) (hm : s.mode ≠ .recovering) (hs : GrantLaw s) :
    GrantLaw (judgeNoteWritten o v i written reads s) :=
  grantLaw_unlessFrozen hm (fun _ => grantLaw_ite (grantLaw_noteNothing o v i reads hs)
    (grantLaw_enqueue o (by simp [Request.lawful, Request.queue]) hm hs)) hs

theorem grantLaw_judgeUnmap (v first count : Nat) (hm : s.mode ≠ .recovering) (hs : GrantLaw s) :
    GrantLaw (judgeUnmap o v first count s) :=
  grantLaw_ite (grantLaw_refuse _ hs) (grantLaw_enqueue o (by simp [Request.lawful, Request.queue]) hm hs)

/-! ## Requests on grants -/

/-- A volume that R3 lets a request name is ACTIVE or READ_ONLY. -/
theorem live_of_named {v : Nat} (h : volumeRefusal s v = none) :
    (s.volume v).state = .active ∨ (s.volume v).state = .readOnly := by
  unfold volumeRefusal at h
  split at h
  · cases h
  · split at h
    · cases h
    · cases h
    · exact Or.inl ‹_›
    · exact Or.inr ‹_›

theorem grantLaw_judgeReserve {v : Nat} (first count : Nat) (reads : Reads) (hm : s.mode = .serving)
    (hv : volumeRefusal s v = none) (hs : GrantLaw s) : GrantLaw (judgeReserve o v first count reads s) := by
  unfold judgeReserve
  refine grantLaw_ite (grantLaw_refuse _ hs) ?_
  split
  · exact grantLaw_refuse _ hs
  · rename_i hh
    refine grantLaw_ite (grantLaw_refuse _ hs) (grantLaw_ite (grantLaw_refuse _ hs) ?_)
    have hg : Grantable o.port v s := ⟨hm, heldBy_iff.mp (by simpa using hh), live_of_named hv⟩
    split
    · rename_i hr
      exact grantLaw_refuse _ ((calm_of_readCells hr).law hs)
    · rename_i hr
      have hi := idle_of_readCells hr
      split
      · exact grantLaw_refuseWith _ _ (hs.of_idle hi)
      · exact grantLaw_answer (grantLaw_makeAllocation _ _ _ _ (hg.of_idle hi) (hs.of_idle hi))

theorem grantLaw_judgeRelocate {v : Nat} (i : Nat) (reads : Reads) (hm : s.mode = .serving) (hv : volumeRefusal s v = none)
    (hs : GrantLaw s) : GrantLaw (judgeRelocate o v i reads s) := by
  unfold judgeRelocate
  split
  · exact grantLaw_refuse _ hs
  · rename_i hh
    refine grantLaw_ite (grantLaw_refuse _ hs) ?_
    have hg : Grantable o.port v s := ⟨hm, heldBy_iff.mp (by simpa using hh), live_of_named hv⟩
    split
    · rename_i hr
      exact grantLaw_refuse _ ((calm_of_readCells hr).law hs)
    · rename_i hr
      have hi := idle_of_readCells hr
      have hb := hs.of_idle hi
      split
      · exact grantLaw_refuseWith _ _ hb
      · refine grantLaw_ite (grantLaw_refuseWith _ _ hb) (grantLaw_ite (grantLaw_refuseWith _ _ hb) (grantLaw_ite
          (grantLaw_refuseWith _ _ hb) ?_))
        split
        · exact grantLaw_refuse _ hb
        · split
          · exact grantLaw_makeRelocation _ _ _ _ (hg.of_idle hi) hb
          · exact grantLaw_refuseWith _ _ hb
          · exact grantLaw_refuseWith _ _ hb

theorem grant?_of_named {n : Nat} {serial : BitVec 16} {g : Grant}
    (h : namedGrant s n serial = some g) : s.grant? n = some g := by
  unfold namedGrant at h
  split at h
  · rename_i x hx
    split at h
    · cases h
      exact hx
    · cases h
  · cases h

/-- A grant commits and its request waits. -/
theorem grantLaw_commit {n : Nat} {g : Grant} {r : Request} (hg : s.grant? n = some g) (hr : r.lawful r.queue = true)
    (hm : s.mode ≠ .recovering) (hs : GrantLaw s) : GrantLaw (enqueue r o (s.setGrant n { g with state := .binding })) :=
  grantLaw_enqueue o hr hm ((calm_setGrant (x := { g with state := .binding }) hg (fun h => by cases h) rfl rfl rfl).law hs)

theorem grantLaw_bindForm (n : Nat) (serial check : BitVec 16) (advance : Byte) (written : List Mask) (hm : s.mode ≠ .recovering)
    (hs : GrantLaw s) : GrantLaw (bindForm o n serial check advance written s) := by
  have hbind (a : Bool) : GrantLaw (judgeBind o n serial check a written s) := by
    unfold judgeBind
    split
    · exact grantLaw_refuse _ hs
    · rename_i hg
      exact grantLaw_ite (grantLaw_refuse _ hs) (grantLaw_ite (grantLaw_refuse _ hs) (grantLaw_ite (grantLaw_refuse _ hs)
        (grantLaw_ite (grantLaw_refuse _ hs)
        (grantLaw_ite (grantLaw_refuse _ hs) (grantLaw_commit o (grant?_of_named hg) (by simp [Request.lawful,
          Request.queue]) hm hs)))))
  unfold bindForm
  split
  · exact grantLaw_refuse _ hs
  · exact grantLaw_ite (grantLaw_refuse _ hs) (hbind _)

theorem grantLaw_judgeAbandon (n : Nat) (serial : BitVec 16) (hs : GrantLaw s) : GrantLaw (judgeAbandon o n serial s) := by
  unfold judgeAbandon
  refine grantLaw_ite (grantLaw_refuse _ hs) ?_
  split
  · exact grantLaw_refuse _ hs
  · exact grantLaw_ite (grantLaw_refuse _ hs) (grantLaw_ite (grantLaw_refuse _ hs) (grantLaw_answer
      ((calm_dropGrant _ n s).law hs)))

theorem grantLaw_judgeCompleteRelocate (n : Nat) (serial check : BitVec 16) (hm : s.mode ≠ .recovering) (hs : GrantLaw s) :
    GrantLaw (judgeCompleteRelocate o n serial check s) := by
  unfold judgeCompleteRelocate
  refine grantLaw_ite (grantLaw_refuse _ hs) ?_
  split
  · exact grantLaw_refuse _ hs
  · rename_i hg
    exact grantLaw_ite (grantLaw_refuse _ hs) (grantLaw_ite (grantLaw_refuse _ hs) (grantLaw_ite (grantLaw_refuse _ hs)
      (grantLaw_ite (grantLaw_refuse _ hs)
      (grantLaw_ite (grantLaw_refuse _ hs) (grantLaw_commit (s := { s with promises := s.promises + 1 }) o (grant?_of_named hg)
        (by simp [Request.lawful, Request.queue]) hm ((calm_promises _ s).law hs))))))

/-! ## Requests on the shelf, and Watch -/

theorem grantLaw_judgeAddSpan (span pool : Byte) (length : Nat) (hm : s.mode ≠ .recovering) (hs : GrantLaw s) :
    GrantLaw (judgeAddSpan o span pool length s) := by
  unfold judgeAddSpan
  split
  · exact grantLaw_ite (grantLaw_refuse _ hs) (grantLaw_unlessEnqueue hm hs)
  · exact grantLaw_refuse _ hs
  · exact grantLaw_refuse _ hs

theorem grantLaw_judgeDrainSpan (span setting : Byte) (hm : s.mode ≠ .recovering) (hs : GrantLaw s) :
    GrantLaw (judgeDrainSpan o span setting s) := by
  unfold judgeDrainSpan
  split
  · exact grantLaw_unlessEnqueue hm hs
  · exact grantLaw_refuse _ hs
  · exact grantLaw_refuse _ hs

theorem grantLaw_judgeRemoveSpan (span : Byte) (hm : s.mode ≠ .recovering) (hs : GrantLaw s) :
    GrantLaw (judgeRemoveSpan o span s) := by
  unfold judgeRemoveSpan
  split
  · exact grantLaw_unlessEnqueue hm hs
  · exact grantLaw_refuse _ hs

theorem grantLaw_judgeSetPool (pool : Byte) (w c f : Nat) (hm : s.mode ≠ .recovering) (hs : GrantLaw s) :
    GrantLaw (judgeSetPool o pool w c f s) := by
  unfold judgeSetPool
  split
  · exact grantLaw_refuse _ hs
  · exact grantLaw_ite (grantLaw_refuse _ hs) (grantLaw_unlessEnqueue hm hs)

theorem grantLaw_judgeQueryPool (pool : Byte) (hs : GrantLaw s) : GrantLaw (judgeQueryPool o pool s) := by
  unfold judgeQueryPool
  split
  · exact grantLaw_refuse _ hs
  · exact grantLaw_answer hs

theorem grantLaw_judgeWatch (timeout : Nat) (items : List WatchItem) (hs : GrantLaw s) :
    GrantLaw (judgeWatch o timeout items s) := by
  have hitems (es : List WatchExpect) : GrantLaw (judgeItems o timeout es s) := by
    unfold judgeItems
    refine grantLaw_ite (grantLaw_refuse _ hs) ?_
    split
    · exact grantLaw_refuseWith _ _ hs
    · exact grantLaw_ite (grantLaw_answer hs) ((calm_watches _ s).law hs)
  unfold judgeWatch
  split
  · exact grantLaw_refuse _ hs
  · exact grantLaw_ite (grantLaw_refuse _ hs) (hitems _)

theorem grantLaw_receiveMalformed (code : Byte) (body : List Byte) (hs : GrantLaw s) :
    GrantLaw (receiveMalformed o code body s) :=
  grantLaw_ite (grantLaw_receive (fun _ hb => grantLaw_ite (grantLaw_answer hb) (grantLaw_answer hb)) hs) hs

end

/-! ## Every command -/

theorem calm_updatePort (p : Port) (f : HeadPort → HeadPort) (s : State) : Calm s (s.updatePort p f) := Calm.of_idle rfl

theorem calm_dropDamaged (p : Port) (frame : List Byte) (s : State) : Calm s (dropDamaged p frame s) :=
  Calm.ite (Calm.of_idle rfl) (Calm.refl s)

theorem grantLaw_exec (i : Instr) (hs : GrantLaw s) (h : exec i s = .next u) : GrantLaw u := by
  cases i with
  | join p t i => exact grantLaw_request h (by decide) (fun _ _ => grantLaw_judgeJoin _ _) hs
  | renew p t i ack => exact grantLaw_request h (by decide) (fun _ _ => grantLaw_judgeRenew _ _ _) hs
  | leave p t => exact grantLaw_request h (by decide) (fun _ _ hb => grantLaw_answer (grantLaw_leaveHead p hb)) hs
  | configure p t period l g d gr => exact grantLaw_request h (by decide) (fun _ => grantLaw_judgeConfigure _ _ _ _ _ _) hs
  | queryPart p t =>
    cases h
    exact grantLaw_receive (fun _ hb => grantLaw_ite (grantLaw_refuse _ hb) (grantLaw_ite (grantLaw_refuse _ hb)
      (grantLaw_answer hb))) (grantLaw_finishDue hs)
  | queryFaults p t => exact grantLaw_request h (by decide) (fun _ _ => grantLaw_answer) hs
  | clearFault p t source => exact grantLaw_request h (by decide) (fun _ _ => grantLaw_judgeClearFault _ _) hs
  | claim p t v wait demand =>
    exact grantLaw_request h (by decide) (fun _ _ hb => grantLaw_onVolume (fun _ => grantLaw_claimFlags _ _ _ _ hb) hb) hs
  | release p t v => exact grantLaw_request h (by decide) (fun _ _ hb => grantLaw_onVolume
    (fun _ => grantLaw_judgeRelease _ _ hb) hb) hs
  | createVolume p t v te pool size mode => exact grantLaw_request h (by decide) (fun _ => grantLaw_judgeCreate _ _ _ _ _ _) hs
  | deleteVolume p t v =>
    exact grantLaw_request h (by decide) (fun _ hm hb => grantLaw_onVolume (fun _ => grantLaw_unlessEnqueue hm hb) hb) hs
  | resizeVolume p t v size =>
    exact grantLaw_request h (by decide) (fun _ hm hb => grantLaw_onVolume (fun _ => grantLaw_judgeResize _ _ _ hm hb) hb) hs
  | setVolumeMode p t v mode =>
    exact grantLaw_request h (by decide) (fun _ hm hb => grantLaw_onVolume (fun _ => grantLaw_judgeMode _ _ _ hm hb) hb) hs
  | queryVolume p t v clear => exact grantLaw_request h (by decide) (fun _ _ => grantLaw_judgeQueryVolume _ _ _) hs
  | setTenant p t te quota => exact grantLaw_request h (by decide) (fun _ => grantLaw_judgeSetTenant _ _ _) hs
  | queryTenant p t te => exact grantLaw_request h (by decide) (fun _ _ => grantLaw_judgeQueryTenant _ _) hs
  | resolve p t v first count reads =>
    exact grantLaw_request h (by decide) (fun _ _ hb => grantLaw_onVolume (fun _ => grantLaw_judgeResolve _ _ _ _ _ hb) hb) hs
  | noteWritten p t v i written reads =>
    exact grantLaw_request h (by decide) (fun _ hm hb => grantLaw_onVolume
      (fun _ => grantLaw_judgeNoteWritten _ _ _ _ _ hm hb) hb) hs
  | unmap p t v first count =>
    exact grantLaw_request h (by decide)
      (fun _ hm hb => grantLaw_unlessFrozen hm (fun _ => grantLaw_onVolume (fun _ => grantLaw_judgeUnmap _ _ _ _ hm hb) hb) hb) hs
  | reserve p t v first count reads =>
    exact grantLaw_request h (by decide)
      (fun _ hm hb => grantLaw_unlessFrozen hm (fun hs => grantLaw_onVolume
        (fun hv => grantLaw_judgeReserve _ _ _ _ hs hv hb) hb) hb) hs
  | bind p t g serial check advance written =>
    exact grantLaw_request h (by decide) (fun _ hm hb => grantLaw_unlessFrozen hm
      (fun _ => grantLaw_bindForm _ _ _ _ _ _ hm hb) hb) hs
  | abandon p t g serial => exact grantLaw_request h (by decide) (fun _ _ => grantLaw_judgeAbandon _ _ _) hs
  | relocate p t v i reads =>
    exact grantLaw_request h (by decide)
      (fun _ hm hb => grantLaw_unlessFrozen hm (fun hs => grantLaw_onVolume
        (fun hv => grantLaw_judgeRelocate _ _ _ hs hv hb) hb) hb) hs
  | completeRelocate p t g serial check =>
    exact grantLaw_request h (by decide)
      (fun _ hm hb => grantLaw_unlessFrozen hm (fun _ => grantLaw_judgeCompleteRelocate _ _ _ _ hm hb) hb) hs
  | addSpan p t span pool length => exact grantLaw_request h (by decide) (fun _ => grantLaw_judgeAddSpan _ _ _ _) hs
  | drainSpan p t span setting => exact grantLaw_request h (by decide) (fun _ => grantLaw_judgeDrainSpan _ _ _) hs
  | removeSpan p t span => exact grantLaw_request h (by decide) (fun _ => grantLaw_judgeRemoveSpan _ _) hs
  | setPool p t pool w c f => exact grantLaw_request h (by decide) (fun _ => grantLaw_judgeSetPool _ _ _ _ _) hs
  | queryPool p t pool => exact grantLaw_request h (by decide) (fun _ _ => grantLaw_judgeQueryPool _ _) hs
  | watch p t timeout items => exact grantLaw_request h (by decide) (fun _ _ => grantLaw_judgeWatch _ _ _) hs
  | unknownRequestKind p t code body => exact grantLaw_event h (fun _ => grantLaw_receiveMalformed _ _ _) hs
  | frameDamaged p frame => exact calm_event h (calm_dropDamaged p frame) hs
  | powerOn boot =>
    exact grantLaw_event (k := fun s => { restart .power boot s with faults := .clear }) h
      (fun _ hb => (grantLaw_restart .power boot hb).of_idle) hs
  | lineReset boot => exact grantLaw_event h (fun _ => grantLaw_restart .line boot) hs
  | linkUp p =>
    exact calm_event (k := fun s => if s.linkUp p then s else s.updatePort p HeadPort.trained) h
      (fun b => Calm.ite (Calm.refl b) (calm_updatePort p _ b)) hs
  | linkDown p =>
    exact grantLaw_event (k := fun s => if s.linkUp p then loseLink p s else s) h (fun _ hb => grantLaw_ite
      (grantLaw_loseLink p hb) hb) hs
  | answerSent p =>
    exact calm_event (k := fun s => if s.linkUp p then s.updatePort p HeadPort.sent else s) h
      (fun b => Calm.ite (calm_updatePort p _ b) (Calm.refl b)) hs
  | noticeDelivered p =>
    exact calm_event (k := fun s => if s.linkUp p then s.updatePort p HeadPort.delivered else s) h
      (fun b => Calm.ite (calm_updatePort p _ b) (Calm.refl b)) hs
  | tick => exact calm_event h calm_tickAll hs
  | livenessExpiry => exact grantLaw_event h (fun _ => grantLaw_expireLiveness) hs
  | grantExpiry => exact calm_event h calm_expireGrant hs
  | recallExpiry => exact grantLaw_event h (fun _ => grantLaw_expireRecall) hs
  | stallExpiryQuiet => exact calm_event h calm_expireQuiet hs
  | stallExpiryWarned => exact grantLaw_event h (fun _ => grantLaw_expireWarned) hs
  | watchTimeout => exact calm_event h calm_expireWatch hs
  | validate q reads => exact grantLaw_stepDue h (fun _ => grantLaw_validateFront q reads) hs
  | logSlotTaken => exact grantLaw_stepDue h (fun b hm => (less_takeSlot b).law (hm ▸ by decide)) hs
  | logWriteAck slot => exact calm_event h (calm_ackImage slot) hs
  | applyStart => exact grantLaw_stepDue h (fun b _ => (calm_startApply b).law) hs
  | effectWriteAck c => exact grantLaw_event h (fun _ => grantLaw_ackEffect c) hs
  | retireAck reads => exact grantLaw_event h (fun _ => grantLaw_ackRetire reads) hs
  | storeWriteFailed target => exact calm_event h (calm_failWrite target) hs
  | recoveryReplayIntent reads => exact calm_event h (calm_replayStep reads) hs
  | recoverySweep reads => exact grantLaw_event h (fun _ => grantLaw_sweepStep reads) hs
  | recoveryEnd => exact grantLaw_event h (fun _ => grantLaw_endStep) hs
  | deletionAdmitted reads => exact grantLaw_stepDue h (fun _ => grantLaw_formDeletion reads) hs
  | effectReadUncorrectable => exact calm_event h calm_failEffectRead hs

theorem grantLaw_step (hs : GrantLaw s) (h : step s = .next u) : GrantLaw u := by
  unfold step at h
  split at h
  · cases h
    exact hs
  · rename_i c rest _
    exact grantLaw_exec (s := { s with pending := rest }) c hs.of_idle h

/-- Settles O7: `GrantLaw` holds where the laws do, and every step keeps it. The law of the leases is not needed. -/
theorem stagedGrantLawKept : Obligations.StagedGrantLawKept := by
  intro s u ht _ hv hs h
  have hu := grantLaw_step (GrantLaw.of_laws ht hv hs) h
  exact ⟨hu.staged, hu.volumeLaw⟩

end Sys2Proof.Machine
end

section
/-! PROOFS. The checks of Bind, CompleteRelocate and Abandon, and the commitment of a grant (R55, R56, R62, R129, R130). -/

namespace Sys2Proof.Machine

open State

variable {p : Port} {t : Tag} {s : State} {g : Grant} {n : Nat}

/-! ## The grant that is named (R49) -/

theorem namedGrant_live (hg : s.grant? n = some g) : namedGrant s n g.serial = some g := by
  unfold namedGrant
  rw [hg]
  exact if_pos rfl

theorem namedGrant_expired {serial : BitVec 16} (h : ∀ g, s.grant? n = some g → g.serial ≠ serial) :
    namedGrant s n serial = none := by
  unfold namedGrant
  split
  · rename_i g hg
    exact if_neg (h g hg)
  · rfl

@[simp] theorem namedGrant_taken (n : Nat) (serial : BitVec 16) :
    namedGrant (taken p t s) n serial = namedGrant s n serial := rfl

theorem isStaged_of {c : Nat} (h : g.state = .staged c) : g.isStaged = true := by
  unfold Grant.isStaged
  rw [h]

/-! ## Bind (R55, R56) -/

section
variable {serial check : BitVec 16} {a : Bool} {w : List Mask} {r : Reason}

theorem flagOf_low {b : Byte} (h : b.toNat ≤ 1) : ∃ a, flagOf b = some a := by
  unfold flagOf
  by_cases h0 : b = 0#8
  · exact ⟨false, if_pos h0⟩
  · have h1 : b = 1#8 := by bv_omega
    rw [if_neg h0, if_pos h1]
    exact ⟨true, rfl⟩

/-- A Bind that passes its form check is judged on its grant. -/
theorem exec_bind {adv : Byte} {n : BitVec 16} (h : admits s p t) (hm : s.mode = .serving) (ha : flagOf adv = some a)
    (hn : n.toNat ≤ 1023) (h1 : 1 ≤ w.length) (h16 : w.length ≤ 16) :
    exec (.bind p t n serial check adv w) s = .next (judgeBind ⟨p, t⟩ n.toNat serial check a w (taken p t s)) := by
  refine (request_admits _ _ h).trans (congrArg _ ((unlessFrozen_serving (s := taken p t s) hm).trans ?_))
  unfold bindForm
  rw [ha]
  refine if_neg ?_
  have hr : Config.grantRecords = 1024 := rfl
  omega

/-- Of Bind's form check every failure is BAD_FORM. -/
theorem exec_bind_badForm {adv : Byte} {n : BitVec 16} (h : admits s p t) (hm : s.mode = .serving)
    (hf : 1 < adv.toNat ∨ 1023 < n.toNat ∨ w = [] ∨ 16 < w.length) :
    exec (.bind p t n serial check adv w) s = .next (answered p t 0x41 (.refused .badForm) .empty s) := by
  have hl := admits_linkUp h
  refine (request_admits _ _ h).trans (congrArg _ ((unlessFrozen_serving (s := taken p t s) hm).trans ?_))
  unfold bindForm
  rcases hf with hf | hf
  · rw [flagOf_high hf]
    exact refuse_taken _ _ hl
  · split
    · exact refuse_taken _ _ hl
    · refine (if_pos ?_).trans (refuse_taken _ _ hl)
      rcases hf with hf | hf | hf
      · exact Or.inl hf
      · exact Or.inr (Or.inl (hf ▸ rfl))
      · exact Or.inr (Or.inr hf)

/-- Each check of a Bind on its grant refuses with its reason, when those before it pass. -/
theorem judgeBind_refuses {o : Origin}
    (h : ((∀ g, s.grant? n = some g → g.serial ≠ serial) ∧ r = .grantExpired) ∨
      ∃ g, s.grant? n = some g ∧ g.serial = serial ∧
        ((g.owner ≠ o.port ∧ r = .notHolder) ∨
          (g.owner = o.port ∧ (g.kind = .relocate ∨ g.isStaged = false) ∧ r = .grantState) ∨
          (g.owner = o.port ∧ g.kind = .allocate ∧ g.isStaged = true ∧
            (((s.volume g.volume).state = .deleting ∧ r = .volumeState) ∨
              ((s.volume g.volume).state ≠ .deleting ∧
                ((check ≠ g.check ∧ r = .checkMismatch) ∨ (check = g.check ∧ w.length ≠ g.count ∧ r = .range))))))) :
    judgeBind o n serial check a w s = refuse o .bind r s := by
  unfold judgeBind
  rcases h with ⟨he, rfl⟩ | ⟨g, hg, rfl, h⟩
  · rw [namedGrant_expired he]
  · rw [namedGrant_live hg]
    dsimp only
    rcases h with ⟨ho, rfl⟩ | ⟨ho, hs, rfl⟩ | ⟨ho, hk, hs, h⟩
    · rw [if_pos ho]
    · rw [if_neg (not_not.mpr ho), if_pos (hs.imp (fun h => by rw [h]; decide) (fun h => by rw [h]; rfl))]
    · rw [if_neg (not_not.mpr ho), if_neg (by simp [hk, hs])]
      rcases h with ⟨hd, rfl⟩ | ⟨hd, ⟨hc, rfl⟩ | ⟨hc, hw, rfl⟩⟩
      · rw [if_pos hd]
      · rw [if_neg hd, if_pos hc]
      · rw [if_neg hd, if_neg (not_not.mpr hc), if_pos hw]

/-- A Bind that passes commits its grant and waits (R56). -/
theorem judgeBind_commits {o : Origin} (hg : s.grant? n = some g) (ho : g.owner = o.port) (hk : g.kind = .allocate)
    (hs : g.isStaged = true) (hd : (s.volume g.volume).state ≠ .deleting) (hw : w.length = g.count) :
    judgeBind o n g.serial g.check a w s = enqueue (.bind g.volume n a w) o (s.setGrant n { g with state := .binding }) := by
  unfold judgeBind
  rw [namedGrant_live hg]
  dsimp only
  rw [if_neg (not_not.mpr ho), if_neg (by simp [hk, hs]), if_neg hd, if_neg (not_not.mpr rfl), if_neg (not_not.mpr hw)]

end

/-! ## CompleteRelocate (R129, R130) -/

section
variable {serial check : BitVec 16} {r : Reason}

theorem exec_completeRelocate {n : BitVec 16} (h : admits s p t) (hm : s.mode = .serving) :
    exec (.completeRelocate p t n serial check) s =
      .next (judgeCompleteRelocate ⟨p, t⟩ n.toNat serial check (taken p t s)) :=
  (request_admits _ _ h).trans (congrArg _ (unlessFrozen_serving (s := taken p t s) hm))

theorem judgeCompleteRelocate_refuses {o : Origin}
    (h : (1023 < n ∧ r = .badForm) ∨ (n ≤ 1023 ∧ (((∀ g, s.grant? n = some g → g.serial ≠ serial) ∧ r = .grantExpired) ∨
      ∃ g, s.grant? n = some g ∧ g.serial = serial ∧
        ((g.owner ≠ o.port ∧ r = .notHolder) ∨
          (g.owner = o.port ∧ (g.kind = .allocate ∨ g.isStaged = false) ∧ r = .grantState) ∨
          (g.owner = o.port ∧ g.kind = .relocate ∧ g.isStaged = true ∧
            (((s.volume g.volume).state = .deleting ∧ r = .volumeState) ∨
              ((s.volume g.volume).state ≠ .deleting ∧
                ((check ≠ g.check ∧ r = .checkMismatch) ∨
                  (check = g.check ∧ 3072 ≤ s.admission ∧ r = .graceFull))))))))) :
    judgeCompleteRelocate o n serial check s = refuse o .completeRelocate r s := by
  unfold judgeCompleteRelocate
  rcases h with ⟨hn, rfl⟩ | ⟨hn, h⟩
  · exact if_pos hn
  refine (if_neg (Nat.not_le.mpr (Nat.lt_succ_of_le hn))).trans ?_
  rcases h with ⟨he, rfl⟩ | ⟨g, hg, rfl, h⟩
  · rw [namedGrant_expired he]
  · rw [namedGrant_live hg]
    dsimp only
    rcases h with ⟨ho, rfl⟩ | ⟨ho, hs, rfl⟩ | ⟨ho, hk, hs, h⟩
    · rw [if_pos ho]
    · rw [if_neg (not_not.mpr ho), if_pos (hs.imp (fun h => by rw [h]; decide) (fun h => by rw [h]; rfl))]
    · rw [if_neg (not_not.mpr ho), if_neg (by simp [hk, hs])]
      rcases h with ⟨hd, rfl⟩ | ⟨hd, ⟨hc, rfl⟩ | ⟨hc, ha, rfl⟩⟩
      · rw [if_pos hd]
      · rw [if_neg hd, if_pos hc]
      · rw [if_neg hd, if_neg (not_not.mpr hc)]
        exact if_pos ha

/-- A CompleteRelocate that passes commits its grant with a promise and waits (R130). -/
theorem judgeCompleteRelocate_commits {o : Origin} (hn : n ≤ 1023) (hg : s.grant? n = some g) (ho : g.owner = o.port)
    (hk : g.kind = .relocate) (hs : g.isStaged = true) (hd : (s.volume g.volume).state ≠ .deleting)
    (ha : s.admission < 3072) :
    judgeCompleteRelocate o n g.serial g.check s =
      enqueue (.completeRelocate g.volume n ⟨(s.volume g.volume).pool, []⟩) o
        ({ s with promises := s.promises + 1 }.setGrant n { g with state := .binding }) := by
  unfold judgeCompleteRelocate
  refine (if_neg (Nat.not_le.mpr (Nat.lt_succ_of_le hn))).trans ?_
  rw [namedGrant_live hg]
  dsimp only
  rw [if_neg (not_not.mpr ho), if_neg (by simp [hk, hs]), if_neg hd, if_neg (not_not.mpr rfl)]
  exact if_neg (Nat.not_le.mpr ha)

end

/-! ## Abandon (R62) -/

theorem judgeAbandon_refuses {o : Origin} {serial : BitVec 16} {r : Reason}
    (h : (1023 < n ∧ r = .badForm) ∨ (n ≤ 1023 ∧ (((∀ g, s.grant? n = some g → g.serial ≠ serial) ∧ r = .grantExpired) ∨
      ∃ g, s.grant? n = some g ∧ g.serial = serial ∧
        ((g.owner ≠ o.port ∧ r = .notHolder) ∨ (g.owner = o.port ∧ g.isStaged = false ∧ r = .grantState))))) :
    judgeAbandon o n serial s = refuse o .abandon r s := by
  unfold judgeAbandon
  rcases h with ⟨hn, rfl⟩ | ⟨hn, h⟩
  · exact if_pos hn
  refine (if_neg (Nat.not_le.mpr (Nat.lt_succ_of_le hn))).trans ?_
  rcases h with ⟨he, rfl⟩ | ⟨g, hg, rfl, h⟩
  · rw [namedGrant_expired he]
  · rw [namedGrant_live hg]
    dsimp only
    rcases h with ⟨ho, rfl⟩ | ⟨ho, hs, rfl⟩
    · rw [if_pos ho]
    · rw [if_neg (not_not.mpr ho), if_pos (by rw [hs]; rfl)]

/-- An Abandon that passes drops its grant and is answered. -/
theorem judgeAbandon_drops {o : Origin} (hn : n ≤ 1023) (hg : s.grant? n = some g) (ho : g.owner = o.port)
    (hs : g.isStaged = true) : judgeAbandon o n g.serial s =
      answer o RequestKind.abandon.code .done .empty (dropGrant (some o.port) n s) := by
  unfold judgeAbandon
  refine (if_neg (Nat.not_le.mpr (Nat.lt_succ_of_le hn))).trans ?_
  rw [namedGrant_live hg]
  dsimp only
  rw [if_neg (not_not.mpr ho), if_neg (by rw [hs]; decide)]

/-- Settles O45: each check of a judgement is a lemma of its own, and so is its commitment. -/
theorem bindAndCompleteCommit : Obligations.BindAndCompleteCommit := by
  refine ⟨fun p t n g c s h hm hn hg ho hst hd => ⟨fun adv w hk hw h1 h16 => ?_, fun adv w check hk hc h1 h16 => ?_,
    fun hk ha => ?_⟩, fun p t n serial check adv w r s h hm hr => ?_, fun p t n serial check r s h hm hr => ?_,
    fun p t n serial r s h hr => ?_⟩
  · rw [exec_bind h hm (flagOf_bool adv) hn h1 h16]
    exact congrArg _ (judgeBind_commits (s := taken p t s) hg ho hk (isStaged_of hst) hd hw)
  · have hl := admits_linkUp h
    rw [exec_bind h hm (flagOf_bool adv) hn h1 h16, judgeBind_refuses (r := .checkMismatch)]
    · exact congrArg _ (refuse_taken _ _ hl)
    · exact Or.inr ⟨g, hg, rfl, Or.inr (Or.inr ⟨ho, hk, isStaged_of hst, Or.inr ⟨hd, Or.inl ⟨hc, rfl⟩⟩⟩)⟩
  · rw [exec_completeRelocate h hm]
    exact congrArg _ (judgeCompleteRelocate_commits (s := taken p t s) hn hg ho hk (isStaged_of hst) hd ha)
  · have hl := admits_linkUp h
    rcases hr with ⟨hf, rfl⟩ | ⟨ha, hn, hw, h16, hr⟩
    · exact exec_bind_badForm h hm hf
    · obtain ⟨a, ha⟩ := flagOf_low ha
      rw [exec_bind h hm ha hn (List.length_pos_iff.mpr hw) h16, judgeBind_refuses (s := taken p t s) (o := ⟨p, t⟩) hr]
      exact congrArg _ (refuse_taken _ _ hl)
  · have hl := admits_linkUp h
    rw [exec_completeRelocate h hm, judgeCompleteRelocate_refuses (s := taken p t s) (o := ⟨p, t⟩) hr]
    exact congrArg _ (refuse_taken _ _ hl)
  · have hl := admits_linkUp h
    refine (request_admits _ _ h).trans (congrArg _ ?_)
    rw [judgeAbandon_refuses (s := taken p t s) (o := ⟨p, t⟩) hr]
    exact refuse_taken _ _ hl

end Sys2Proof.Machine
end

section
/-! PROOFS. Reserve: the checks of Table 3-3 and the allocation grant that it makes (R50 to R52). -/

namespace Sys2Proof.Machine

open State

variable {s : State} {p : Port} {t : Tag} {v first count n : Nat}

/-! ## The pending counts rise (R5) -/

theorem raisePending_volume (v n x : Nat) (s : State) : (raisePending v n s).volume x =
    if v = x then { s.volume v with pending := (s.volume v).pending + n } else s.volume x := by
  unfold raisePending
  rw [updateVolume_eq, volume_setVolume]
  rfl

theorem raisePending_keeps {γ : Type} (g : State → γ) (v n : Nat) (s : State)
    (hg : ∀ (t : State) a b, g { t with tenants := a, volumes := b } = g t := by intros; rfl) :
    g (raisePending v n s) = g s := hg s _ _

theorem raisePending_tenant (v n x : Nat) (s : State) : (raisePending v n s).tenant x =
    if (s.volume v).tenant = x then
      { s.tenant (s.volume v).tenant with pending := (s.tenant (s.volume v).tenant).pending + n }
    else s.tenant x :=
  tenant_updateTenant (s.volume v).tenant x (fun t => { t with pending := t.pending + n }) s

/-! ## An allocation grant is made (R51) -/

section
variable (n : Nat) (p : Port) (v first count : Nat) (check : BitVec 16 → BitVec 32 → List Extent → BitVec 16) (s : State)

/-- The grant that is made: STAGED, with the next serial, on the selected extents. -/
def newAllocation : Grant :=
  let extents := (chooseRun (s.volume v).pool none count s.spans).1
  { state := .staged s.timing.grant, serial := s.serial + 1, kind := .allocate, owner := p, volume := v,
    epoch := (s.lease v).epoch, first := first, count := count, extents := (runIndices first count).zip extents,
    check := check (s.serial + 1) (s.lease v).epoch extents }

theorem newAllocation_check : (newAllocation p v first count check s).check =
    check (s.serial + 1) (s.lease v).epoch (chooseRun (s.volume v).pool none count s.spans).1 := rfl

theorem newAllocation_extents : (newAllocation p v first count check s).extents =
    (runIndices first count).zip (chooseRun (s.volume v).pool none count s.spans).1 := rfl

/-- The pool's counts as extents pass from free to reserved. -/
def Pool.reserving (count : Nat) (r : Pool) : Pool :=
  { r with free := r.free - count, allocatable := r.allocatable - count, reserved := r.reserved + count }

/-- The state with the grant made, before its pool's level is judged. -/
def allocated : State :=
  raisePending v count (({ s with
    serial := s.serial + 1
    spans := (chooseRun (s.volume v).pool none count s.spans).2 }.setGrant n (newAllocation p v first count check s)).updatePool
      (s.volume v).pool (Pool.reserving count))

theorem makeAllocation_eq : makeAllocation n p v first count check s =
    judgeLevel (s.volume v).pool (allocated n p v first count check s) := rfl

/-- What reads neither ports nor pools sees the grant made and no more. -/
theorem makeAllocation_keeps {γ : Type} (g : State → γ) (hg : ∀ t : State, g t.eraseLevel = g t := by intro; rfl) :
    g (makeAllocation n p v first count check s) = g (allocated n p v first count check s) := judgeLevel_keeps g _ _ hg

theorem allocated_keeps {γ : Type} (g : State → γ)
    (hg : ∀ (t : State) a b c, g { t with tenants := a, volumes := b, pools := c } = g t := by intros; rfl) :
    g (allocated n p v first count check s) = g ({ s with
      serial := s.serial + 1
      spans := (chooseRun (s.volume v).pool none count s.spans).2 }.setGrant n (newAllocation p v first count check s)) :=
  (raisePending_keeps g v count _ (fun t a b => hg t a b t.pools)).trans (hg _ _ _ _)

theorem makeAllocation_grants : (makeAllocation n p v first count check s).grants =
    Table.insert n (newAllocation p v first count check s) s.grants :=
  (makeAllocation_keeps n p v first count check s State.grants).trans (allocated_keeps n p v first count check s State.grants)

theorem makeAllocation_spans : (makeAllocation n p v first count check s).spans =
    (chooseRun (s.volume v).pool none count s.spans).2 :=
  (makeAllocation_keeps n p v first count check s State.spans).trans (allocated_keeps n p v first count check s State.spans)

theorem makeAllocation_serial : (makeAllocation n p v first count check s).serial = s.serial + 1 :=
  (makeAllocation_keeps n p v first count check s State.serial).trans (allocated_keeps n p v first count check s State.serial)

/-- The state without what the making of a grant may touch. -/
def State.eraseMade (s : State) : State :=
  { s with
    ports := Vector.replicate 4 .down, spans := Vector.replicate 16 .absent, serial := 0, grants := []
    pools := Vector.replicate 8 .empty, volumes := [], tenants := [] }

theorem makeAllocation_erase : (makeAllocation n p v first count check s).eraseMade = s.eraseMade :=
  (makeAllocation_keeps n p v first count check s State.eraseMade).trans
    (allocated_keeps n p v first count check s State.eraseMade)

theorem makeAllocation_volume (x : Nat) : (makeAllocation n p v first count check s).volume x =
    if v = x then { s.volume v with pending := (s.volume v).pending + count } else s.volume x :=
  (congrFun (makeAllocation_keeps n p v first count check s State.volume) x).trans (raisePending_volume v count x _)

theorem makeAllocation_tenant (x : Nat) : (makeAllocation n p v first count check s).tenant x =
    if (s.volume v).tenant = x then
      { s.tenant (s.volume v).tenant with pending := (s.tenant (s.volume v).tenant).pending + count }
    else s.tenant x :=
  (congrFun (makeAllocation_keeps n p v first count check s State.tenant) x).trans (raisePending_tenant v count x _)

theorem makeAllocation_pools (j : PoolId) : (makeAllocation n p v first count check s).pools.get j =
    if (s.volume v).pool = j then
      { (s.pools.get (s.volume v).pool).reserving count with
        level := ((s.pools.get (s.volume v).pool).reserving count).judged }
    else s.pools.get j := by
  have hp : (allocated n p v first count check s).pools =
      putAt s.pools (s.volume v).pool ((s.pools.get (s.volume v).pool).reserving count) := rfl
  rw [makeAllocation_eq, judgeLevel_pools, hp, putAt_get]
  split
  · rw [putAt_get_self]
  · rename_i h
    rw [putAt_get_other _ _ _ _ h]

theorem makeAllocation_grows : portsGrow s (makeAllocation n p v first count check s) :=
  portsGrow_after (judgeLevel_grows _ (allocated n p v first count check s))
    (allocated_keeps n p v first count check s State.ports)

theorem allocationBody_made : allocationBody (makeAllocation n p v first count check s) n =
    ⟨n, s.serial + 1, first, count, (s.lease v).wanted, (newAllocation p v first count check s).check, s.timing.grant,
      (newAllocation p v first count check s).extents.map Prod.snd⟩ := by
  have hl : (makeAllocation n p v first count check s).lease = s.lease :=
    keeps_of_erase State.lease (makeAllocation_erase n p v first count check s) (fun _ => rfl)
  unfold allocationBody State.grant?
  rw [makeAllocation_grants, Table.get?_insert_self, hl]
  rfl

end

/-! ## The checks on the run (Table 3-3, checks 7 to 12) -/

theorem isSome_false {α : Type} {x : Option α} (h : x = none) : x.isSome = false := by rw [h]; rfl

theorem isSome_true {α : Type} {x : Option α} (h : x ≠ none) : x.isSome = true := Option.isSome_iff_ne_none.mpr h

/-- The run is not mapped, its allocation not granted. -/
structure RunFree (v first count : Nat) (s : State) : Prop where
  unmapped : ∀ j, first ≤ j → j < first + count → s.entry? v j = none
  ungranted : ∀ j, first ≤ j → j < first + count → s.allocationOf v j = none

theorem RunFree.unmapped? (h : RunFree v first count s) :
    (runIndices first count).find? (fun i => (s.entry? v i).isSome) = none :=
  (find?_runIndices_none first count).mpr (fun i h1 h2 => isSome_false (h.unmapped i h1 h2))

theorem RunFree.ungranted? (h : RunFree v first count s) :
    (runIndices first count).find? (fun i => (s.allocationOf v i).isSome) = none :=
  (find?_runIndices_none first count).mpr (fun i h1 h2 => isSome_false (h.ungranted i h1 h2))

theorem judgeRun_mapped {i : Nat} (tight : Bool) (h1 : first ≤ i) (h2 : i < first + count) (hi : s.entry? v i ≠ none)
    (hlt : ∀ j, first ≤ j → j < i → s.entry? v j = none) :
    judgeRun s v first count tight = .error (.alreadyMapped, .index i) := by
  unfold judgeRun
  rw [find?_runIndices_some h1 h2 (isSome_true hi) (fun j hj hji => isSome_false (hlt j hj hji))]

theorem judgeRun_inGrant {i : Nat} (tight : Bool) (hu : ∀ j, first ≤ j → j < first + count → s.entry? v j = none)
    (h1 : first ≤ i) (h2 : i < first + count) (hi : s.allocationOf v i ≠ none)
    (hlt : ∀ j, first ≤ j → j < i → s.allocationOf v j = none) :
    judgeRun s v first count tight = .error (.inGrant, .index i) := by
  unfold judgeRun
  rw [(find?_runIndices_none first count).mpr (fun j hj hjc => isSome_false (hu j hj hjc))]
  dsimp only
  rw [find?_runIndices_some h1 h2 (isSome_true hi) (fun j hj hji => isSome_false (hlt j hj hji))]

theorem judgeRun_graceFull (tight : Bool) (h : RunFree v first count s) (ha : 3072 ≤ s.admission) :
    judgeRun s v first count tight = .error (.graceFull, .empty) := by
  unfold judgeRun
  rw [h.unmapped?, h.ungranted?]
  exact if_pos ha

theorem judgeRun_noSlot (tight : Bool) (h : RunFree v first count s) (ha : s.admission < 3072) (hn : s.freeRecord? = none) :
    judgeRun s v first count tight = .error (.noGrantSlot, .empty) := by
  unfold judgeRun
  rw [h.unmapped?, h.ungranted?, hn]
  exact if_neg (Nat.not_le.mpr ha)

theorem judgeRun_poolFull (tight : Bool) (h : RunFree v first count s) (ha : s.admission < 3072) (hn : s.freeRecord? = some n)
    (hp : (s.pools.get (s.volume v).pool).allocates count = false) :
    judgeRun s v first count tight = .error (.poolFull,
      .poolFull (s.pools.get (s.volume v).pool).allocatable (s.pools.get (s.volume v).pool).settings.floor) := by
  unfold judgeRun
  rw [h.unmapped?, h.ungranted?, hn]
  refine (if_neg (Nat.not_le.mpr ha)).trans ?_
  dsimp only
  rw [hp]
  rfl

theorem judgeRun_quota (h : RunFree v first count s) (ha : s.admission < 3072) (hn : s.freeRecord? = some n)
    (hp : (s.pools.get (s.volume v).pool).allocates count = true)
    (hq : (s.tenant (s.volume v).tenant).quotaAllows count = false) :
    judgeRun s v first count false = .error (.quota, .headroom (s.tenant (s.volume v).tenant).headroom) := by
  unfold judgeRun
  rw [h.unmapped?, h.ungranted?, hn]
  refine (if_neg (Nat.not_le.mpr ha)).trans ?_
  dsimp only
  rw [hp, hq]
  rfl

theorem judgeRun_passes (h : RunFree v first count s) (ha : s.admission < 3072) (hn : s.freeRecord? = some n)
    (hp : (s.pools.get (s.volume v).pool).allocates count = true)
    (hq : (s.tenant (s.volume v).tenant).quotaAllows count = true) :
    judgeRun s v first count false = .ok n := by
  unfold judgeRun
  rw [h.unmapped?, h.ungranted?, hn]
  refine (if_neg (Nat.not_le.mpr ha)).trans ?_
  dsimp only
  rw [hp, hq]
  rfl

theorem quotaAllows_of {te : Tenant} {c : Nat} (h : ∀ q, te.quota = some q → te.used + te.pending + c ≤ q) :
    te.quotaAllows c = true := by
  unfold Tenant.quotaAllows
  split
  · rfl
  · rename_i q hq
    exact decide_eq_true (h q hq)

theorem quotaAllows_false {te : Tenant} {c q : Nat} (hq : te.quota = some q) (h : q < te.used + te.pending + c) :
    te.quotaAllows c = false := by
  unfold Tenant.quotaAllows
  rw [hq]
  exact decide_eq_false (Nat.not_le.mpr h)

/-- Each of the checks 7 to 12, when those before it pass, gives its reason and values. -/
theorem judgeRun_refuses {r : Reason} {x : AnswerBody}
    (h : (∃ i, first ≤ i ∧ i < first + count ∧ s.entry? v i ≠ none ∧ (∀ j, first ≤ j → j < i → s.entry? v j = none) ∧
        r = .alreadyMapped ∧ x = .index i) ∨
      ((∀ j, first ≤ j → j < first + count → s.entry? v j = none) ∧
        ((∃ i, first ≤ i ∧ i < first + count ∧ s.allocationOf v i ≠ none ∧
            (∀ j, first ≤ j → j < i → s.allocationOf v j = none) ∧ r = .inGrant ∧ x = .index i) ∨
          ((∀ j, first ≤ j → j < first + count → s.allocationOf v j = none) ∧
            ((3072 ≤ s.admission ∧ r = .graceFull ∧ x = .empty) ∨
              (s.admission < 3072 ∧ s.freeRecord? = none ∧ r = .noGrantSlot ∧ x = .empty) ∨
              (s.admission < 3072 ∧ s.freeRecord? ≠ none ∧
                (((s.pools.get (s.volume v).pool).allocatable < (s.pools.get (s.volume v).pool).settings.floor + count ∧
                    r = .poolFull ∧ x = .poolFull (s.pools.get (s.volume v).pool).allocatable
                      (s.pools.get (s.volume v).pool).settings.floor) ∨
                  (∃ q, (s.pools.get (s.volume v).pool).settings.floor + count ≤ (s.pools.get (s.volume v).pool).allocatable ∧
                    (s.tenant (s.volume v).tenant).quota = some q ∧
                    q < (s.tenant (s.volume v).tenant).used + (s.tenant (s.volume v).tenant).pending + count ∧ r = .quota ∧
                    x = .headroom (some (q - ((s.tenant (s.volume v).tenant).used +
                      (s.tenant (s.volume v).tenant).pending))))))))))) :
    judgeRun s v first count false = .error (r, x) := by
  rcases h with ⟨i, h1, h2, hi, hlt, rfl, rfl⟩ | ⟨hu, ⟨i, h1, h2, hi, hlt, rfl, rfl⟩ | ⟨hg, h⟩⟩
  · exact judgeRun_mapped false h1 h2 hi hlt
  · exact judgeRun_inGrant false hu h1 h2 hi hlt
  have hfree : RunFree v first count s := ⟨hu, hg⟩
  rcases h with ⟨ha, rfl, rfl⟩ | ⟨ha, hn, rfl, rfl⟩ | ⟨ha, hn, h⟩
  · exact judgeRun_graceFull false hfree ha
  · exact judgeRun_noSlot false hfree ha hn
  obtain ⟨n, hn⟩ := Option.ne_none_iff_exists'.mp hn
  rcases h with ⟨hp, rfl, rfl⟩ | ⟨q, hp, hq, hlt, rfl, rfl⟩
  · exact judgeRun_poolFull false hfree ha hn (decide_eq_false (by omega))
  · rw [judgeRun_quota hfree ha hn (decide_eq_true hp) (quotaAllows_false hq hlt), headroom_some hq]

/-! ## Reserve (Table 3-3) -/

/-- A Reserve has passed the checks 3 to 6. -/
structure Reservable (o : Origin) (v first count : Nat) (s : State) : Prop where
  low : 1 ≤ count
  high : count ≤ 16
  holder : (s.lease v).heldBy o.port = true
  active : (s.volume v).state = .active
  range : first + count - 1 < reserveSize s v

section
variable {o : Origin}

theorem Reservable.count_ok (h : Reservable o v first count s) : ¬ (count = 0 ∨ 16 < count) := by
  have := h.low
  have := h.high
  omega

theorem judgeReserve_count (hc : count = 0 ∨ 16 < count) (reads : Reads) :
    judgeReserve o v first count reads s = refuse o .reserve .badForm s := if_pos hc

theorem judgeReserve_notHolder (h1 : 1 ≤ count) (h16 : count ≤ 16) (hh : (s.lease v).heldBy o.port = false) (reads : Reads) :
    judgeReserve o v first count reads s = refuse o .reserve .notHolder s := by
  unfold judgeReserve
  rw [if_neg (by omega), hh]
  rfl

theorem judgeReserve_state (h1 : 1 ≤ count) (h16 : count ≤ 16) (hh : (s.lease v).heldBy o.port = true)
    (ha : (s.volume v).state ≠ .active) (reads : Reads) :
    judgeReserve o v first count reads s = refuse o .reserve .volumeState s := by
  unfold judgeReserve
  rw [if_neg (by omega), hh]
  exact if_pos ha

theorem judgeReserve_range (h1 : 1 ≤ count) (h16 : count ≤ 16) (hh : (s.lease v).heldBy o.port = true)
    (ha : (s.volume v).state = .active) (hr : reserveSize s v ≤ first + count - 1) (reads : Reads) :
    judgeReserve o v first count reads s = refuse o .reserve .range s := by
  have hb : runBelow first count (reserveSize s v) = false := decide_eq_false (Nat.not_lt.mpr hr)
  unfold judgeReserve
  rw [if_neg (by omega), hh, hb]
  exact if_neg (not_not.mpr ha)

theorem judgeReserve_refused {r : Reason × AnswerBody} (h : Reservable o v first count s)
    (hr : judgeRun s v first count false = .error r) :
    judgeReserve o v first count [] s = refuseWith o .reserve r.1 r.2 s := by
  have hb : runBelow first count (reserveSize s v) = true := decide_eq_true h.range
  unfold judgeReserve
  rw [if_neg h.count_ok, h.holder, hb, cellReads_nil, readCells_nil]
  refine (if_neg (not_not.mpr h.active)).trans ?_
  dsimp only
  rw [hr]
  rfl

theorem judgeReserve_granted (h : Reservable o v first count s) (hr : judgeRun s v first count false = .ok n) :
    judgeReserve o v first count [] s =
      answer o RequestKind.reserve.code .granted (.allocation (allocationBody (makeAllocation n o.port v first count
          (fun serial epoch extents => checkOfReserve v first count epoch serial extents) s) n))
        (makeAllocation n o.port v first count
          (fun serial epoch extents => checkOfReserve v first count epoch serial extents) s) := by
  have hb : runBelow first count (reserveSize s v) = true := decide_eq_true h.range
  unfold judgeReserve
  rw [if_neg h.count_ok, h.holder, hb, cellReads_nil, readCells_nil]
  refine (if_neg (not_not.mpr h.active)).trans ?_
  dsimp only
  rw [hr]
  rfl

end

theorem exec_reserve {v : BitVec 16} {f : BitVec 32} {c : Byte} (reads : Reads) (h : admits s p t) (hm : s.mode = .serving)
    (hv : named s v.toNat) : exec (.reserve p t v f c reads) s =
      .next (judgeReserve ⟨p, t⟩ v.toNat f.toNat c.toNat reads (taken p t s)) :=
  (request_admits _ _ h).trans (congrArg _ ((unlessFrozen_serving (s := taken p t s) hm).trans (onVolume_named hv)))

theorem refuseWith_taken (k : RequestKind) (r : Reason) (x : AnswerBody) (h : s.linkUp p = true) :
    refuseWith ⟨p, t⟩ k r x (taken p t s) = answered p t k.code (.refused r) x s := answer_taken _ _ _ h

/-- The checks 7 to 12 read the entries, the grants, the admission, the records, the pool and the tenant. -/
theorem judgeRun_congr {u : State} {v first count : Nat} {tight : Bool} (he : u.entry? v = s.entry? v)
    (hg : u.allocationOf v = s.allocationOf v) (ha : u.admission = s.admission) (hn : u.freeRecord? = s.freeRecord?)
    (hv : u.volume v = s.volume v) (hp : u.pools = s.pools) (ht : u.tenant = s.tenant) :
    judgeRun u v first count tight = judgeRun s v first count tight := by
  unfold judgeRun
  rw [he, hg, ha, hn, hv, hp, ht]

theorem judgeRun_taken (v first count : Nat) (tight : Bool) :
    judgeRun (taken p t s) v first count tight = judgeRun s v first count tight :=
  judgeRun_congr rfl rfl rfl rfl rfl rfl rfl

section
variable {v : BitVec 16} {f : BitVec 32} {c : Byte}

theorem exec_reserve_count (h : admits s p t) (hm : s.mode = .serving) (hv : named s v.toNat)
    (hc : c.toNat = 0 ∨ 16 < c.toNat) :
    exec (.reserve p t v f c []) s = .next (answered p t 0x40 (.refused .badForm) .empty s) :=
  (exec_reserve [] h hm hv).trans (congrArg _ ((judgeReserve_count hc []).trans (refuse_taken _ _ (admits_linkUp h))))

theorem exec_reserve_notHolder (h : admits s p t) (hm : s.mode = .serving) (hv : named s v.toNat) (h1 : 1 ≤ c.toNat)
    (h16 : c.toNat ≤ 16) (hh : (s.lease v.toNat).heldBy p = false) :
    exec (.reserve p t v f c []) s = .next (answered p t 0x40 (.refused .notHolder) .empty s) :=
  (exec_reserve [] h hm hv).trans (congrArg _
    ((judgeReserve_notHolder (o := ⟨p, t⟩) (s := taken p t s) (v := v.toNat) h1 h16 hh []).trans
      (refuse_taken _ _ (admits_linkUp h))))

theorem exec_reserve_readOnly (h : admits s p t) (hm : s.mode = .serving) (hv : named s v.toNat) (h1 : 1 ≤ c.toNat)
    (h16 : c.toNat ≤ 16) (hh : (s.lease v.toNat).heldBy p = true) (ha : (s.volume v.toNat).state = .readOnly) :
    exec (.reserve p t v f c []) s = .next (answered p t 0x40 (.refused .volumeState) .empty s) := by
  have hna : (s.volume v.toNat).state ≠ .active := by rw [ha]; decide
  exact (exec_reserve [] h hm hv).trans (congrArg _
    ((judgeReserve_state (o := ⟨p, t⟩) (s := taken p t s) (v := v.toNat) h1 h16 hh hna []).trans
      (refuse_taken _ _ (admits_linkUp h))))

theorem exec_reserve_range (h : admits s p t) (hm : s.mode = .serving) (hv : named s v.toNat) (h1 : 1 ≤ c.toNat)
    (h16 : c.toNat ≤ 16) (hh : (s.lease v.toNat).heldBy p = true) (ha : (s.volume v.toNat).state = .active)
    (hr : reserveSize s v.toNat ≤ f.toNat + c.toNat - 1) :
    exec (.reserve p t v f c []) s = .next (answered p t 0x40 (.refused .range) .empty s) :=
  (exec_reserve [] h hm hv).trans (congrArg _
    ((judgeReserve_range (o := ⟨p, t⟩) (s := taken p t s) (v := v.toNat) h1 h16 hh ha hr []).trans
      (refuse_taken _ _ (admits_linkUp h))))

/-- A Reserve that one of the checks 7 to 12 refuses changes nothing else. -/
theorem exec_reserve_refused {r : Reason} {x : AnswerBody} (h : admits s p t) (hm : s.mode = .serving)
    (hv : named s v.toNat) (hr : Reservable ⟨p, t⟩ v.toNat f.toNat c.toNat (taken p t s))
    (hrun : judgeRun s v.toNat f.toNat c.toNat false = .error (r, x)) :
    exec (.reserve p t v f c []) s = .next (answered p t 0x40 (.refused r) x s) :=
  (exec_reserve [] h hm hv).trans (congrArg _ ((judgeReserve_refused hr ((judgeRun_taken _ _ _ _).trans hrun)).trans
    (refuseWith_taken _ _ _ (admits_linkUp h))))

end

/-- The state with the grant of a Reserve made. -/
def reserved (n : Nat) (p : Port) (v first count : Nat) (s : State) : State :=
  makeAllocation n p v first count (fun serial epoch extents => checkOfReserve v first count epoch serial extents) s

theorem reserved_linkUp (n : Nat) (p : Port) (v first count : Nat) (s : State) (q : Port) :
    (reserved n p v first count s).linkUp q = s.linkUp q := portsGrow_linkUp (makeAllocation_grows _ _ _ _ _ _ s) q

theorem reserved_keeps {γ : Type} (g : State → γ) (n : Nat) (p : Port) (v first count : Nat) (s : State)
    (hg : ∀ t : State, g t.eraseMade = g t := by intro; rfl) : g (reserved n p v first count s) = g s :=
  keeps_of_erase g (makeAllocation_erase _ _ _ _ _ _ s) hg

/-- The extents that a Reserve selects (R31). -/
def reservedExtents (v count : Nat) (s : State) : List Extent := (chooseRun (s.volume v).pool none count s.spans).1

/-- The check word of the grant of a Reserve (Table 3-4). -/
def reservedCheck (v first count : Nat) (s : State) : BitVec 16 :=
  checkOfReserve v first count (s.lease v).epoch (s.serial + 1) (reservedExtents v count s)

theorem reservedExtents_taken (v count : Nat) : reservedExtents v count (taken p t s) = reservedExtents v count s := rfl

theorem reservedCheck_taken (v first count : Nat) :
    reservedCheck v first count (taken p t s) = reservedCheck v first count s := rfl

theorem reserved_body (n : Nat) (p : Port) (v first count : Nat) (s : State) :
    allocationBody (reserved n p v first count s) n =
      ⟨n, s.serial + 1, first, count, (s.lease v).wanted, reservedCheck v first count s, s.timing.grant,
        ((runIndices first count).zip (reservedExtents v count s)).map Prod.snd⟩ := by
  unfold reserved reservedCheck reservedExtents
  rw [allocationBody_made, newAllocation_check, newAllocation_extents]

/-- A Reserve that passes makes its grant and is answered. -/
theorem exec_reserve_granted {v : BitVec 16} {f : BitVec 32} {c : Byte} (h : admits s p t) (hm : s.mode = .serving)
    (hv : named s v.toNat) (hr : Reservable ⟨p, t⟩ v.toNat f.toNat c.toNat (taken p t s))
    (hrun : judgeRun (taken p t s) v.toNat f.toNat c.toNat false = .ok n) :
    ∃ m, m = reserved n p v.toNat f.toNat c.toNat (taken p t s) ∧
      exec (.reserve p t v f c []) s = .next (answer ⟨p, t⟩ 0x40 .granted (.allocation (allocationBody m n)) m) :=
  ⟨_, rfl, (exec_reserve [] h hm hv).trans (congrArg _ (judgeReserve_granted hr hrun))⟩

/-- What the making of an allocation grant has done between two states to everything but the ports. -/
structure MakesGrant (n : Nat) (p : Port) (v first count : Nat) (extents : List Extent) (check : BitVec 16) (s u : State) :
    Prop where
  spans : u.spans = (chooseRun (s.volume v).pool none count s.spans).2
  serial : u.serial = s.serial + 1
  grants : u.grants = Table.insert n
    { state := .staged s.timing.grant, serial := s.serial + 1, kind := .allocate, owner := p, volume := v,
      epoch := (s.lease v).epoch, first := first, count := count, extents := (runIndices first count).zip extents,
      check := check } s.grants
  volume : u.volume v = { s.volume v with pending := (s.volume v).pending + count }
  tenant : u.tenant (s.volume v).tenant =
    { s.tenant (s.volume v).tenant with pending := (s.tenant (s.volume v).tenant).pending + count }
  free : (u.pools.get (s.volume v).pool).free = (s.pools.get (s.volume v).pool).free - count
  allocatable : (u.pools.get (s.volume v).pool).allocatable = (s.pools.get (s.volume v).pool).allocatable - count
  reserved : (u.pools.get (s.volume v).pool).reserved = (s.pools.get (s.volume v).pool).reserved + count
  level : (u.pools.get (s.volume v).pool).level = (u.pools.get (s.volume v).pool).judged
  pool_other : ∀ j, j ≠ (s.volume v).pool → u.pools.get j = s.pools.get j
  volume_other : ∀ x, x ≠ v → u.volume x = s.volume x
  tenant_other : ∀ x, x ≠ (s.volume v).tenant → u.tenant x = s.tenant x

theorem makesGrant_reserved (n : Nat) (p : Port) (v first count : Nat) (s : State) :
    MakesGrant n p v first count (reservedExtents v count s) (reservedCheck v first count s) s
      (reserved n p v first count s) := by
  have hpool (j : PoolId) : (reserved n p v first count s).pools.get j = _ := makeAllocation_pools n p v first count _ s j
  have hself := (hpool (s.volume v).pool).trans (if_pos rfl)
  refine ⟨makeAllocation_spans _ _ _ _ _ _ _, makeAllocation_serial _ _ _ _ _ _ _, makeAllocation_grants _ _ _ _ _ _ _,
    (makeAllocation_volume _ _ _ _ _ _ _ _).trans (if_pos rfl), (makeAllocation_tenant _ _ _ _ _ _ _ _).trans (if_pos rfl),
    ?_, ?_, ?_, ?_, fun j hj => (hpool j).trans (if_neg (Ne.symm hj)),
    fun x hx => (makeAllocation_volume _ _ _ _ _ _ _ _).trans (if_neg (Ne.symm hx)),
    fun x hx => (makeAllocation_tenant _ _ _ _ _ _ _ _).trans (if_neg (Ne.symm hx))⟩
  all_goals
    rw [hself]
    rfl

/-- The ports play no part in it. -/
theorem MakesGrant.of_ports {u : State} {extents : List Extent} {check : BitVec 16}
    (h : MakesGrant n p v first count extents check s u) (x y : Vector HeadPort 4) :
    MakesGrant n p v first count extents check { s with ports := x } { u with ports := y } :=
  ⟨h.spans, h.serial, h.grants, h.volume, h.tenant, h.free, h.allocatable, h.reserved, h.level, h.pool_other, h.volume_other,
    h.tenant_other⟩

theorem eq_of_erasePorts {u b : State} (h : u.erasePorts = b.erasePorts) : u = { b with ports := u.ports } :=
  (congrArg (fun y : State => { y with ports := u.ports }) h :)

/-- A Reserve that passes leads to a state in which its grant is made and its answer stands last. -/
theorem exec_reserve_makes {v : BitVec 16} {f : BitVec 32} {c : Byte} (h : admits s p t) (hm : s.mode = .serving)
    (hv : named s v.toNat) (hr : Reservable ⟨p, t⟩ v.toNat f.toNat c.toNat (taken p t s))
    (hrun : judgeRun s v.toNat f.toNat c.toNat false = .ok n) :
    ∃ u, exec (.reserve p t v f c []) s = .next u ∧
      MakesGrant n p v.toNat f.toNat c.toNat (reservedExtents v.toNat c.toNat s) (reservedCheck v.toNat f.toNat c.toNat s) s u ∧
      lastAnswer p ⟨t, 0x40, .granted, s.generation, .allocation ⟨n, s.serial + 1, f.toNat, c.toNat,
        (s.lease v.toNat).wanted, reservedCheck v.toNat f.toNat c.toNat s, s.timing.grant,
        ((runIndices f.toNat c.toNat).zip (reservedExtents v.toNat c.toNat s)).map Prod.snd⟩⟩ u ∧
      portsGrow (taken p t s) u ∧ u.eraseMade = s.eraseMade := by
  obtain ⟨m, hmk, hexec⟩ := exec_reserve_granted h hm hv hr ((judgeRun_taken _ _ _ _).trans hrun)
  have hlink : m.linkUp p = true := by
    rw [hmk, reserved_linkUp, taken_linkUp]
    exact admits_linkUp h
  have hgen : m.generation = s.generation := hmk ▸ reserved_keeps State.generation n p _ _ _ (taken p t s)
  have hmade : m.eraseMade = s.eraseMade := hmk ▸ makeAllocation_erase _ _ _ _ _ _ (taken p t s)
  have hgrow : portsGrow (taken p t s) m := hmk ▸ makeAllocation_grows _ _ _ _ _ _ _
  have hmakes := makesGrant_reserved n p v.toNat f.toNat c.toNat (taken p t s)
  have hbody := (congrArg (fun y => allocationBody y n) hmk).trans (reserved_body n p _ _ c.toNat (taken p t s))
  rw [← hmk, reservedExtents_taken, reservedCheck_taken] at hmakes
  rw [reservedExtents_taken, reservedCheck_taken, taken_lease] at hbody
  have hlast := answer_lastAnswer (t := t) 0x40 .granted (.allocation (allocationBody m n)) hlink
  have hu := answer_erase ⟨p, t⟩ 0x40 .granted (.allocation (allocationBody m n)) m
  have hug := answer_grows ⟨p, t⟩ 0x40 .granted (.allocation (allocationBody m n)) m
  rw [hgen, hbody] at hlast
  refine ⟨_, hexec, ?_, hbody ▸ hlast, portsGrow_trans hgrow hug, (keeps_of_erasePorts State.eraseMade hu).trans hmade⟩
  rw [eq_of_erasePorts hu]
  exact hmakes.of_ports s.ports _

theorem eq_of_eraseMade {u m : State} (h : u.eraseMade = m.eraseMade) :
    u = { m with
      ports := u.ports, spans := u.spans, serial := u.serial, grants := u.grants, pools := u.pools
      volumes := u.volumes, tenants := u.tenants } :=
  (congrArg (fun y : State => { y with
    ports := u.ports, spans := u.spans, serial := u.serial, grants := u.grants, pools := u.pools
    volumes := u.volumes, tenants := u.tenants }) h :)

/-- Settles O44: the grant by `MakesGrant`, each refusal by the lemma of its check. -/
theorem reserveMakesGrant : Obligations.ReserveMakesGrant := by
  refine ⟨fun p t v f c n k s h hm hv ha h1 h16 hh hr hfree hadm hn hk hp hq => ?_,
    fun p t v f c k te r x s h hm hv hk hte hr => ?_⟩
  · subst hk
    have hrun := judgeRun_passes ⟨fun j h1 h2 => (hfree j h1 h2).1, fun j h1 h2 => (hfree j h1 h2).2⟩ hadm hn
      (decide_eq_true hp) (quotaAllows_of hq)
    obtain ⟨u, hexec, g, hlast, hgrow, hframe⟩ := exec_reserve_makes h hm ⟨hv, Or.inl ha⟩ ⟨h1, h16, hh, ha, hr⟩ hrun
    exact ⟨u, reservedExtents v.toNat c.toNat s, reservedCheck v.toNat f.toNat c.toNat s, hexec, rfl, g.spans, rfl, g.serial,
      g.grants, g.volume, g.tenant, g.free, g.allocatable, g.reserved, g.level, g.pool_other, g.volume_other, g.tenant_other,
      hlast, hgrow, eq_of_eraseMade hframe⟩
  · subst hk hte
    rcases hr with ⟨hc, rfl, rfl⟩ | ⟨h1, h16, ⟨hh, rfl, rfl⟩ | ⟨hh, ⟨ha, rfl, rfl⟩ | ⟨ha, ⟨hr, rfl, rfl⟩ | ⟨hr, hrun⟩⟩⟩⟩
    · exact exec_reserve_count h hm hv hc
    · exact exec_reserve_notHolder h hm hv h1 h16 hh
    · exact exec_reserve_readOnly h hm hv h1 h16 hh ha
    · exact exec_reserve_range h hm hv h1 h16 hh ha hr
    · exact exec_reserve_refused h hm hv ⟨h1, h16, hh, ha, hr⟩ (judgeRun_refuses hrun)

end Sys2Proof.Machine
end

section
/-! PROOFS. The batches that a test of the release condition releases (R112): the grace list, the pools' counts and the
notices. -/

namespace Sys2Proof.Machine

open State

variable {s u : State} {q : Port} {k : PoolId} {l : List Batch}

/-! ## The batches that leave -/

/-- The oldest batches of the grace list, each of them acknowledged, are released one after another. -/
inductive Releases : List Batch → State → State → Prop
  | stop (s : State) : Releases [] s s
  | oldest {b : Batch} {rest l : List Batch} {s u : State} (hg : s.grace = b :: rest) (ha : acknowledged s b.tag = true)
      (h : Releases l (releaseOldest b rest s) u) : Releases (b :: l) s u

theorem releaseLoop_releases (n : Nat) (s : State) : ∃ l, Releases l s (releaseLoop n s) := by
  induction n generalizing s with
  | zero => exact ⟨[], .stop s⟩
  | succ n ih =>
    unfold releaseLoop
    split
    · exact ⟨[], .stop s⟩
    · rename_i b rest hg
      split
      · rename_i ha
        obtain ⟨l, h⟩ := ih (releaseOldest b rest s)
        exact ⟨b :: l, .oldest hg ha h⟩
      · exact ⟨[], .stop s⟩

theorem Releases.grace (h : Releases l s u) : s.grace = l ++ u.grace := by
  induction h with
  | stop s => rfl
  | oldest hg _ _ ih => rw [hg, List.cons_append, ← ih, releaseOldest_grace]

theorem Releases.served (h : Releases l s u) : ∃ granted, served granted s u := by
  induction h with
  | stop s => exact ⟨[], served_refl s⟩
  | @oldest b rest _ s _ _ _ _ ih =>
    obtain ⟨g1, h1⟩ := releaseOldest_served b rest s
    obtain ⟨g2, h2⟩ := ih
    exact ⟨g1 ++ g2, served_trans h1 h2⟩

theorem Releases.generation (h : Releases l s u) : u.generation = s.generation := by
  induction h with
  | stop s => rfl
  | @oldest b rest _ s _ _ _ _ ih =>
    exact ih.trans ((releaseOldest_keeps State.generation b rest s).trans (returnBatch_generation b rest s))

theorem Releases.erase (h : Releases l s u) : u.eraseBatch = s.eraseBatch := by
  induction h with
  | stop s => rfl
  | oldest _ _ _ ih => exact ih.trans (releaseOldest_erase _ _ _)

theorem acknowledged_congr {tag : Gen} (h : u.heads = s.heads) : acknowledged u tag = acknowledged s tag := by
  unfold acknowledged
  rw [h]

theorem Releases.acknowledged (h : Releases l s u) : ∀ b ∈ l, acknowledged s b.tag = true := by
  induction h with
  | stop s => exact fun _ hb => absurd hb List.not_mem_nil
  | oldest _ ha _ ih =>
    intro c hc
    rcases List.mem_cons.mp hc with rfl | hc
    · exact ha
    · rw [← acknowledged_congr (keeps_of_erase State.heads (releaseOldest_erase _ _ _) (fun _ => rfl))]
      exact ih c hc

/-- A batch that waits for an acknowledgement stays; behind it alone, nothing is released. -/
theorem Releases.newest {older : List Batch} {b : Batch} (h : Releases l s u) (hg : s.grace = older ++ [b])
    (hb : Machine.acknowledged s b.tag = false) : (∃ o, u.grace = o ++ [b]) ∧ (older = [] → u = s) := by
  have hmem : b ∉ l := fun hm => Bool.false_ne_true (hb.symm.trans (h.acknowledged b hm))
  have heq : older ++ [b] = l ++ u.grace := hg.symm.trans h.grace
  constructor
  · rcases List.eq_nil_or_concat u.grace with hn | ⟨o, c, ho⟩
    · rw [hn, List.append_nil] at heq
      exact absurd (heq ▸ List.mem_append_right _ (List.mem_singleton_self b)) hmem
    · rw [ho, List.concat_eq_append, ← List.append_assoc] at heq
      obtain ⟨-, hc⟩ := List.append_inj' heq rfl
      exact ⟨o, by rw [ho, List.concat_eq_append, hc]⟩
  · rintro rfl
    cases h with
    | stop => rfl
    | oldest =>
      obtain ⟨hc, -⟩ := List.cons.inj heq
      exact absurd (hc ▸ List.mem_cons_self) hmem

/-! ## The counts of the pools (R38, R112) -/

/-- The extents of some batches that return to a pool. -/
def extentsTo (j : PoolId) (l : List Batch) : Nat :=
  ((l.filter (fun b => decide (b.pool = j))).map (fun b => b.extents.length)).sum

theorem extentsTo_cons (j : PoolId) (b : Batch) (l : List Batch) :
    extentsTo j (b :: l) = (if b.pool = j then b.extents.length else 0) + extentsTo j l := by
  unfold extentsTo
  by_cases h : b.pool = j
  · rw [List.filter_cons, if_pos (decide_eq_true h), if_pos h, List.map_cons, List.sum_cons]
  · rw [List.filter_cons, if_neg (by rw [decide_eq_false h]; decide), if_neg h, Nat.zero_add]

theorem releaseOldest_counts (j : PoolId) (b : Batch) (rest : List Batch) (s : State) :
    ((releaseOldest b rest s).pools.get j).reserved = (s.pools.get j).reserved ∧
    ((releaseOldest b rest s).pools.get j).grace =
      (s.pools.get j).grace - ((if b.pool = j then b.extents.length else 0 : Nat) : Int) ∧
    ((releaseOldest b rest s).pools.get j).free =
      (s.pools.get j).free + ((if b.pool = j then b.extents.length else 0 : Nat) : Int) := by
  rw [releaseOldest_keeps State.pools, returnBatch_pools]
  by_cases h : b.pool = j
  · rw [if_pos h, if_pos h]
    exact ⟨rfl, rfl, rfl⟩
  · rw [if_neg h, if_neg h]
    exact ⟨rfl, (Int.sub_zero _).symm, (Int.add_zero _).symm⟩

theorem Releases.counts (h : Releases l s u) (j : PoolId) : (u.pools.get j).reserved = (s.pools.get j).reserved ∧
    (u.pools.get j).grace = (s.pools.get j).grace - (extentsTo j l : Nat) ∧
    (u.pools.get j).free = (s.pools.get j).free + (extentsTo j l : Nat) := by
  induction h with
  | stop s => exact ⟨rfl, (Int.sub_zero _).symm, (Int.add_zero _).symm⟩
  | @oldest b rest l s u _ _ _ ih =>
    obtain ⟨hr, hg, hf⟩ := ih
    obtain ⟨hr', hg', hf'⟩ := releaseOldest_counts j b rest s
    rw [extentsTo_cons, Int.natCast_add]
    exact ⟨hr.trans hr', by omega, by omega⟩

/-! ## A notice placed in a set that has room (R174) -/

theorem length_replaceFirst {α : Type} (f : α → Bool) (b : α) (l : List α) : (replaceFirst f b l).length = l.length := by
  induction l with
  | nil => rfl
  | cons a l ih =>
    unfold replaceFirst
    split
    · rfl
    · exact congrArg (· + 1) ih

theorem mem_of_mem_replaceFirst {α : Type} {f : α → Bool} {b y : α} {l : List α} (h : y ∈ replaceFirst f b l) :
    y ∈ l ∨ y = b := by
  induction l with
  | nil => cases h
  | cons a l ih =>
    unfold replaceFirst at h
    split at h
    · rcases List.mem_cons.mp h with h | h
      · exact Or.inr h
      · exact Or.inl (List.mem_cons_of_mem a h)
    · rcases List.mem_cons.mp h with h | h
      · exact Or.inl (h ▸ List.mem_cons_self)
      · exact (ih h).imp_left (List.mem_cons_of_mem a)

theorem mem_replaceFirst_of_mem {α : Type} {f : α → Bool} {b y : α} {l : List α} (h : y ∈ l) (hf : f y = false) :
    y ∈ replaceFirst f b l := by
  induction l with
  | nil => cases h
  | cons a l ih =>
    unfold replaceFirst
    split
    · rename_i ha
      rcases List.mem_cons.mp h with rfl | h
      · exact absurd ha (by rw [hf]; decide)
      · exact List.mem_cons_of_mem b h
    · rcases List.mem_cons.mp h with rfl | h
      · exact List.mem_cons_self
      · exact List.mem_cons_of_mem a (ih h)

/-- The set `b` is `a` with a notice in place of one that meets `f`, or behind all. -/
structure Placed (f : Notice → Bool) (n : Notice) (a b : List Notice) : Prop where
  placed : n ∈ b
  length : b.length ≤ a.length + 1
  kept : ∀ y ∈ a, f y = false → y ∈ b
  old : ∀ y ∈ b, y ∈ a ∨ y = n

section
variable {f : Notice → Bool} {n : Notice} {a b c : List Notice} {g : Gen} {lost : Bool}

theorem placed_replaceFirst (h : a.any f = true) : Placed f n a (replaceFirst f n a) where
  placed := mem_replaceFirst n h
  length := by rw [length_replaceFirst]; exact Nat.le_succ _
  kept _ hy hf := mem_replaceFirst_of_mem hy hf
  old _ hy := mem_of_mem_replaceFirst hy

theorem placed_append : Placed f n a (a ++ [n]) where
  placed := List.mem_append_right _ (List.mem_singleton_self n)
  length := by rw [List.length_append]; exact le_rfl
  kept _ hy _ := List.mem_append_left _ hy
  old _ hy := (List.mem_append.mp hy).imp_right List.mem_singleton.mp

/-- A notice that meets no INVALIDATE_ALL takes the place of one of its kind and subject, or stands behind all. -/
theorem addToSet_placed (hroom : a.length < Config.noticePlaces)
    (h : n.invalidatesAt = none ∨ a.any Notice.isInvalidateAll = false) :
    Placed (Notice.same n) n a (addToSet g n a lost).1 := by
  unfold addToSet
  split
  · rename_i hs
    exact placed_replaceFirst hs
  · split
    · rename_i gi hgi
      have hall := h.resolve_left (by rw [hgi]; exact Option.some_ne_none gi)
      rw [if_neg (by rw [hall]; decide)]
      exact placed_append
    · exact placed_append

/-- A pending INVALIDATE_ALL takes the G of an INVALIDATE. -/
theorem addToSet_all {v : Nat} (hall : a.any Notice.isInvalidateAll = true)
    (hs : a.any (Notice.same (.invalidate v g)) = false) :
    Placed Notice.isInvalidateAll (.invalidateAll g) a (addToSet g (.invalidate v g) a lost).1 := by
  unfold addToSet
  rw [if_neg (by rw [hs]; decide)]
  dsimp only [Notice.invalidatesAt]
  rw [if_pos hall]
  exact placed_replaceFirst hall

theorem addToSet_length (hroom : a.length < Config.noticePlaces) : (addToSet g n a lost).1.length ≤ a.length + 1 := by
  unfold addToSet
  have hrep (f : Notice → Bool) (m : Notice) : (replaceFirst f m a).length ≤ a.length + 1 := by
    rw [length_replaceFirst]
    exact Nat.le_succ _
  have happ : (a ++ [n]).length ≤ a.length + 1 := by rw [List.length_append]; exact le_rfl
  split
  · exact hrep _ _
  · split
    · split
      · exact hrep _ _
      · exact happ
    · exact happ

theorem same_false {y : Notice} (h : y.code ≠ n.code) : Notice.same n y = false := by
  unfold Notice.same
  rw [decide_eq_false (Ne.symm h), Bool.false_and]

/-! ## Notices of levels alone -/

/-- The set `b` is `a` with at most `n` places more, in which notices of levels, and no others, have come and gone. -/
structure LevelsAdded (n : Nat) (a b : List Notice) : Prop where
  length : b.length ≤ a.length + n
  kept : ∀ y ∈ a, y.code ≠ 8 → y ∈ b
  old : ∀ y ∈ b, y ∈ a ∨ y.code = 8

theorem LevelsAdded.refl (n : Nat) (a : List Notice) : LevelsAdded n a a :=
  ⟨Nat.le_add_right _ _, fun _ hy _ => hy, fun _ hy => Or.inl hy⟩

theorem LevelsAdded.trans {i j : Nat} (h : LevelsAdded i a b) (h' : LevelsAdded j b c) : LevelsAdded (i + j) a c where
  length := by have := h.length; have := h'.length; omega
  kept y hy hc := h'.kept y (h.kept y hy hc) hc
  old y hy := (h'.old y hy).elim (h.old y) Or.inr

theorem Placed.levels (h : Placed (Notice.same n) n a b) (hn : n.code = 8) : LevelsAdded 1 a b where
  length := h.length
  kept y hy hc := h.kept y hy (same_false (by rw [hn]; exact hc))
  old y hy := (h.old y hy).imp_right (fun e => by rw [e]; exact hn)

end

theorem judgeLevel_levels (k : PoolId) (hj : s.joined q = true) (hroom : (s.ports.get q).notices.length < 64) :
    LevelsAdded 1 (s.ports.get q).notices ((judgeLevel k s).ports.get q).notices := by
  by_cases h : (s.pools.get k).judged = (s.pools.get k).level
  · rw [judgeLevel_same h]
    exact .refl _ _
  · rw [judgeLevel_changes h, notifyJoined_all,
      foldl_addNotice_self (s := s.updatePool k _) _ (by decide) (mem_allPorts q) hj]
    exact (addToSet_placed (a := (s.ports.get q).notices) hroom (Or.inl rfl)).levels rfl

theorem judgeLevel_absent (k : PoolId) (hj : s.joined q = false) : (judgeLevel k s).ports.get q = s.ports.get q := by
  by_cases h : (s.pools.get k).judged = (s.pools.get k).level
  · rw [judgeLevel_same h]
  · rw [judgeLevel_changes h, notifyJoined_all]
    exact foldl_addNotice_absent (s := s.updatePool k _) _ _ hj

theorem releaseOldest_levels (b : Batch) (rest : List Batch) (hj : s.joined q = true)
    (hroom : (s.ports.get q).notices.length < 64) :
    LevelsAdded 1 (s.ports.get q).notices ((releaseOldest b rest s).ports.get q).notices := by
  rw [releaseOldest_keeps State.ports]
  unfold returnBatch
  exact judgeLevel_levels (s := State.updatePool _ _ { s with grace := rest, spans := _ }) b.pool hj hroom

theorem releaseOldest_absent (b : Batch) (rest : List Batch) (hj : s.joined q = false) :
    (releaseOldest b rest s).ports.get q = s.ports.get q := by
  rw [releaseOldest_keeps State.ports]
  unfold returnBatch
  exact judgeLevel_absent (s := State.updatePool _ _ { s with grace := rest, spans := _ }) b.pool hj

theorem releaseOldest_joined (b : Batch) (rest : List Batch) (s : State) : (releaseOldest b rest s).joined = s.joined :=
  keeps_of_erase State.joined (releaseOldest_erase b rest s) (fun _ => rfl)

theorem Releases.levels (h : Releases l s u) (hj : s.joined q = true)
    (hroom : (s.ports.get q).notices.length + l.length ≤ 64) :
    LevelsAdded l.length (s.ports.get q).notices (u.ports.get q).notices := by
  induction h with
  | stop s => exact .refl _ _
  | @oldest b rest l s u _ _ _ ih =>
    rw [List.length_cons] at hroom ⊢
    have hb := releaseOldest_levels b rest hj (by omega)
    have hl := ih (by rw [releaseOldest_joined]; exact hj) (by have := hb.length; omega)
    rw [Nat.add_comm]
    exact hb.trans hl

theorem Releases.absent (h : Releases l s u) (hj : s.joined q = false) : u.ports.get q = s.ports.get q := by
  induction h with
  | stop s => rfl
  | @oldest b rest l s u _ _ _ ih =>
    exact (ih (by rw [releaseOldest_joined]; exact hj)).trans (releaseOldest_absent b rest hj)

end Sys2Proof.Machine
end

section
/-! PROOFS. The drop of one STAGED grant: its batch is formed and announced, and its counts fall (R65, R109, R111, R124). -/

namespace Sys2Proof.Machine

open State

variable {s t u : State} {p q : Port} {o : Option Port} {v : Option Nat} {g : Gen}

/-! ## The announcement of a batch (R109, R124) -/

/-- The announcement to one port. -/
def announceTo (o : Option Port) (v : Option Nat) (g : Gen) (s : State) (p : Port) : State :=
  if some p = o then s
  else
    match v with
    | some v => addNotice p (.generation g) (addNotice p (.invalidate v g) s)
    | none => addNotice p (.generation g) s

theorem announceBatch_eq (o : Option Port) (v : Option Nat) (g : Gen) (s : State) :
    announceBatch o v g s = allPorts.foldl (announceTo o v g) s := rfl

theorem announceTo_erase (o : Option Port) (v : Option Nat) (g : Gen) (s : State) (p : Port) :
    (announceTo o v g s p).erasePorts = s.erasePorts := by
  unfold announceTo
  split
  · rfl
  · cases v with
    | none => exact addNotice_erase _ _ _
    | some x => exact (addNotice_erase _ _ _).trans (addNotice_erase _ _ _)

theorem announceTo_other (h : p ≠ q) : (announceTo o v g s p).ports.get q = s.ports.get q := by
  unfold announceTo
  split
  · rfl
  · cases v with
    | none => exact addNotice_other h _ _
    | some x => exact (addNotice_other h _ _).trans (addNotice_other h _ _)

/-- A port that is told of a batch: INVALIDATE of a volume, when one is invalidated, then GENERATION. -/
def HeadPort.announced (v : Option Nat) (g : Gen) (r : HeadPort) : HeadPort :=
  match v with
  | some x => (r.pushNotice g (.invalidate x g)).pushNotice g (.generation g)
  | none => r.pushNotice g (.generation g)

theorem announceTo_self (hj : s.joined q = true) (ho : some q ≠ o) (hg : s.generation = g) :
    (announceTo o v g s q).ports.get q = (s.ports.get q).announced v g := by
  subst hg
  unfold announceTo HeadPort.announced
  rw [if_neg ho]
  cases v with
  | none => exact addNotice_self _ hj
  | some x =>
    dsimp only
    rw [addNotice_self _ (by rw [addNotice_joined]; exact hj), addNotice_self _ hj,
      keeps_of_erasePorts State.generation (addNotice_erase _ _ _)]

/-- The originator, and a head that is not JOINED, are told nothing. -/
theorem announceTo_apart (h : some q = o ∨ s.joined q = false) (p : Port) :
    (announceTo o v g s p).ports.get q = s.ports.get q := by
  by_cases hp : p = q
  · subst hp
    unfold announceTo
    split
    · rfl
    · rename_i ho
      have hj := h.resolve_left ho
      cases v with
      | none => rw [addNotice_absent _ hj]
      | some x =>
        dsimp only
        rw [addNotice_absent _ hj, addNotice_absent _ hj]
  · exact announceTo_other hp

theorem foldl_announceTo_other {l : List Port} (hq : q ∉ l) :
    (l.foldl (announceTo o v g) s).ports.get q = s.ports.get q := by
  induction l generalizing s with
  | nil => rfl
  | cons p l ih =>
    obtain ⟨hp, hl⟩ := not_or.mp (mt List.mem_cons.mpr hq)
    rw [List.foldl_cons, ih hl, announceTo_other (Ne.symm hp)]

theorem foldl_announceTo_self {l : List Port} (hl : l.Nodup) (hq : q ∈ l) (hj : s.joined q = true) (ho : some q ≠ o)
    (hg : s.generation = g) : (l.foldl (announceTo o v g) s).ports.get q = (s.ports.get q).announced v g := by
  induction l generalizing s with
  | nil => cases hq
  | cons p l ih =>
    obtain ⟨hp, hl⟩ := List.nodup_cons.mp hl
    rw [List.foldl_cons]
    rcases List.mem_cons.mp hq with rfl | hq
    · rw [foldl_announceTo_other hp, announceTo_self hj ho hg]
    · have hne : p ≠ q := fun h => hp (h ▸ hq)
      have he := announceTo_erase o v g s p
      rw [ih hl hq ((congrFun (keeps_of_erasePorts State.joined he) q).trans hj)
        ((keeps_of_erasePorts State.generation he).trans hg), announceTo_other hne]

theorem announceBatch_told (hj : s.joined q = true) (ho : some q ≠ o) (hg : s.generation = g) :
    (announceBatch o v g s).ports.get q = (s.ports.get q).announced v g :=
  foldl_announceTo_self (by decide) (mem_allPorts q) hj ho hg

theorem announceBatch_apart (h : some q = o ∨ s.joined q = false) :
    (announceBatch o v g s).ports.get q = s.ports.get q := by
  rw [announceBatch_eq]
  generalize allPorts = l
  induction l generalizing s with
  | nil => rfl
  | cons p l ih =>
    have hj := congrFun (keeps_of_erasePorts State.joined (announceTo_erase o v g s p)) q
    rw [List.foldl_cons, ih (h.imp_right hj.trans), announceTo_apart h]

/-! ## What a port that is told then has pending -/

section
variable {r : HeadPort} {x : Nat}

theorem pushed_length (n : Notice) (hroom : r.notices.length < Config.noticePlaces) :
    (r.pushNotice g n).notices.length ≤ r.notices.length + 1 := addToSet_length hroom

/-- GENERATION takes the place of the one that was pending, or stands behind all. -/
theorem pushed_generation (hroom : r.notices.length < Config.noticePlaces) :
    Placed (Notice.same (.generation g)) (.generation g) r.notices (r.pushNotice g (.generation g)).notices :=
  addToSet_placed hroom (Or.inl rfl)

theorem Placed.keeps {a b : List Notice} {y : Notice} (h : Placed (Notice.same (.generation g)) (.generation g) a b)
    (hy : y ∈ a) (hc : y.code ≠ 5) : y ∈ b := h.kept y hy (same_false hc)

theorem announced_length (v : Option Nat) (g : Gen) (hroom : r.notices.length + 2 ≤ 64) :
    (r.announced v g).notices.length ≤ r.notices.length + 2 := by
  cases v with
  | none => exact (pushed_length (.generation g) (show _ < 64 by omega)).trans (by omega)
  | some x =>
    have h1 := pushed_length (g := g) (.invalidate x g) (show r.notices.length < 64 by omega)
    exact (pushed_length (.generation g) (show _ < 64 by omega)).trans (by omega)

theorem announced_generation (v : Option Nat) (g : Gen) (hroom : r.notices.length + 2 ≤ 64) :
    .generation g ∈ (r.announced v g).notices := by
  cases v with
  | none => exact (pushed_generation (show _ < 64 by omega)).placed
  | some x =>
    have h1 := pushed_length (g := g) (.invalidate x g) (show r.notices.length < 64 by omega)
    exact (pushed_generation (show _ < 64 by omega)).placed

theorem announced_invalidate (x : Nat) (g : Gen) (hroom : r.notices.length + 2 ≤ 64)
    (hall : ∀ y ∈ r.notices, y.isInvalidateAll = false) : .invalidate x g ∈ (r.announced (some x) g).notices := by
  have hp : Placed (Notice.same (.invalidate x g)) (.invalidate x g) r.notices (r.pushNotice g (.invalidate x g)).notices :=
    addToSet_placed (show _ < 64 by omega) (Or.inr (List.any_eq_false.mpr fun y hy => by rw [hall y hy]; decide))
  have hlen := hp.length
  exact (pushed_generation (show _ < 64 by omega)).keeps hp.placed (by simp [Notice.code])

theorem announced_all (x : Nat) (g : Gen) (hroom : r.notices.length + 2 ≤ 64)
    (hall : ∃ y ∈ r.notices, y.isInvalidateAll = true) (hnone : ∀ y ∈ r.notices, y.isInvalidate = false) :
    .invalidateAll g ∈ (r.announced (some x) g).notices := by
  have hs : r.notices.any (Notice.same (.invalidate x g)) = false := List.any_eq_false.mpr fun y hy => by
    rw [same_false fun hc => Bool.false_ne_true ((hnone y hy).symm.trans (decide_eq_true hc))]
    decide
  have hp : Placed Notice.isInvalidateAll (.invalidateAll g) r.notices (r.pushNotice g (.invalidate x g)).notices :=
    addToSet_all (List.any_eq_true.mpr hall) hs
  have hlen := hp.length
  exact (pushed_generation (show _ < 64 by omega)).keeps hp.placed (by simp [Notice.code])

/-- An announcement that invalidates nothing adds GENERATION alone. -/
theorem announced_old {y : Notice} (hroom : r.notices.length + 2 ≤ 64) (hy : y ∈ (r.announced none g).notices) :
    y ∈ r.notices ∨ y.code = 5 :=
  ((pushed_generation (show _ < 64 by omega)).old y hy).imp_right fun h => by rw [h]; rfl

end

/-! ## A batch is formed (R111) -/

/-- A batch has been formed and announced, and the release condition is not tested yet. -/
def batched (k : PoolId) (x : List Extent) (o : Option Port) (v : Option Nat) (s : State) : State :=
  announceBatch o v (s.generation + 1) { s with
    generation := s.generation + 1
    grace := s.grace ++ [⟨s.generation + 1, k, x⟩]
    stall := if s.grace.isEmpty then .quiet s.timing.grace else s.stall }

section
variable {k : PoolId} {x : List Extent} {l : List Batch}

theorem formBatch_releases (k : PoolId) (x : List Extent) (o : Option Port) (v : Option Nat) (s : State) :
    ∃ l, Releases l (batched k x o v s) (formBatch k x o v s) := releaseLoop_releases _ _

theorem batched_keeps {γ : Type} (f : State → γ) (k : PoolId) (x : List Extent) (o : Option Port) (v : Option Nat) (s : State)
    (hf : ∀ t : State, f t.erasePorts = f t := by intro; rfl) : f (batched k x o v s) = f { s with
      generation := s.generation + 1
      grace := s.grace ++ [⟨s.generation + 1, k, x⟩]
      stall := if s.grace.isEmpty then .quiet s.timing.grace else s.stall } :=
  keeps_of_erasePorts f (announceBatch_erase _ _ _ _) hf

theorem batched_grace (k : PoolId) (x : List Extent) (o : Option Port) (v : Option Nat) (s : State) :
    (batched k x o v s).grace = s.grace ++ [⟨s.generation + 1, k, x⟩] := batched_keeps State.grace k x o v s

theorem batched_joined (k : PoolId) (x : List Extent) (o : Option Port) (v : Option Nat) (s : State) :
    (batched k x o v s).joined = s.joined := batched_keeps State.joined k x o v s

theorem batched_told (hj : s.joined q = true) (ho : some q ≠ o) :
    (batched k x o v s).ports.get q = (s.ports.get q).announced v (s.generation + 1) :=
  announceBatch_told (s := { s with generation := _, grace := _, stall := _ }) hj ho rfl

theorem batched_apart (h : some q = o ∨ s.joined q = false) : (batched k x o v s).ports.get q = s.ports.get q :=
  announceBatch_apart (s := { s with generation := _, grace := _, stall := _ }) h

theorem Releases.length_le (h : Releases l (batched k x o v s) u) : l.length ≤ s.grace.length + 1 := by
  have hl := congrArg List.length (h.grace)
  rw [batched_grace, List.length_append, List.length_append, List.length_singleton] at hl
  omega

/-- A head that is told of the batch: the announcement, then levels alone. -/
theorem formBatch_told (hj : s.joined q = true) (ho : some q ≠ o)
    (hroom : (s.ports.get q).notices.length + s.grace.length + 2 < 64) :
    ∃ m, LevelsAdded m ((s.ports.get q).announced v (s.generation + 1)).notices
      ((formBatch k x o v s).ports.get q).notices := by
  obtain ⟨l, h⟩ := formBatch_releases k x o v s
  have hlen := h.length_le
  have hann := announced_length (r := s.ports.get q) v (s.generation + 1) (by omega)
  have hl := h.levels (q := q) (by rw [batched_joined]; exact hj) (by rw [batched_told hj ho]; omega)
  rw [batched_told hj ho] at hl
  exact ⟨_, hl⟩

theorem formBatch_absent (hj : s.joined q = false) : (formBatch k x o v s).ports.get q = s.ports.get q := by
  obtain ⟨l, h⟩ := formBatch_releases k x o v s
  rw [h.absent (by rw [batched_joined]; exact hj), batched_apart (Or.inr hj)]

/-- The originator is sent levels alone. -/
theorem formBatch_originator (ho : some q = o) (hroom : (s.ports.get q).notices.length + s.grace.length + 2 < 64) :
    ∃ m, LevelsAdded m (s.ports.get q).notices ((formBatch k x o v s).ports.get q).notices := by
  obtain ⟨l, h⟩ := formBatch_releases k x o v s
  have hlen := h.length_le
  have hb := batched_apart (k := k) (x := x) (v := v) (s := s) (Or.inl ho)
  cases hj : s.joined q with
  | false => exact ⟨0, by rw [formBatch_absent hj]; exact .refl _ _⟩
  | true =>
    have hl := h.levels (q := q) (by rw [batched_joined]; exact hj) (by rw [hb]; omega)
    rw [hb] at hl
    exact ⟨_, hl⟩

/-- A JOINED head that has not acknowledged a tag holds its batch back. -/
theorem acknowledged_false {m : Member} {tag : Gen} (hm : s.heads.get p = .joined m) (ha : m.ack.toNat < tag.toNat) :
    acknowledged s tag = false := by
  refine List.all_eq_false.mpr ⟨p, mem_allPorts p, ?_⟩
  rw [hm]
  exact Bool.eq_false_iff.mp (decide_eq_false (Nat.not_le.mpr ha))

/-- A batch that a JOINED head has yet to acknowledge stays, and alone in the list it has its stall countdown. -/
theorem formBatch_newest {m : Member} (hm : s.heads.get p = .joined m) (ha : m.ack.toNat < (s.generation + 1).toNat) :
    (∃ older, (formBatch k x o v s).grace = older ++ [⟨s.generation + 1, k, x⟩]) ∧
    (s.grace = [] → (formBatch k x o v s).stall = .quiet s.timing.grace) := by
  obtain ⟨l, h⟩ := formBatch_releases k x o v s
  have hheads : (batched k x o v s).heads = s.heads := batched_keeps State.heads k x o v s
  obtain ⟨hn, he⟩ := h.newest (batched_grace k x o v s) (acknowledged_false (hheads ▸ hm) ha)
  refine ⟨hn, fun hs => ?_⟩
  rw [he hs, batched_keeps State.stall]
  exact if_pos (List.isEmpty_iff.mpr hs)

end

end Sys2Proof.Machine
end

section
/-! PROOFS. A STAGED grant is dropped by its owner or by its expiry (R62, R63, R65, R66, R135). -/

namespace Sys2Proof.Machine

open State

variable {s t u : State} {p q : Port} {o : Option Port} {n : Nat} {g : Grant} {k : PoolId} {l : List Batch}
  {granted : List Nat}

/-! ## The state just before the batch is formed -/

/-- The grant's record is FREE, and its extents have passed from reserved to grace. -/
def freed (n : Nat) (g : Grant) (s : State) : State :=
  (s.freeGrant n).updatePool (s.volume g.volume).pool
    (fun r => { r with reserved := r.reserved - g.extents.length, grace := r.grace + g.extents.length })

theorem dropped_allocate (h : g.kind = .allocate) (n : Nat) (s : State) :
    dropped n g s = lowerPending g.volume g.count (freed n g s) := by
  unfold dropped freed
  rw [h]

theorem dropped_relocate (h : g.kind = .relocate) (n : Nat) (s : State) : dropped n g s = freed n g s := by
  unfold dropped freed
  rw [h]

theorem dropped_pools (n : Nat) (g : Grant) (s : State) : (dropped n g s).pools = (freed n g s).pools := by
  cases h : g.kind with
  | allocate => rw [dropped_allocate h, lowerPending_keeps State.pools]
  | relocate => rw [dropped_relocate h]

theorem freed_pool (n : Nat) (s : State) (hk : k = (s.volume g.volume).pool) :
    ((freed n g s).pools.get k).reserved = (s.pools.get k).reserved - g.extents.length ∧
    ∀ j, (j ≠ k → (freed n g s).pools.get j = s.pools.get j) ∧
      ((freed n g s).pools.get j).grace = (s.pools.get j).grace + (if j = k then g.extents.length else 0 : Nat) ∧
      ((freed n g s).pools.get j).free = (s.pools.get j).free := by
  subst hk
  unfold freed
  rw [updatePool_pools]
  refine ⟨by rw [putAt_get_self]; rfl, fun j => ?_⟩
  by_cases hj : j = (s.volume g.volume).pool
  · subst hj
    rw [putAt_get_self, if_pos rfl]
    exact ⟨fun h => absurd rfl h, rfl, rfl⟩
  · rw [putAt_get_other _ _ _ _ (Ne.symm hj), if_neg hj]
    exact ⟨fun _ => rfl, (Int.add_zero _).symm, rfl⟩

theorem freed_volume (n : Nat) (g : Grant) (s : State) : (freed n g s).volume = s.volume := rfl

theorem freed_tenant (n : Nat) (g : Grant) (s : State) : (freed n g s).tenant = s.tenant := rfl

/-- The pending counts of the volume and of its tenant fall with an allocation grant (R5). -/
theorem dropped_pending (h : g.kind = .allocate) (n : Nat) (s : State) :
    (dropped n g s).volume g.volume = { s.volume g.volume with pending := (s.volume g.volume).pending - g.count } ∧
    (dropped n g s).tenant (s.volume g.volume).tenant = { s.tenant (s.volume g.volume).tenant with
      pending := (s.tenant (s.volume g.volume).tenant).pending - g.count } := by
  rw [dropped_allocate h, lowerPending_volume, lowerPending_tenant, freed_volume, freed_tenant]
  exact ⟨if_pos rfl, if_pos rfl⟩

theorem dropped_tenant (n : Nat) (g : Grant) (s : State) {x : Nat} (hx : x ≠ (s.volume g.volume).tenant) :
    (dropped n g s).tenant x = s.tenant x := by
  cases h : g.kind with
  | allocate =>
    rw [dropped_allocate h, lowerPending_tenant, freed_volume, freed_tenant]
    exact if_neg (Ne.symm hx)
  | relocate => rw [dropped_relocate h, freed_tenant]

/-! ## What the drop leaves in the tables -/

/-- What the drop of a grant has done between two states to everything but the ports: the batch of its extents, the batches
that are released, the counts, and the deletions that are served. -/
structure DropsBatch (n : Nat) (g : Grant) (k : PoolId) (released : List Batch) (granted : List Nat) (s u : State) : Prop where
  grants : u.grants = Table.erase n s.grants
  generation : u.generation = s.generation + 1
  grace : s.grace ++ [⟨s.generation + 1, k, g.extents.map Prod.snd⟩] = released ++ u.grace
  reserved : (u.pools.get k).reserved = (s.pools.get k).reserved - g.extents.length
  reserved_other : ∀ j, j ≠ k → (u.pools.get j).reserved = (s.pools.get j).reserved
  counts : ∀ j, (u.pools.get j).grace = (s.pools.get j).grace + (if j = k then g.extents.length else 0) -
      (extentsTo j released : Nat) ∧ (u.pools.get j).free = (s.pools.get j).free + (extentsTo j released : Nat)
  serves : serves granted s u
  volume : ∀ v, v ≠ g.volume → u.volume v = unpaused granted v (s.volume v)
  tenant : ∀ x, x ≠ (s.volume g.volume).tenant → u.tenant x = s.tenant x
  allocate : g.kind = .allocate →
    u.volume g.volume = unpaused granted g.volume
      { s.volume g.volume with pending := (s.volume g.volume).pending - g.count } ∧
    u.tenant (s.volume g.volume).tenant = { s.tenant (s.volume g.volume).tenant with
      pending := (s.tenant (s.volume g.volume).tenant).pending - g.count }
  relocate : g.kind = .relocate →
    u.volume g.volume = unpaused granted g.volume (s.volume g.volume) ∧ u.tenants = s.tenants

theorem DropsBatch.of_releases {b : State} (hk : k = (s.volume g.volume).pool)
    (hb : b = batched k (g.extents.map Prod.snd) o g.invalidates (dropped n g s)) (h : Releases l b u)
    (hs : served granted b u) : DropsBatch n g k l granted s u := by
  have kept {γ : Type} (f : State → γ) (hf : ∀ t : State, f t.eraseBatch = f t := by intro; rfl) :
      f u = f (dropped n g s) :=
    (keeps_of_erase f h.erase hf).trans ((congrArg f hb).trans
      ((batched_keeps f _ _ _ _ _ (fun t => (hf t.erasePorts).symm.trans (hf t))).trans
        ((hf _).symm.trans (hf (dropped n g s)))))
  have hpools : b.pools = (freed n g s).pools := by
    rw [hb, batched_keeps State.pools]
    exact dropped_pools n g s
  have hvol : b.volume = (dropped n g s).volume := by
    rw [hb, batched_keeps State.volume]
    rfl
  obtain ⟨hgrants, hgen⟩ := dropped_grants n g s
  obtain ⟨hres, hother⟩ := freed_pool n s hk
  obtain ⟨hserves, hvolume⟩ := hs
  refine ⟨(kept State.grants).trans hgrants, ?_, ?_, ?_, fun j hj => ?_, fun j => ?_, ?_, fun v hv => ?_, fun x hx => ?_,
    fun ha => ⟨?_, ?_⟩, fun hr => ⟨?_, ?_⟩⟩
  · rw [h.generation, hb, batched_keeps State.generation, hgen]
  · rw [← h.grace, hb, batched_grace, hgen, dropped_keeps State.grace]
  · rw [(h.counts k).1, hpools, hres]
  · rw [(h.counts j).1, hpools, (hother j).1 hj]
  · obtain ⟨-, hg, hf⟩ := h.counts j
    obtain ⟨-, hg', hf'⟩ := hother j
    rw [hg, hf, hpools, hg', hf']
    exact ⟨rfl, rfl⟩
  · refine serves_congr hserves ?_ ?_ ?_ rfl rfl rfl
    · rw [hb, batched_keeps State.admissionWait, dropped_keeps State.admissionWait]
    · rw [hb, batched_keeps State.deletionsDue, dropped_keeps State.deletionsDue]
    · rw [hb, batched_keeps State.promises, dropped_keeps State.promises]
  · rw [hvolume, hvol, (dropped_volume n g v s).2 (Ne.symm hv)]
  · rw [kept State.tenant, dropped_tenant n g s hx]
  · rw [hvolume, hvol, (dropped_pending ha n s).1]
  · rw [kept State.tenant, (dropped_pending ha n s).2]
  · rw [hvolume, hvol, dropped_relocate hr, freed_volume]
  · rw [kept State.tenants, dropped_relocate hr]
    rfl

theorem dropGrant_batch (o : Option Port) (h : s.grant? n = some g) (hk : k = (s.volume g.volume).pool) :
    ∃ released granted, DropsBatch n g k released granted s (dropGrant o n s) := by
  rw [dropGrant_some o n g s h, ← hk]
  obtain ⟨l, hl⟩ := formBatch_releases k (g.extents.map Prod.snd) o g.invalidates (dropped n g s)
  obtain ⟨granted, hs⟩ := hl.served
  exact ⟨l, granted, .of_releases hk rfl hl hs⟩

/-- The ports play no part in it. -/
theorem DropsBatch.of_ports (h : DropsBatch n g k l granted s u) (x y : Vector HeadPort 4) :
    DropsBatch n g k l granted { s with ports := x } { u with ports := y } :=
  ⟨h.grants, h.generation, h.grace, h.reserved, h.reserved_other, h.counts, h.serves, h.volume, h.tenant, h.allocate,
    h.relocate⟩

theorem DropsBatch.of_erasePorts {b : State} (h : DropsBatch n g k l granted t b) (hs : t.erasePorts = s.erasePorts)
    (hu : u.erasePorts = b.erasePorts) : DropsBatch n g k l granted s u := by
  rw [eq_of_erasePorts hs.symm, eq_of_erasePorts hu]
  exact h.of_ports _ _

end Sys2Proof.Machine
end

section
/-! PROOFS. The two events that drop one STAGED grant: the Abandon of its owner and its expiry (R62, R63). -/

namespace Sys2Proof.Machine

open State

variable {s t u : State} {p q : Port} {o : Option Port} {n : Nat} {g : Grant} {c : Instr}

/-! ## What the drop sends -/

theorem noNotice_updatePort {f : HeadPort → HeadPort} (hf : ∀ r, (f r).notices = r.notices ∧ (f r).lost = r.lost) (p q : Port)
    (s : State) : noNotice q s (s.updatePort p f) := by
  unfold noNotice
  rw [updatePort_ports, putAt_get]
  split
  · rename_i h
    rw [← h]
    exact hf _
  · exact ⟨rfl, rfl⟩

theorem noNotice_taken (p q : Port) (tag : Tag) (s : State) : noNotice q s (taken p tag s) :=
  noNotice_updatePort (f := fun r => { r with busy := putAt r.busy tag true }) (fun _ => ⟨rfl, rfl⟩) p q s

theorem noNotice_answer (a : Origin) (code : Byte) (outcome : AnswerOutcome) (body : AnswerBody) (q : Port) (s : State) :
    noNotice q s (answer a code outcome body s) := by
  unfold answer
  split
  · exact noNotice_updatePort (f := HeadPort.pushAnswer _) (fun _ => ⟨rfl, rfl⟩) _ q s
  · exact ⟨rfl, rfl⟩

theorem dropped_ports (n : Nat) (g : Grant) (s : State) : (dropped n g s).ports = s.ports := dropped_keeps State.ports n g s

theorem dropped_joined (n : Nat) (g : Grant) (s : State) : (dropped n g s).joined = s.joined :=
  dropped_keeps State.joined n g s

theorem dropped_grace (n : Nat) (g : Grant) (s : State) : (dropped n g s).grace = s.grace := dropped_keeps State.grace n g s

theorem invalidates_relocate (h : g.kind = .relocate) : g.invalidates = some g.volume := by
  unfold Grant.invalidates
  rw [h]

theorem invalidates_allocate (h : g.kind = .allocate) : g.invalidates = none := by
  unfold Grant.invalidates
  rw [h]

section
variable (h : s.grant? n = some g)
include h

/-- A JOINED head but the originator is told of the batch, and then of levels alone. -/
theorem dropGrant_told (hj : s.joined q = true) (ho : some q ≠ o)
    (hroom : (s.ports.get q).notices.length + s.grace.length + 2 < 64) :
    ∃ m, LevelsAdded m ((s.ports.get q).announced g.invalidates (s.generation + 1)).notices
      ((dropGrant o n s).ports.get q).notices := by
  rw [dropGrant_some o n g s h, ← dropped_ports n g s, ← (dropped_grants n g s).2]
  exact formBatch_told (by rw [dropped_joined]; exact hj) ho (by rw [dropped_ports, dropped_grace]; exact hroom)

theorem dropGrant_originator (ho : some q = o) (hroom : (s.ports.get q).notices.length + s.grace.length + 2 < 64) :
    ∃ m, LevelsAdded m (s.ports.get q).notices ((dropGrant o n s).ports.get q).notices := by
  rw [dropGrant_some o n g s h, ← dropped_ports n g s]
  exact formBatch_originator ho (by rw [dropped_ports, dropped_grace]; exact hroom)

theorem dropGrant_absent (o : Option Port) (hj : s.joined q = false) : (dropGrant o n s).ports.get q = s.ports.get q := by
  rw [dropGrant_some o n g s h, formBatch_absent (by rw [dropped_joined]; exact hj), dropped_ports]

theorem dropGrant_newest {m : Member} (o : Option Port) (hm : s.heads.get p = .joined m)
    (ha : m.ack.toNat < (s.generation + 1).toNat) :
    (∃ older, (dropGrant o n s).grace = older ++ [⟨s.generation + 1, (s.volume g.volume).pool, g.extents.map Prod.snd⟩]) ∧
    (s.grace = [] → (dropGrant o n s).stall = .quiet s.timing.grace) := by
  have hheads : (dropped n g s).heads = s.heads := dropped_keeps State.heads n g s
  have htiming : (dropped n g s).timing = s.timing := dropped_keeps State.timing n g s
  rw [dropGrant_some o n g s h, ← dropped_grace n g s, ← (dropped_grants n g s).2, ← htiming]
  exact formBatch_newest (hheads ▸ hm) (by rw [(dropped_grants n g s).2]; exact ha)

end

/-! ## The events -/

/-- The command drops the grant for an originator, or for none, from the state `t` that differs from `s` in the slot of a tag
alone, and leads to `u`, in which its answer alone has joined. -/
structure DropEvent (n : Nat) (c : Instr) (o : Option Port) (s t u : State) : Prop where
  runs : exec c s = .next u
  before : t.erasePorts = s.erasePorts
  unheard : ∀ q, noNotice q s t
  after : u.erasePorts = (dropGrant o n t).erasePorts
  silent : ∀ q, noNotice q (dropGrant o n t) u
  grows : portsGrow t u
  originator : ∀ q, some q = o ↔ ∃ tag w x, c = .abandon q tag w x
  answers : ∀ p tag w x, c = .abandon p tag w x → lastAnswer p ⟨tag, 0x42, .done, u.generation, .empty⟩ u

theorem dropEvent_abandon {tag : Tag} {w : BitVec 16} (hg : s.grant? n = some g) (hs : g.isStaged = true) (hw : w.toNat = n)
    (hn : n ≤ 1023) (ho : g.owner = p) (h : admits s p tag) :
    ∃ u, DropEvent n (.abandon p tag w g.serial) (some p) s (taken p tag s) u := by
  subst hw
  have hdrop := judgeAbandon_drops (s := taken p tag s) (o := ⟨p, tag⟩) hn hg ho hs
  have hlink : (dropGrant (some p) w.toNat (taken p tag s)).linkUp p = true := by
    rw [portsGrow_linkUp (dropGrant_grows _ _ _), taken_linkUp]
    exact admits_linkUp h
  obtain ⟨d, hd⟩ : ∃ d, d = dropGrant (some p) w.toNat (taken p tag s) := ⟨_, rfl⟩
  have hgen : (answer ⟨p, tag⟩ 0x42 .done .empty d).generation = d.generation :=
    keeps_of_erasePorts State.generation (answer_erase _ _ _ _ d)
  have hlast := answer_lastAnswer (t := tag) 0x42 .done .empty (hd ▸ hlink)
  refine ⟨answer ⟨p, tag⟩ 0x42 .done .empty d, ?_, rfl, fun q => noNotice_taken p q tag s, ?_, fun q => ?_, ?_, fun q => ?_, ?_⟩
  · exact (request_admits .abandon _ h).trans (congrArg _ (hdrop.trans (congrArg _ hd.symm)))
  · rw [← hd]; exact answer_erase _ _ _ _ d
  · rw [← hd]; exact noNotice_answer _ _ _ _ q d
  · exact portsGrow_trans (hd ▸ dropGrant_grows _ _ _) (answer_grows _ _ _ _ d)
  · exact ⟨fun e => ⟨tag, w, g.serial, by rw [Option.some.inj e]⟩,
      fun ⟨_, _, _, e⟩ => congrArg some (Instr.abandon.inj e).1.symm⟩
  · intro p' tag' w' x e
    obtain ⟨rfl, rfl, -, -⟩ := Instr.abandon.inj e
    rw [hgen]
    exact hlast

/-- The expiry takes the first grant whose countdown has expired. -/
theorem expireGrant_first {before after : Table Grant} (h : s.grants = before ++ (n, g) :: after) (hg : g.state = .staged 0)
    (hb : ∀ e ∈ before, e.2.state ≠ .staged 0) : expireGrant s = dropGrant none n s := by
  have hnone : before.find? (fun e => e.2.expired) = none :=
    List.find?_eq_none.mpr fun e he hx => hb e he (of_decide_eq_true hx)
  have hfind : s.grants.find? (fun e => e.2.expired) = some (n, g) := by
    rw [h, List.find?_append, hnone]
    exact List.find?_cons_of_pos (p := fun e : Nat × Grant => e.2.expired) (a := (n, g)) (decide_eq_true hg)
  unfold expireGrant
  rw [hfind]

theorem dropEvent_expiry {before after : Table Grant} (h : settled s) (hg : s.grants = before ++ (n, g) :: after)
    (hz : g.state = .staged 0) (hb : ∀ e ∈ before, e.2.state ≠ .staged 0) : ∃ u, DropEvent n .grantExpiry none s s u := by
  refine ⟨dropGrant none n s, ?_, rfl, fun _ => ⟨rfl, rfl⟩, rfl, fun _ => ⟨rfl, rfl⟩, dropGrant_grows _ _ _,
    fun q => ⟨nofun, nofun⟩, nofun⟩
  exact (event_settled expireGrant h).trans (congrArg _ (expireGrant_first hg hz hb))

theorem eq_of_eraseDrop (h : u.eraseDrop = s.eraseDrop) : u = { s with
    ports := u.ports, grants := u.grants, generation := u.generation, grace := u.grace, stall := u.stall
    volumes := u.volumes, tenants := u.tenants, spans := u.spans, pools := u.pools, promises := u.promises
    admissionWait := u.admissionWait, deletionsDue := u.deletionsDue } :=
  (congrArg (fun y : State => { y with
    ports := u.ports, grants := u.grants, generation := u.generation, grace := u.grace, stall := u.stall
    volumes := u.volumes, tenants := u.tenants, spans := u.spans, pools := u.pools, promises := u.promises
    admissionWait := u.admissionWait, deletionsDue := u.deletionsDue }) h :)

section
variable (e : DropEvent n c o s t u) (h : s.grant? n = some g)
include e

theorem DropEvent.frame : u.eraseDrop = s.eraseDrop :=
  (keeps_of_erasePorts State.eraseDrop e.after).trans
    ((dropGrant_erase o n t).trans (keeps_of_erasePorts State.eraseDrop e.before))

theorem DropEvent.joined (q : Port) : t.joined q = s.joined q := congrFun (keeps_of_erasePorts State.joined e.before) q

/-- The room that a port's notice set has, read before the tag was taken. -/
theorem DropEvent.room (hroom : (s.ports.get q).notices.length + s.grace.length + 2 < 64) :
    (t.ports.get q).notices.length + t.grace.length + 2 < 64 := by
  rw [(e.unheard q).1, keeps_of_erasePorts State.grace e.before]
  exact hroom

include h

theorem DropEvent.grant : t.grant? n = some g := (congrFun (keeps_of_erasePorts State.grant? e.before) n).trans h

theorem DropEvent.batch : ∃ released granted, DropsBatch n g (s.volume g.volume).pool released granted s u := by
  have hv : t.volume = s.volume := keeps_of_erasePorts State.volume e.before
  obtain ⟨released, granted, hb⟩ := dropGrant_batch o (e.grant h) rfl
  rw [hv] at hb
  exact ⟨released, granted, hb.of_erasePorts e.before e.after⟩

theorem DropEvent.newest {m : Member} (hm : s.heads.get p = .joined m) (ha : m.ack.toNat < (s.generation + 1).toNat) :
    (∃ older, u.grace = older ++ [⟨s.generation + 1, (s.volume g.volume).pool, g.extents.map Prod.snd⟩]) ∧
    (s.grace = [] → u.stall = .quiet s.timing.grace) := by
  have keep {γ : Type} (f : State → γ) (hf : ∀ t : State, f t.erasePorts = f t := by intro; rfl) : f t = f s :=
    keeps_of_erasePorts f e.before hf
  rw [keeps_of_erasePorts State.grace e.after, keeps_of_erasePorts State.stall e.after, ← keep State.grace,
    ← keep State.generation, ← keep State.volume, ← keep State.timing]
  exact dropGrant_newest (e.grant h) o (by rw [keep State.heads]; exact hm) (by rw [keep State.generation]; exact ha)

theorem DropEvent.originator_levels (ho : some p = o) (hroom : (s.ports.get p).notices.length + s.grace.length + 2 < 64) :
    ∃ m, LevelsAdded m (s.ports.get p).notices (u.ports.get p).notices := by
  rw [(e.silent p).1, ← (e.unheard p).1]
  exact dropGrant_originator (e.grant h) ho (e.room hroom)

theorem DropEvent.absent (hj : s.joined q = false) : noNotice q s u := by
  obtain ⟨hn, hl⟩ := e.silent q
  have hd := dropGrant_absent (e.grant h) o ((e.joined q).trans hj)
  obtain ⟨hn', hl'⟩ := e.unheard q
  exact ⟨by rw [hn, hd, hn'], by rw [hl, hd, hl']⟩

theorem DropEvent.told (hj : s.joined q = true) (ho : some q ≠ o)
    (hroom : (s.ports.get q).notices.length + s.grace.length + 2 < 64) :
    ∃ m, LevelsAdded m ((t.ports.get q).announced g.invalidates (s.generation + 1)).notices (u.ports.get q).notices := by
  rw [(e.silent q).1, ← keeps_of_erasePorts State.generation e.before]
  exact dropGrant_told (e.grant h) ((e.joined q).trans hj) ho (e.room hroom)

/-- What a JOINED head but the originator has pending of the drop (R109, R124). -/
theorem DropEvent.notices (hj : s.joined q = true) (ho : some q ≠ o)
    (hroom : (s.ports.get q).notices.length + s.grace.length + 2 < 64) :
    Notice.generation (s.generation + 1) ∈ (u.ports.get q).notices ∧
    (g.kind = .relocate → (∀ y ∈ (s.ports.get q).notices, y.isInvalidateAll = false) →
      Notice.invalidate g.volume (s.generation + 1) ∈ (u.ports.get q).notices) ∧
    (g.kind = .relocate → (∃ y ∈ (s.ports.get q).notices, y.isInvalidateAll = true) →
      (∀ y ∈ (s.ports.get q).notices, y.isInvalidate = false) →
      Notice.invalidateAll (s.generation + 1) ∈ (u.ports.get q).notices) ∧
    (g.kind = .allocate → ∀ y ∈ (u.ports.get q).notices, y.isInvalidate = true ∨ y.isInvalidateAll = true →
      y ∈ (s.ports.get q).notices) := by
  obtain ⟨m, hl⟩ := e.told h hj ho hroom
  rw [← (e.unheard q).1] at hroom ⊢
  have hplaces : (t.ports.get q).notices.length + 2 ≤ 64 := by omega
  refine ⟨hl.kept _ (announced_generation _ _ hplaces) (by simp [Notice.code]), fun hk hall => ?_, fun hk hall hnone => ?_,
    fun hk y hy hi => ?_⟩
  · rw [invalidates_relocate hk] at hl
    exact hl.kept _ (announced_invalidate _ _ hplaces hall) (by simp [Notice.code])
  · rw [invalidates_relocate hk] at hl
    exact hl.kept _ (announced_all _ _ hplaces hall hnone) (by simp [Notice.code])
  · rw [invalidates_allocate hk] at hl
    have hcode : y.code = 3 ∨ y.code = 4 := hi.imp of_decide_eq_true of_decide_eq_true
    have hann := (hl.old y hy).resolve_right (by omega)
    exact (announced_old hplaces hann).resolve_right (by omega)

end

/-- Settles O46: the two events are one (`DropEvent`); its batch by `DropsBatch`, its notices by `HeadPort.announced`. -/
theorem dropsReturnExtents : Obligations.DropsReturnExtents := by
  intro n g c k s t hg hst hset hk hc
  subst hk
  obtain ⟨o, u, e⟩ : ∃ o u, DropEvent n c o s t u := by
    rcases hc with ⟨p, tag, w, rfl, hw, hn, ho, ha, rfl⟩ | ⟨rfl, hz, rfl, before, after, hb, hfirst⟩
    · exact ⟨some p, dropEvent_abandon hg hst hw hn ho ha⟩
    · exact ⟨none, dropEvent_expiry hset hb hz hfirst⟩
  obtain ⟨released, granted, b⟩ := e.batch hg
  refine ⟨u, released, granted, e.runs, b.grants, b.generation, b.grace, b.reserved, b.reserved_other, b.counts,
    fun p m hm ha => e.newest hg hm ha, b.serves, b.allocate, b.volume, b.tenant, b.relocate, fun p tag w x hp => ?_,
    fun q hj hq hroom => ?_, fun q hj => e.absent hg hj, e.grows, eq_of_eraseDrop e.frame⟩
  · refine ⟨e.answers p tag w x hp, fun hroom => ?_⟩
    obtain ⟨m, hl⟩ := e.originator_levels hg ((e.originator p).mpr ⟨tag, w, x, hp⟩) hroom
    exact hl.old
  · have ho : some q ≠ o := fun h => by
      obtain ⟨tag, w, x, hx⟩ := (e.originator q).mp h
      exact hq tag w x hx
    exact e.notices hg hj ho hroom

end Sys2Proof.Machine
end

section
/-! PROOFS. The law of the leases (Table 4-1, R79, R82) under the shared operations: which of them write no lease record, and which
write a lawful one. -/

namespace Sys2Proof.Machine

open State

variable {s u : State}

/-! ## Lawful records -/

/-- A record without a waiter is lawful unless it is RECALLING. -/
theorem lawful_unwaited {h : Hold} (hr : h.isRecalling = false) (e : BitVec 32) : Lease.lawful ⟨h, e, []⟩ :=
  ⟨List.nodup_nil, nofun, fun _ => rfl, hr⟩

/-- The hold of a record that passes to a waiter (R79). -/
def Waiter.holds (w : Waiter) (rest : List Waiter) (ticks : Nat) : Hold :=
  if rest.any Waiter.marked then .recalling w.port ticks else .held w.port

theorem holds_holder? (w : Waiter) (rest : List Waiter) (ticks : Nat) : (w.holds rest ticks).holder? = some w.port := by
  unfold Waiter.holds
  split <;> rfl

theorem holds_isRecalling (w : Waiter) (rest : List Waiter) (ticks : Nat) :
    (w.holds rest ticks).isRecalling = rest.any Waiter.marked := by
  unfold Waiter.holds
  cases rest.any Waiter.marked <;> rfl

/-- A lawful record that passes to its first waiter stays lawful. -/
theorem lawful_handed {l : Lease} {w : Waiter} {rest : List Waiter} (hw : l.waiters = w :: rest) (hl : l.lawful) (ticks : Nat)
    (e : BitVec 32) : Lease.lawful ⟨w.holds rest ticks, e, rest⟩ := by
  obtain ⟨hn, -, -, -⟩ := hl
  rw [hw, List.map_cons, List.nodup_cons] at hn
  refine ⟨hn.2, fun x hx hp => ?_, fun hh => ?_, holds_isRecalling w rest ticks⟩
  · rw [holds_holder?] at hp
    exact hn.1 (Option.some.inj hp ▸ List.mem_map_of_mem hx)
  · rw [holds_holder?] at hh
    cases hh

/-- A lawful record stays lawful without a waiter. -/
theorem lawful_without {l : Lease} (hl : l.lawful) (p : Port) : (l.without p).lawful := by
  have hr := without_isRecalling hl p
  obtain ⟨hn, hh, hf, -⟩ := hl
  refine ⟨hn.sublist (List.filter_sublist.map Waiter.port), fun w hw => ?_, fun hx => ?_, hr⟩
  · rw [Lease.without, unlessMarked_holder?]
    exact hh w (List.mem_of_mem_filter hw)
  · rw [Lease.without, unlessMarked_holder?] at hx
    exact List.filter_eq_nil_iff.mpr (by rw [hf hx]; nofun)

/-- The hold of a record that a waiter joins: its demand recalls a HELD one (R78). -/
def Hold.demanded (h : Hold) (demand : Bool) (ticks : Nat) : Hold :=
  match h, demand with
  | .held p, true => .recalling p ticks
  | x, _ => x

theorem demanded_holder? (h : Hold) (d : Bool) (ticks : Nat) : (h.demanded d ticks).holder? = h.holder? := by
  cases h <;> cases d <;> rfl

theorem demanded_isRecalling {h : Hold} {p : Port} (hh : h.holder? = some p) (d : Bool) (ticks : Nat) :
    (h.demanded d ticks).isRecalling = (h.isRecalling || d) := by
  cases h with
  | held q => cases d <;> rfl
  | recalling q c => rfl
  | free => cases hh
  | orphaned => cases hh

/-- A lawful record stays lawful as a head that neither holds nor waits joins its queue. -/
theorem lawful_awaited {l : Lease} {h p : Port} (hl : l.lawful) (hh : l.hold.holder? = some h) (hp : h ≠ p)
    (hw : ∀ w ∈ l.waiters, w.port ≠ p) (t : Tag) (d : Bool) (ticks : Nat) :
    Lease.lawful ⟨l.hold.demanded d ticks, l.epoch, l.waiters ++ [⟨p, t, d⟩]⟩ := by
  obtain ⟨hn, hne, -, hr⟩ := hl
  refine ⟨?_, fun w hm => ?_, fun hx => ?_, ?_⟩
  · rw [List.map_append, List.nodup_append]
    refine ⟨hn, List.nodup_singleton p, fun a ha b hb => ?_⟩
    obtain ⟨w, hm, rfl⟩ := List.mem_map.mp ha
    rw [List.mem_singleton.mp hb]
    exact hw w hm
  · rw [demanded_holder?]
    rcases List.mem_append.mp hm with hm | hm
    · exact hne w hm
    · rw [List.mem_singleton.mp hm, hh]
      exact fun he => hp (Option.some.inj he)
  · rw [demanded_holder?, hh] at hx
    cases hx
  · rw [demanded_isRecalling hh, hr, List.any_append]
    simp

theorem lawful_ticked {l : Lease} (hl : l.lawful) : l.ticked.lawful := by
  obtain ⟨hold, epoch, waiters⟩ := l
  cases hold <;> exact hl

/-! ## All records -/

/-- The lease table alone decides the law. -/
theorem leaseLaw_congr (h : u.leases = s.leases) : leaseLaw u ↔ leaseLaw s := by
  unfold leaseLaw State.lease
  rw [h]

theorem leaseLaw_ite {c : Prop} [Decidable c] {a b : State} (ha : leaseLaw a) (hb : leaseLaw b) :
    leaseLaw (if c then a else b) := by
  split
  · exact ha
  · exact hb

theorem leaseLaw_foldl {α : Type} {f : State → α → State} (hf : ∀ b a, leaseLaw b → leaseLaw (f b a)) (l : List α)
    (hs : leaseLaw s) : leaseLaw (l.foldl f s) := l.foldlRecOn f hs (fun b hb a _ => hf b a hb)

/-- A lawful record is written. -/
theorem leaseLaw_setLease {v : Nat} {l : Lease} (hl : l.lawful) (hs : leaseLaw s) : leaseLaw (s.setLease v l) := fun w => by
  rw [lease_setLease]
  split
  · exact hl
  · exact hs w

/-! ## Operations that write no lease record -/

section
variable (o : Origin) (code : Byte) (outcome : AnswerOutcome) (body : AnswerBody) (kind : RequestKind) (r : Reason)
  (p : Port) (n : Notice) (v : Nat) (q : QueueId) (o? : Option Origin) (but : Option Port)

@[simp] theorem leaseLaw_answer : leaseLaw (answer o code outcome body s) ↔ leaseLaw s :=
  leaseLaw_congr (keeps_of_erasePorts State.leases (answer_erase _ _ _ _ _))

@[simp] theorem leaseLaw_answer? : leaseLaw (answer? o? code outcome body s) ↔ leaseLaw s :=
  leaseLaw_congr (keeps_of_erasePorts State.leases (answer?_erase _ _ _ _ _))

@[simp] theorem leaseLaw_refuse : leaseLaw (refuse o kind r s) ↔ leaseLaw s := leaseLaw_answer _ _ _ _

@[simp] theorem leaseLaw_refuseWith : leaseLaw (refuseWith o kind r body s) ↔ leaseLaw s := leaseLaw_answer _ _ _ _

@[simp] theorem leaseLaw_refuseItem : leaseLaw (refuseItem o? kind r body s) ↔ leaseLaw s := leaseLaw_answer? _ _ _ _

@[simp] theorem leaseLaw_addNotice : leaseLaw (addNotice p n s) ↔ leaseLaw s :=
  leaseLaw_congr (keeps_of_erasePorts State.leases (addNotice_erase _ _ _))

@[simp] theorem leaseLaw_notifyJoined : leaseLaw (notifyJoined but n s) ↔ leaseLaw s :=
  leaseLaw_congr (keeps_of_erasePorts State.leases (notifyJoined_erase _ _ _))

@[simp] theorem leaseLaw_reportVolume : leaseLaw (reportVolume v s) ↔ leaseLaw s :=
  leaseLaw_congr (keeps_of_eraseReport State.leases (reportVolume_erase _ _))

@[simp] theorem leaseLaw_endWatches : leaseLaw (endWatches p r s) ↔ leaseLaw s :=
  leaseLaw_congr (keeps_of_eraseReport State.leases (endWatches_erase _ _ _))

@[simp] theorem leaseLaw_endClaims (c : List (Nat × Tag)) : leaseLaw (endClaims p r c s) ↔ leaseLaw s :=
  leaseLaw_congr (keeps_of_erasePorts State.leases (endClaims_erase p r c s))

@[simp] theorem leaseLaw_setLatch (b : Bool) : leaseLaw (setLatch v b s) ↔ leaseLaw s :=
  leaseLaw_congr (setLatch_keeps State.leases v b s)

@[simp] theorem leaseLaw_setQueue (c : ChangeQueue) : leaseLaw (s.setQueue q c) ↔ leaseLaw s :=
  leaseLaw_congr (setQueue_leases q c s)

@[simp] theorem leaseLaw_endFlight : leaseLaw (endFlight q s) ↔ leaseLaw s := leaseLaw_setQueue _ _

@[simp] theorem leaseLaw_enqueue (x : Request) : leaseLaw (enqueue x o s) ↔ leaseLaw s := leaseLaw_setQueue _ _

@[simp] theorem leaseLaw_formIntent (flight : Flight) (i : Intent) : leaseLaw (formIntent flight i s) ↔ leaseLaw s :=
  leaseLaw_congr (formIntent_keeps State.leases flight i s)

@[simp] theorem leaseLaw_continueDeletion : leaseLaw (continueDeletion v s) ↔ leaseLaw s :=
  leaseLaw_congr (continueDeletion_keeps State.leases v s)

@[simp] theorem leaseLaw_setGrant (g : Grant) : leaseLaw (s.setGrant v g) ↔ leaseLaw s := Iff.rfl

@[simp] theorem leaseLaw_freeGrant : leaseLaw (s.freeGrant v) ↔ leaseLaw s := Iff.rfl

@[simp] theorem leaseLaw_setVolume (x : Volume) : leaseLaw (s.setVolume v x) ↔ leaseLaw s := Iff.rfl

@[simp] theorem leaseLaw_lowerPending (m : Nat) : leaseLaw (lowerPending v m s) ↔ leaseLaw s :=
  leaseLaw_congr (lowerPending_keeps State.leases v m s)

@[simp] theorem leaseLaw_raiseMapped : leaseLaw (raiseMapped v s) ↔ leaseLaw s :=
  leaseLaw_congr (raiseMapped_keeps State.leases v s)

@[simp] theorem leaseLaw_lowerMapped : leaseLaw (lowerMapped v s) ↔ leaseLaw s :=
  leaseLaw_congr (lowerMapped_keeps State.leases v s)

@[simp] theorem leaseLaw_judgeLevel (k : PoolId) : leaseLaw (judgeLevel k s) ↔ leaseLaw s :=
  leaseLaw_congr (judgeLevel_keeps State.leases k s)

@[simp] theorem leaseLaw_releaseTest : leaseLaw (releaseTest s) ↔ leaseLaw s :=
  leaseLaw_congr (keeps_of_erase State.leases (releaseTest_erase s) (fun _ => rfl))

@[simp] theorem leaseLaw_formPromised (f : Forming) : leaseLaw (formPromised f but v s) ↔ leaseLaw s :=
  leaseLaw_congr (keeps_of_erase State.leases (formPromised_erase f but v s) (fun _ => rfl))

@[simp] theorem leaseLaw_settleForming (f : Forming) : leaseLaw (settleForming f v s) ↔ leaseLaw s :=
  leaseLaw_congr (keeps_of_erase State.leases (settleForming_erase f v s) (fun _ => rfl))

@[simp] theorem leaseLaw_dropGrant (g : Nat) : leaseLaw (dropGrant but g s) ↔ leaseLaw s :=
  leaseLaw_congr (keeps_of_erase State.leases (dropGrant_erase but g s) (fun _ => rfl))

@[simp] theorem leaseLaw_dropGrants (l : List Nat) : leaseLaw (dropGrants but l s) ↔ leaseLaw s :=
  leaseLaw_congr (keeps_of_erase State.leases (dropGrants_erase but l s) (fun _ => rfl))

@[simp] theorem leaseLaw_setHead (h : Head) : leaseLaw (setHead p h s) ↔ leaseLaw s := Iff.rfl

@[simp] theorem leaseLaw_joinHead (i : BitVec 32) : leaseLaw (joinHead p i s) ↔ leaseLaw s := Iff.rfl

end

/-! ## The holder and the waiters of a lease (R75 to R82) -/

/-- The pass of a lease writes the record of its first waiter, and then tells of it (R79). -/
theorem passLease_leases (v : Nat) (w : Waiter) (rest : List Waiter) (orphan : Bool) (s : State) :
    (passLease v w rest orphan s).leases =
      (s.setLease v ⟨w.holds rest s.timing.recallTicks, (s.lease v).epoch + 1, rest⟩).leases := by
  unfold passLease
  dsimp only
  rw [keeps_of_eraseReport State.leases (reportVolume_erase _ _)]
  split
  · rw [keeps_of_erasePorts State.leases (answer_erase _ _ _ _ _)]
    rfl
  · rw [keeps_of_erasePorts State.leases (addNotice_erase _ _ _), keeps_of_erasePorts State.leases (answer_erase _ _ _ _ _)]
    rfl

theorem leaseLaw_loseLease (v : Nat) (orphan : Bool) {empty : Hold} (he : empty.isRecalling = false) (hs : leaseLaw s) :
    leaseLaw (loseLease v orphan empty s) := by
  unfold loseLease
  split
  · rename_i w rest hw
    rw [leaseLaw_congr (passLease_leases v w rest orphan s)]
    exact leaseLaw_setLease (lawful_handed hw (hs v) _ _) hs
  · rename_i hw
    rw [leaseLaw_reportVolume]
    refine leaseLaw_setLease ?_ hs
    dsimp only
    rw [hw]
    exact lawful_unwaited he _

theorem leaseLaw_loseLeases (orphan : Bool) {empty : Hold} (he : empty.isRecalling = false) (l : List Nat) (hs : leaseLaw s) :
    leaseLaw (l.foldl (fun s v => loseLease v orphan empty s) s) :=
  leaseLaw_foldl (fun _ v hb => leaseLaw_loseLease v orphan he hb) l hs

theorem leaseLaw_departWaiter (p : Port) (v : Nat) (hs : leaseLaw s) : leaseLaw (departWaiter p v s) := fun w => by
  rw [departWaiter_lease]
  split
  · exact lawful_without (hs v) p
  · exact hs w

theorem leaseLaw_departAll (p : Port) (hs : leaseLaw s) : leaseLaw (departAll p s) :=
  leaseLaw_foldl (f := fun s (c : Nat × Tag) => departWaiter p c.1 s) (fun _ c hb => leaseLaw_departWaiter p c.1 hb) _ hs

/-- The record after a Claim has joined its waiter queue (R77, R78). -/
theorem joinWaiters_eq (o : Origin) (v : Nat) (h : Port) (d : Bool) (s : State) : joinWaiters o v h d s =
    addNotice h (.leaseWanted v ((s.lease v).hold.demanded d s.timing.recallTicks).isRecalling)
      (s.setLease v ⟨(s.lease v).hold.demanded d s.timing.recallTicks, (s.lease v).epoch,
        (s.lease v).waiters ++ [⟨o.port, o.tag, d⟩]⟩) := rfl

/-- What a departing head leaves: its STAGED grants, its leases, its places in the waiter queues (R101, R102). -/
theorem leaseLaw_departed (p : Port) (h : Head) (orphan : Bool) {empty : Hold} (he : empty.isRecalling = false)
    (hs : leaseLaw s) :
    leaseLaw (departAll p ((heldVolumes (dropGrants none (stagedOf (setHead p h s) p) (setHead p h s)) p).foldl
      (fun s v => loseLease v orphan empty s) (dropGrants none (stagedOf (setHead p h s) p) (setHead p h s)))) :=
  leaseLaw_departAll p (leaseLaw_loseLeases orphan he _ (by simpa using hs))

theorem leaseLaw_lapse (p : Port) (hs : leaseLaw s) : leaseLaw (lapse p s) := by
  unfold lapse
  split
  · simp only [leaseLaw_releaseTest, leaseLaw_notifyJoined, leaseLaw_endWatches, leaseLaw_endClaims]
    exact leaseLaw_departed p _ true rfl hs
  · exact hs
  · exact hs

theorem leaseLaw_leaveHead (p : Port) (hs : leaseLaw s) : leaseLaw (leaveHead p s) := by
  unfold leaveHead
  simp only [leaseLaw_releaseTest, leaseLaw_endWatches, leaseLaw_endClaims]
  exact leaseLaw_departed p _ false rfl hs

/-! ## Faults and reads (R90, R160, R162) -/

/-- The waiting Claims of a volume whose deletion stops are gone, and a recall with them (R90). -/
theorem leaseLaw_clearClaims (v : Nat) (hs : leaseLaw s) : leaseLaw (clearClaims v s) := by
  unfold clearClaims
  refine leaseLaw_foldl (fun _ _ => (leaseLaw_refuse _ _ _).mpr) _ (leaseLaw_setLease (lawful_unwaited ?_ _) hs)
  cases (s.lease v).hold <;> rfl

theorem leaseLaw_stopDeletion (v : Nat) (hs : leaseLaw s) : leaseLaw (stopDeletion v s) := by
  rcases stopDeletion_eq v s with h | ⟨o, t, ht, h⟩
  · rwa [h]
  · have hc : leaseLaw t := by
      rw [ht, updateVolume_eq, leaseLaw_setVolume, leaseLaw_congr (keeps_of_erasePorts State.leases (refuseFrozen_erase _ _ _))]
      exact hs
    rcases h with h | h
    · rwa [h]
    · rw [h]
      exact leaseLaw_clearClaims v hc

theorem leaseLaw_freeze (cause : FreezeCause) (hs : leaseLaw s) : leaseLaw (freeze cause s) := by
  rw [freeze_eq, leaseLaw_notifyJoined, stopWork_eq]
  refine leaseLaw_foldl (f := fun t (x : Nat × Forming) => settleForming x.2 x.1 t)
    (fun _ x => (leaseLaw_settleForming _ x.2).mpr) _ ?_
  have hr : leaseLaw (stopRequests (frozenBy cause s)) :=
    leaseLaw_foldl (f := fun t (e : Nat × Volume) => stopDeletion e.1 t) (fun _ e => leaseLaw_stopDeletion e.1) _
      ((leaseLaw_congr (keeps_of_erasePorts State.leases (refuseAll_erase (frozenBy cause s)))).mpr hs)
  exact hr

theorem leaseLaw_storeFault (src : FaultSource) (kind : FaultKind) (area : StoreArea) (hs : leaseLaw s) :
    leaseLaw (storeFault src kind area s) := by
  unfold storeFault
  refine leaseLaw_ite hs ?_
  split
  · exact leaseLaw_freeze _ hs
  · exact hs
  · exact hs

theorem leaseLaw_correctedRead (a : StoreArea) (hs : leaseLaw s) : leaseLaw (correctedRead a s) :=
  leaseLaw_storeFault (areaSource a) .corrected a hs

theorem leaseLaw_poisonedRead (v i : Nat) (hs : leaseLaw s) : leaseLaw (poisonedRead v i s) :=
  leaseLaw_storeFault (s := { s with poison := insertPair v i s.poison }) _ _ _ hs

theorem leaseLaw_readCells (v : Nat) (l : List (Nat × ReadFault)) (hs : leaseLaw s) : leaseLaw (readCells v l s).1 := by
  induction l generalizing s with
  | nil => exact hs
  | cons e l ih =>
    obtain ⟨i, f⟩ := e
    cases f with
    | corrected => exact ih (leaseLaw_correctedRead _ hs)
    | uncorrectable => exact leaseLaw_poisonedRead v i hs

/-- The state behind a request's reads. -/
theorem leaseLaw_of_readCells {v : Nat} {l : List (Nat × ReadFault)} {b : Bool} (h : readCells v l s = (u, b))
    (hs : leaseLaw s) : leaseLaw u := by
  have := leaseLaw_readCells v l hs
  rwa [h] at this

theorem leaseLaw_resolveCells (v : Nat) (l : List (Nat × ReadFault)) (hs : leaseLaw s) : leaseLaw (resolveCells v l s) := by
  induction l generalizing s with
  | nil => exact hs
  | cons e l ih =>
    obtain ⟨i, f⟩ := e
    cases f with
    | corrected => exact ih (leaseLaw_correctedRead _ hs)
    | uncorrectable => exact ih (leaseLaw_poisonedRead v i hs)

end Sys2Proof.Machine
end

section
/-! PROOFS. The law of the leases under the path of a durable change: validation, effects, and the actions at DONE (R18, R23). -/

namespace Sys2Proof.Machine

open State

variable {s : State}

/-! ## Validation (R24, R25, Table 8-1) -/

theorem leaseLaw_formDeletion (reads : Reads) (hs : leaseLaw s) : leaseLaw (formDeletion reads s) := by
  unfold formDeletion
  split
  · exact hs
  · refine leaseLaw_ite ((leaseLaw_formIntent _ _).mpr hs) ?_
    unfold formRemoval
    dsimp only
    split
    · rename_i hr
      exact leaseLaw_of_readCells hr hs
    · rename_i u hr
      rw [leaseLaw_formIntent]
      exact (leaseLaw_of_readCells hr hs : leaseLaw u)

section
variable (v : Nat) (o : Option Origin) (reads : Reads)

theorem leaseLaw_validateCreate (t : Nat) (pool : PoolId) (size : Nat) (mode : VolState) (hs : leaseLaw s) :
    leaseLaw (validateCreate v t pool size mode o s) := by
  unfold validateCreate
  split <;> simpa

theorem leaseLaw_validateDelete (hs : leaseLaw s) : leaseLaw (validateDelete v o s) := by
  unfold validateDelete
  refine leaseLaw_ite (by simpa) (leaseLaw_ite (by simpa) ?_)
  dsimp only
  rw [leaseLaw_reportVolume, leaseLaw_formIntent, leaseLaw_congr (keeps_of_erasePorts State.leases (refuseBehind_erase _ _))]
  simpa

theorem leaseLaw_validateResize (size : Nat) (hs : leaseLaw s) : leaseLaw (validateResize v size o reads s) := by
  unfold validateResize
  refine leaseLaw_ite (by simpa) (leaseLaw_ite (by simpa) (leaseLaw_ite (by simpa) ?_))
  split
  · rename_i hr
    simpa using leaseLaw_of_readCells hr hs
  · rename_i hr
    have hb := leaseLaw_of_readCells hr hs
    exact leaseLaw_ite (by simpa) (by simpa)

theorem leaseLaw_validateNote (i : Nat) (written : Mask) (hs : leaseLaw s) : leaseLaw (validateNote v i written o reads s) := by
  unfold validateNote
  refine leaseLaw_ite (by simpa) (leaseLaw_ite (by simpa) (leaseLaw_ite (by simpa) ?_))
  split
  · rename_i hr
    simpa using leaseLaw_of_readCells hr hs
  · rename_i hr
    have hb := leaseLaw_of_readCells hr hs
    split
    · simpa
    · exact leaseLaw_ite (by simpa) (by simpa)

theorem cancelInto_leases (n : Nat) (r : State × List Extent) : (cancelInto n r).1.leases = r.1.leases := by
  unfold cancelInto
  split <;> rfl

theorem leaseLaw_formUnmap (held cancelled : List Nat) (hs : leaseLaw s) : leaseLaw (formUnmap v held cancelled o s) := by
  unfold formUnmap
  dsimp only
  rw [leaseLaw_formIntent, leaseLaw_congr (foldl_keeps (fun r : State × List Extent => r.1.leases)
    (fun r n => cancelInto n r) (fun r n => cancelInto_leases n r) cancelled _)]
  exact hs

theorem leaseLaw_validateUnmap (first count : Nat) (hs : leaseLaw s) : leaseLaw (validateUnmap v first count o reads s) := by
  unfold validateUnmap
  refine leaseLaw_ite (by simpa) (leaseLaw_ite (by simpa) (leaseLaw_ite (by simpa) ?_))
  split
  · rename_i hr
    simpa using leaseLaw_of_readCells hr hs
  · rename_i hr
    have hb := leaseLaw_of_readCells hr hs
    split
    · simpa
    · exact leaseLaw_ite (by simpa) (leaseLaw_ite (by simpa) (leaseLaw_formUnmap _ _ _ _ hb))

theorem leaseLaw_validateRequest (r : Request) (hs : leaseLaw s) : leaseLaw (validateRequest r o reads s) := by
  cases r with
  | createVolume v t pool size mode => exact leaseLaw_validateCreate v o t pool size mode hs
  | deleteVolume v => exact leaseLaw_validateDelete v o hs
  | resizeVolume v size => exact leaseLaw_validateResize v o reads size hs
  | setVolumeMode v mode => exact leaseLaw_ite (by simpa) (leaseLaw_ite (by simpa) (by simpa))
  | noteWritten v i written => exact leaseLaw_validateNote v o reads i written hs
  | unmap v first count => exact leaseLaw_validateUnmap v o reads first count hs
  | addSpan n pool length => exact leaseLaw_ite (by simpa) (leaseLaw_ite (by simpa) (by simpa))
  | drainSpan n on => exact leaseLaw_ite (by simpa) (leaseLaw_ite (by simpa) (by simpa))
  | removeSpan n => exact leaseLaw_ite (by simpa) (by simpa)
  | bind v n advance written => exact (leaseLaw_formIntent _ _).mpr hs
  | completeRelocate v n forming => exact (leaseLaw_formIntent _ _).mpr hs
  | setTenant t q => exact (leaseLaw_formIntent _ _).mpr hs
  | setPool p settings => exact (leaseLaw_formIntent _ _).mpr hs
  | configure t => exact (leaseLaw_formIntent _ _).mpr hs

end

theorem leaseLaw_validateFront (q : QueueId) (reads : Reads) (hs : leaseLaw s) : leaseLaw (validateFront q reads s) := by
  unfold validateFront
  dsimp only
  split
  · exact leaseLaw_validateRequest _ _ _ ((leaseLaw_setQueue _ _).mpr hs)
  · exact hs
  · exact hs

/-! ## Steps that are due (log 4) -/

@[simp] theorem leaseLaw_takeSlot : leaseLaw (takeSlot s) ↔ leaseLaw s :=
  leaseLaw_congr (congrArg State.leases (takeSlot_touches s) :)

theorem leaseLaw_startApply (hs : leaseLaw s) : leaseLaw (startApply s) := by
  unfold startApply
  split
  · exact hs
  · exact leaseLaw_ite hs hs

theorem leaseLaw_takeDue (d : Due) (hs : leaseLaw s) : leaseLaw (takeDue d s) := by
  cases d with
  | slot => exact leaseLaw_takeSlot.mpr hs
  | removal => exact leaseLaw_formDeletion [] hs
  | ending => exact leaseLaw_formDeletion [] hs
  | front q => exact leaseLaw_validateFront q [] hs
  | apply => exact leaseLaw_startApply hs

theorem leaseLaw_takeDues (stop : Due → Bool) (n : Nat) (hs : leaseLaw s) : leaseLaw (takeDues stop n s) := by
  induction n generalizing s with
  | zero => exact hs
  | succ n ih =>
    unfold takeDues
    split
    · exact hs
    · exact leaseLaw_ite hs (ih (leaseLaw_takeDue _ hs))

/-! ## Effects (Table 8-4) -/

theorem leaveGrant_leases (g : Option Nat) (i : Nat) (s : State) : (leaveGrant g i s).leases = s.leases := by
  unfold leaveGrant
  split
  · rfl
  · split <;> rfl

theorem leaseLaw_applyEntry (kind : IntentKind) (v i : Nat) (x : Extent) (m : Mask) (hs : leaseLaw s) :
    leaseLaw (applyEntry kind v i x m s) := by
  have hg : leaseLaw (leaveGrant kind.grant? i (s.putEntry v i ⟨x, m⟩)) := (leaseLaw_congr (leaveGrant_leases _ i _)).mpr hs
  unfold applyEntry
  simp only [leaseLaw_setLatch]
  refine leaseLaw_ite ?_ ((leaseLaw_raiseMapped v).mpr ?_)
  all_goals exact (leaseLaw_lowerPending v 1).mpr hg

theorem leaseLaw_applyPlacement (kind : IntentKind) (v i : Nat) (x : Extent) (hs : leaseLaw s) :
    leaseLaw (applyPlacement kind v i x s).1 := by
  unfold applyPlacement
  split
  · exact hs
  · rename_i e _
    simp only [leaseLaw_setLatch]
    exact (leaseLaw_congr (leaveGrant_leases kind.grant? i (s.putEntry v i { e with placement := x }))).mpr hs

theorem leaseLaw_applyMask (v i : Nat) (m : Mask) (hs : leaseLaw s) : leaseLaw (applyMask v i m s) := by
  unfold applyMask
  split
  · exact hs
  · exact leaseLaw_ite hs ((leaseLaw_setLatch v true).mpr hs)

theorem leaseLaw_applyRemove (v i : Nat) (hs : leaseLaw s) : leaseLaw (applyRemove v i s).1 := by
  unfold applyRemove
  split
  · exact (leaseLaw_setLatch v true).mpr hs
  · exact (leaseLaw_setLatch v true).mpr ((leaseLaw_lowerMapped v).mpr hs)

/-- A created volume has a fresh lease record (R18). -/
theorem leaseLaw_applyCreate (v : Nat) (st : VolState) (t : Nat) (p : PoolId) (size : Nat) (hs : leaseLaw s) :
    leaseLaw (applyCreate v st t p size s) := by
  unfold applyCreate
  exact (leaseLaw_reportVolume v).mpr (leaseLaw_setLease (lawful_unwaited rfl 0) hs)

theorem leaseLaw_applyMode (v : Nat) (st : VolState) (t : Nat) (p : PoolId) (size : Nat) (hs : leaseLaw s) :
    leaseLaw (applyMode v st t p size s) := by
  unfold applyMode
  exact leaseLaw_ite (by simpa) hs

theorem leaseLaw_applySpan (n : SpanId) (st : SpanState) (p : PoolId) (len : Nat) (hs : leaseLaw s) :
    leaseLaw (applySpan n st p len s) := by
  unfold applySpan
  dsimp only
  split
  · exact (leaseLaw_judgeLevel p).mpr hs
  · exact (leaseLaw_judgeLevel p).mpr hs
  · exact (leaseLaw_judgeLevel p).mpr hs
  all_goals exact hs

theorem leaseLaw_applyEffect (kind : IntentKind) (e : Effect) (hs : leaseLaw s) : leaseLaw (applyEffect kind e s).1 := by
  cases e with
  | setEntry v i x m => exact leaseLaw_applyEntry kind v i x m hs
  | setPlacement v i x => exact leaseLaw_applyPlacement kind v i x hs
  | setMask v i m => exact leaseLaw_applyMask v i m hs
  | removeEntry v i => exact leaseLaw_applyRemove v i hs
  | setVolume v st t p size =>
    cases kind with
    | volumeCreate => exact leaseLaw_applyCreate v st t p size hs
    | volumeMode mode => exact leaseLaw_applyMode v st t p size hs
    | deleteEnd => exact (leaseLaw_congr (applyEnd_keeps State.leases v s)).mpr hs
    | _ => exact hs
  | setTenant t q => exact hs
  | setSpan n st p len => exact leaseLaw_applySpan n st p len hs
  | setPool p settings => exact (leaseLaw_judgeLevel p).mpr hs
  | setConfig t => exact hs

/-! ## Actions at DONE (Table 8-5) -/

/-- The lease of a volume that is to be deleted has no holder and no waiter left (R23). -/
theorem leaseLaw_doneMark (v : Nat) (hs : leaseLaw s) : leaseLaw (doneMark v s) := by
  have hd := (leaseLaw_dropGrants none (s.stagedGrants (fun g => decide (g.volume = v)))).mpr hs
  have hw (l : List Waiter) (e : BitVec 32) := leaseLaw_foldl
    (f := fun s (w : Waiter) => refuse ⟨w.port, w.tag⟩ .claim .noVolume s) (fun _ _ => (leaseLaw_refuse _ _ _).mpr) l
    (leaseLaw_setLease (v := v) (lawful_unwaited (h := .free) rfl e) hd)
  unfold doneMark
  simp only [leaseLaw_continueDeletion, leaseLaw_reportVolume]
  split
  · exact (leaseLaw_addNotice _ _).mpr (hw _ _)
  · exact hw _ _

theorem leaseLaw_doneBatch (v : Nat) (f : Option Forming) (hs : leaseLaw s) : leaseLaw (doneBatch v f s) := by
  unfold doneBatch
  cases f <;> simpa

theorem leaseLaw_doneEnd (v : Nat) (hs : leaseLaw s) : leaseLaw (doneEnd v s) := by
  unfold doneEnd
  dsimp only
  split <;> simpa

theorem leaseLaw_doneTrim (v removed cancelled : Nat) (i : Intent) (hs : leaseLaw s) :
    leaseLaw (doneTrim v removed cancelled i s) := by
  unfold doneTrim
  simp only [leaseLaw_answer?]
  split <;> simpa

theorem leaseLaw_makeAllocation (n : Nat) (p : Port) (v first count : Nat)
    (check : BitVec 16 → BitVec 32 → List Extent → BitVec 16) (hs : leaseLaw s) :
    leaseLaw (makeAllocation n p v first count check s) :=
  (leaseLaw_congr ((makeAllocation_keeps n p v first count check s State.leases).trans
    (allocated_keeps n p v first count check s State.leases))).mpr hs

theorem leaseLaw_followOn (p : Port) (g : Grant) (reads : Reads) (hs : leaseLaw s) : leaseLaw (followOn p g reads s).1 := by
  unfold followOn
  dsimp only
  split_ifs
  · exact hs
  · exact hs
  · exact hs
  · exact hs
  · split
    · rename_i hr
      exact leaseLaw_of_readCells hr hs
    · rename_i hr
      have hb := leaseLaw_of_readCells hr hs
      split
      · exact hb
      · dsimp only
        exact leaseLaw_makeAllocation _ _ _ _ _ _ hb

theorem leaseLaw_doneBind (n : Nat) (advance : Bool) (i : Intent) (reads : Reads) (hs : leaseLaw s) :
    leaseLaw (doneBind n advance i reads s) := by
  unfold doneBind followOnOf
  split
  · exact hs
  · simp only [leaseLaw_answer?]
    split
    · exact hs
    · split
      · exact leaseLaw_followOn _ _ _ ((leaseLaw_freeGrant n).mpr hs)
      · exact hs

theorem leaseLaw_doneMove (v n : Nat) (i : Intent) (hs : leaseLaw s) : leaseLaw (doneMove v n i s) := by
  unfold doneMove
  split
  · dsimp only
    split <;> simpa
  · exact hs
  · exact hs

theorem leaseLaw_doneActions (i : Intent) (reads : Reads) (hs : leaseLaw s) : leaseLaw (doneActions i reads s) := by
  obtain ⟨kind, queue, o, requester, effects, forming⟩ := i
  have he (q : QueueId) : leaseLaw (endFlight q s) := (leaseLaw_endFlight q).mpr hs
  have ha (q : QueueId) (code : Byte) (outcome : AnswerOutcome) (body : AnswerBody) :
      leaseLaw (answer? o code outcome body (endFlight q s)) := (leaseLaw_answer? code outcome body o).mpr (he q)
  cases kind with
  | volumeCreate => exact ha queue _ _ _
  | volumeResize before after => exact ha queue _ _ _
  | volumeMode mode => exact ha queue _ _ _
  | tenant t => exact ha queue _ _ _
  | pool p => exact ha queue _ _ _
  | config t => exact (leaseLaw_answer? _ _ _ o).mpr (he queue)
  | span request n p => cases request <;> exact ha queue _ _ _
  | bind n advance => exact leaseLaw_doneBind _ _ _ _ (he queue)
  | deleteMark =>
    cases queue with
    | volume v => exact leaseLaw_doneMark v hs
    | shelf => exact he .shelf
  | deleteBatch =>
    cases queue with
    | volume v => exact leaseLaw_doneBatch v forming hs
    | shelf => exact he .shelf
  | deleteEnd =>
    cases queue with
    | volume v => exact leaseLaw_doneEnd v hs
    | shelf => exact he .shelf
  | note i =>
    cases queue with
    | volume v => exact ha _ _ _ _
    | shelf => exact he .shelf
  | trim cancelled =>
    cases queue with
    | volume v => exact leaseLaw_doneTrim _ _ _ _ (he _)
    | shelf => exact he .shelf
  | move n =>
    cases queue with
    | volume v => exact leaseLaw_doneMove _ _ _ (he _)
    | shelf => exact he .shelf

/-! ## Acknowledgements and failed writes (R147 to R149, R160) -/

@[simp] theorem leaseLaw_changeFront (f : LogIntent → LogIntent) : leaseLaw (changeFront f s) ↔ leaseLaw s := by
  unfold changeFront
  split <;> rfl

theorem leaseLaw_effectCorrected (c : Bool) (e : Effect) (hs : leaseLaw s) : leaseLaw (effectCorrected c e s) := by
  unfold effectCorrected
  split
  · exact leaseLaw_correctedRead _ hs
  · exact hs
  · exact hs

theorem leaseLaw_ackEffect (c : Bool) (hs : leaseLaw s) : leaseLaw (ackEffect c s) := by
  unfold ackEffect
  split
  · exact hs
  · rename_i l e _
    have hc := leaseLaw_effectCorrected c e (s := { s with store := s.store.write e }) hs
    exact leaseLaw_ite ((leaseLaw_changeFront _).mpr (leaseLaw_applyEffect l.intent.kind e hc)) (by simpa)

theorem leaseLaw_failEffectRead (hs : leaseLaw s) : leaseLaw (failEffectRead s) := by
  unfold failEffectRead
  split
  · exact hs
  · split
    · exact hs
    · exact leaseLaw_poisonedRead _ _ ((leaseLaw_changeFront _).mpr hs)

theorem leaseLaw_ackRetire (reads : Reads) (hs : leaseLaw s) : leaseLaw (ackRetire reads s) := by
  unfold ackRetire
  split
  · exact hs
  · rename_i l _
    exact leaseLaw_ite (leaseLaw_doneActions _ _ ((leaseLaw_congr (freeSlot_keeps State.leases l s)).mpr hs))
      ((leaseLaw_changeFront _).mpr hs)

theorem leaseLaw_failEffect (c : Bool) (hs : leaseLaw s) : leaseLaw (failEffect c s) := by
  unfold failEffect
  split
  · exact hs
  · exact leaseLaw_storeFault _ _ _ (leaseLaw_effectCorrected c _ ((leaseLaw_changeFront _).mpr hs))

theorem leaseLaw_failRetire (hs : leaseLaw s) : leaseLaw (failRetire s) := by
  unfold failRetire
  split
  · exact hs
  · exact leaseLaw_storeFault _ _ _ ((leaseLaw_changeFront _).mpr hs)

end Sys2Proof.Machine
end

section
/-! PROOFS. The law of the leases under recovery, which starts with no lease (R73, R153 to R157). -/

namespace Sys2Proof.Machine

open State

variable {s u : State}

/-! ## The start (R153) -/

/-- A reset leaves every lease FREE (R73). -/
theorem leaseLaw_restart (cause : ResetCause) (boot : Option ReadFault) (s : State) : leaseLaw (restart cause boot s) := by
  have hc : leaseLaw (State.cold { s.store with bootCount := bootRead boot s.store + 1 }) :=
    fun _ => lawful_unwaited rfl 0
  unfold restart bootFault
  dsimp only
  split
  · exact leaseLaw_storeFault _ _ _ hc
  · exact leaseLaw_correctedRead _ hc
  · exact hc

/-! ## Replay (R154, R157) -/

theorem leaseLaw_areaFault (a : StoreArea) (f : ReadFault) (hs : leaseLaw s) : leaseLaw (areaFault a f s) := by
  cases f with
  | corrected => exact leaseLaw_correctedRead a hs
  | uncorrectable => exact leaseLaw_storeFault _ _ _ hs

theorem leaseLaw_slotFaults (reads : Reads) (hs : leaseLaw s) : leaseLaw (slotFaults reads s) :=
  leaseLaw_foldl (fun _ _ => leaseLaw_areaFault _ _) _ hs

theorem leaseLaw_logged (reads : Reads) (hs : leaseLaw s) : leaseLaw (logged reads s) := by
  have hk (t : State) (ht : leaseLaw t) : leaseLaw (readLog.keep reads t) :=
    leaseLaw_ite (leaseLaw_slotFaults reads ht) (leaseLaw_slotFaults reads ht)
  refine leaseLaw_ite ?_ hs
  unfold readLog
  split
  · exact leaseLaw_slotFaults reads (leaseLaw_areaFault _ _ hs)
  · exact hk _ (leaseLaw_areaFault _ _ hs)
  · exact hk _ hs

theorem leaseLaw_replayRead (reads : Reads) (e : Effect) (hs : leaseLaw s) : leaseLaw (replayRead reads e s).1 := by
  unfold replayRead
  split
  · exact hs
  · split
    · exact hs
    · exact leaseLaw_correctedRead _ hs
    · exact leaseLaw_poisonedRead _ _ hs

theorem leaseLaw_of_replayRead {reads : Reads} {e : Effect} {b : Bool} (h : replayRead reads e s = (u, b)) (hs : leaseLaw s) :
    leaseLaw u := by
  have := leaseLaw_replayRead reads e hs
  rwa [h] at this

theorem leaseLaw_replayEffects (reads : Reads) (l : List Effect) (lost : Bool) (hs : leaseLaw s) :
    leaseLaw (replayEffects reads l (s, lost)).1 := by
  induction l generalizing s lost with
  | nil => exact hs
  | cons e l ih =>
    unfold replayEffects
    split
    · rename_i t h
      have ht := leaseLaw_of_replayRead h hs
      exact ih (s := { t with store := t.store.write e }) lost ht
    · rename_i h
      exact ih true (leaseLaw_of_replayRead h hs)

theorem leaseLaw_replayItem (reads : Reads) (i : ReplayItem) (hs : leaseLaw s) : leaseLaw (replayItem reads i s) := by
  unfold replayItem
  split
  · rename_i image _ _
    have hr := leaseLaw_replayEffects reads image.effects false hs
    exact leaseLaw_ite hr (leaseLaw_ite hr hr)
  · exact hs
  · exact hs

theorem leaseLaw_replayAll (reads : Reads) (l : List ReplayItem) (hs : leaseLaw s) : leaseLaw (replayAll reads l s) :=
  leaseLaw_foldl (fun _ i => leaseLaw_replayItem reads i) l hs

theorem leaseLaw_endReplay : leaseLaw (endReplay s) ↔ leaseLaw s :=
  leaseLaw_congr (congrArg State.leases (endReplay_touches s) :)

theorem leaseLaw_replayStep (reads : Reads) (hs : leaseLaw s) : leaseLaw (replayStep reads s) := by
  have hl := leaseLaw_logged reads hs
  have hr : leaseLaw (replayOne reads (logged reads s)) := leaseLaw_replayAll reads _ hl
  exact leaseLaw_ite (leaseLaw_endReplay.mpr (leaseLaw_ite hr hl)) hs

/-! ## The sweep and the end (R155, R156) -/

theorem leaseLaw_sweepCell (v i : Nat) (cell : Option Entry) (f : Option ReadFault) (hs : leaseLaw s) :
    leaseLaw (sweepCell v i cell f s) := by
  have ht (t : State) (ht : leaseLaw t) : leaseLaw (sweepCell.take v i cell t) := by
    unfold sweepCell.take countEntry
    split
    · exact ht
    · exact leaseLaw_ite (leaseLaw_poisonedRead v i ht) ((leaseLaw_raiseMapped v).mpr ht)
  unfold sweepCell
  split
  · exact leaseLaw_poisonedRead v i hs
  · exact ht _ (leaseLaw_correctedRead _ hs)
  · exact ht s hs

theorem leaseLaw_sweepMaps (view : MapStore) (reads : Reads) (hs : leaseLaw s) : leaseLaw (sweepMaps view reads s) :=
  leaseLaw_foldl (fun _ _ hb => leaseLaw_foldl (fun _ _ => leaseLaw_sweepCell _ _ _ _) _ hb) _ hs

theorem leaseLaw_sweepTables (reads : Reads) (hs : leaseLaw s) : leaseLaw (sweepTables reads s) := by
  have hf : leaseLaw ((tableReports reads).foldl (fun s e => areaFault e.1 e.2 s) s) :=
    leaseLaw_foldl (f := fun s (e : StoreArea × ReadFault) => areaFault e.1 e.2 s) (fun _ e => leaseLaw_areaFault e.1 e.2) _ hs
  have hm := leaseLaw_sweepMaps (s := loadTables (tableView reads s.store) _) (tableView reads s.store) reads hf
  unfold sweepTables
  exact hm

theorem leaseLaw_sweepStep (reads : Reads) (hs : leaseLaw s) : leaseLaw (sweepStep reads s) := by
  have hl := leaseLaw_logged reads hs
  have hr : leaseLaw (replayRest (logged reads s)) := leaseLaw_ite hl (leaseLaw_replayAll [] _ hl)
  exact leaseLaw_ite (leaseLaw_sweepTables reads (leaseLaw_endReplay.mpr hr)) hs

theorem leaseLaw_finishRecovery (hs : leaseLaw s) : leaseLaw (finishRecovery s) := by
  cases hf : s.recovery.firstFault with
  | none =>
    rw [finishRecovery_serving hf]
    exact (leaseLaw_congr (resumeAll_keeps State.leases _ _)).mpr hs
  | some c =>
    rw [finishRecovery_frozen hf]
    exact hs

/-! ## Failed writes (R157, R160) -/

theorem leaseLaw_failReplayEffect (n : Nat) (reads : Reads) (hs : leaseLaw s) : leaseLaw (failReplayEffect n reads s) := by
  unfold failReplayEffect
  refine leaseLaw_ite ?_ hs
  split
  · split
    · split
      · rename_i hr
        exact leaseLaw_storeFault _ _ _
          (leaseLaw_of_replayRead hr (leaseLaw_replayEffects reads _ false (leaseLaw_logged reads hs)) :)
      · exact hs
    · exact hs
  · exact hs

theorem leaseLaw_failReplayRetirement (reads : Reads) (hs : leaseLaw s) : leaseLaw (failReplayRetirement reads s) := by
  unfold failReplayRetirement
  refine leaseLaw_ite ?_ hs
  split
  · rename_i image _
    have hr := leaseLaw_replayEffects reads image.effects false (leaseLaw_logged reads hs)
    split
    · rename_i hb
      rw [hb] at hr
      exact leaseLaw_storeFault _ _ _ hr
    · exact hs
  · exact hs
  · exact hs

theorem leaseLaw_failWrite (target : WriteTarget) (hs : leaseLaw s) : leaseLaw (failWrite target s) := by
  cases target with
  | logImage slot => exact leaseLaw_ite (leaseLaw_storeFault _ _ _ hs) hs
  | effect c => exact leaseLaw_failEffect c hs
  | retirement => exact leaseLaw_failRetire hs
  | bootCount => exact leaseLaw_ite (leaseLaw_storeFault _ _ _ hs) hs
  | writeBack a => exact leaseLaw_ite (leaseLaw_storeFault _ _ _ hs) hs
  | replayEffect k reads => exact leaseLaw_failReplayEffect k reads hs
  | replayRetirement reads => exact leaseLaw_failReplayRetirement reads hs

end Sys2Proof.Machine
end

section
/-! PROOFS. The law of the leases under every command (R70, R79, R82). -/

namespace Sys2Proof.Machine

open State

variable {s u : State}

/-! ## Arrival -/

section
variable {o : Origin} {kind : RequestKind} {k : State → State}

theorem leaseLaw_onVolume (v : Nat) (hk : leaseLaw (k s)) (hs : leaseLaw s) : leaseLaw (onVolume o kind v k s) := by
  unfold onVolume
  split
  · simpa
  · exact hk

theorem leaseLaw_unlessFrozen (hk : leaseLaw (k s)) (hs : leaseLaw s) : leaseLaw (unlessFrozen o kind k s) :=
  leaseLaw_ite ((leaseLaw_refuse o kind .frozen).mpr hs) hk

theorem leaseLaw_receive (code : Byte) (hk : ∀ b, leaseLaw b → leaseLaw (k b)) (hs : leaseLaw s) :
    leaseLaw (receive o code k s) :=
  leaseLaw_ite hs (leaseLaw_ite hs (hk (setBusy o true s) hs))

/-- A request whose own rule keeps the law keeps it. -/
theorem leaseLaw_request {p : Port} {t : Tag} (h : request p t kind k s = .next u)
    (hk : ∀ b, leaseLaw b → leaseLaw (k b)) (hs : leaseLaw s) : leaseLaw u := by
  cases h
  exact leaseLaw_receive _ (fun b hb => leaseLaw_ite (by simpa) (leaseLaw_ite (by simpa) (hk b hb)))
    (leaseLaw_takeDues _ _ hs)

/-- An event whose own effect keeps the law keeps it. -/
theorem leaseLaw_event (h : event k s = .next u) (hk : ∀ b, leaseLaw b → leaseLaw (k b)) (hs : leaseLaw s) : leaseLaw u := by
  cases h
  exact hk _ (leaseLaw_takeDues _ _ hs)

/-- A due step that keeps the law keeps it when it is a command of its own. -/
theorem leaseLaw_stepDue {d : Due} (h : stepDue d k s = .next u)
    (hk : ∀ b, leaseLaw b → leaseLaw (k b)) (hs : leaseLaw s) : leaseLaw u := by
  cases h
  have hb := leaseLaw_takeDues (fun e => decide (e = d)) (dueBound s) hs
  exact leaseLaw_ite (hk _ hb) hb

end

/-! ## Requests on leases -/

section
variable (o : Origin)

theorem leaseLaw_takeLease (v : Nat) (orphan : Bool) (hs : leaseLaw s) : leaseLaw (takeLease o v orphan s) := by
  unfold takeLease answerLeased
  rw [leaseLaw_reportVolume, leaseLaw_answer]
  exact leaseLaw_setLease (lawful_unwaited rfl _) hs

/-- Only a head that neither holds the lease nor waits for it joins the queue (R76, R77). -/
theorem leaseLaw_judgeClaim (v : Nat) (wait demand : Bool) (hs : leaseLaw s) : leaseLaw (judgeClaim o v wait demand s) := by
  unfold judgeClaim
  dsimp only
  split
  · exact leaseLaw_takeLease o v _ hs
  · rename_i h hh
    split_ifs with hp hw
    · exact (leaseLaw_answer _ _ _ _).mpr hs
    · exact (leaseLaw_refuseWith _ _ _ _).mpr hs
    · rw [joinWaiters_eq, leaseLaw_addNotice]
      refine leaseLaw_setLease (lawful_awaited (hs v) hh hp (fun w hm e => hw ?_) _ _ _) hs
      rw [List.any_eq_true.mpr ⟨w, hm, decide_eq_true e⟩]
      rfl

theorem leaseLaw_claimFlags (v : Nat) (wait demand : Byte) (hs : leaseLaw s) :
    leaseLaw (claimFlags o v wait demand s) := by
  unfold claimFlags
  split
  · exact leaseLaw_ite (by simpa) (leaseLaw_judgeClaim o v _ _ hs)
  · simpa
  · simpa

theorem leaseLaw_judgeRelease (v : Nat) (hs : leaseLaw s) : leaseLaw (judgeRelease o v s) := by
  unfold judgeRelease answerReleased
  dsimp only
  refine leaseLaw_ite ?_ ?_
  · rw [leaseLaw_answer]
    exact leaseLaw_loseLease v false rfl (by simpa)
  · split
    · rw [leaseLaw_answer, leaseLaw_refuse]
      exact leaseLaw_departWaiter _ v hs
    · simpa

/-! ## Requests of the membership -/

theorem leaseLaw_judgeJoin (i : BitVec 32) (hs : leaseLaw s) : leaseLaw (judgeJoin o i s) := by
  unfold judgeJoin answerJoined
  split
  · simpa
  · exact leaseLaw_ite (by simpa) (by simpa)
  · exact leaseLaw_ite (by simpa) (by simpa using leaseLaw_lapse o.port hs)

theorem leaseLaw_judgeRenew (i : BitVec 32) (ack : Gen) (hs : leaseLaw s) : leaseLaw (judgeRenew o i ack s) := by
  unfold judgeRenew
  split
  · refine leaseLaw_ite (by simpa) (leaseLaw_ite (by simpa) ?_)
    simp only [leaseLaw_answer]
    exact leaseLaw_ite (by simpa) hs
  · simpa
  · simpa

theorem leaseLaw_judgeConfigure (period : Byte) (l g d gr : Nat) (hs : leaseLaw s) :
    leaseLaw (judgeConfigure o period l g d gr s) := by
  unfold judgeConfigure
  refine leaseLaw_ite (by simpa) ?_
  split
  · simpa
  · exact leaseLaw_ite (by simpa) (by simpa)

theorem leaseLaw_judgeClearFault (source : Byte) (hs : leaseLaw s) : leaseLaw (judgeClearFault o source s) := by
  unfold judgeClearFault
  split
  · simpa
  · exact (leaseLaw_answer (s := { s with faults := _ }) _ _ _ _).mpr hs

/-! ## Requests on volumes and tenants -/

theorem leaseLaw_judgeCreate (v t : Nat) (pool : Byte) (size : Nat) (mode : Byte) (hs : leaseLaw s) :
    leaseLaw (judgeCreate o v t pool size mode s) := by
  unfold judgeCreate
  refine leaseLaw_ite (by simpa) (leaseLaw_ite (by simpa) ?_)
  split
  · exact leaseLaw_ite (by simpa) (leaseLaw_ite (by simpa) (leaseLaw_unlessFrozen (by simpa) hs))
  · simpa
  · simpa

theorem leaseLaw_judgeResize (v size : Nat) (hs : leaseLaw s) : leaseLaw (judgeResize o v size s) :=
  leaseLaw_ite (by simpa) (leaseLaw_unlessFrozen (by simpa) hs)

theorem leaseLaw_judgeMode (v : Nat) (mode : Byte) (hs : leaseLaw s) : leaseLaw (judgeMode o v mode s) := by
  unfold judgeMode
  split
  · simpa
  · exact leaseLaw_unlessFrozen (by simpa) hs

theorem leaseLaw_judgeQueryVolume (v : Nat) (clear : Byte) (hs : leaseLaw s) : leaseLaw (judgeQueryVolume o v clear s) := by
  unfold judgeQueryVolume
  refine leaseLaw_ite (by simpa) (leaseLaw_ite (by simpa) ?_)
  split
  · simpa
  · exact leaseLaw_ite (by simpa) (by simpa)

theorem leaseLaw_judgeSetTenant (t : Nat) (quota : BitVec 32) (hs : leaseLaw s) : leaseLaw (judgeSetTenant o t quota s) :=
  leaseLaw_ite (by simpa) (leaseLaw_ite (by simpa) (leaseLaw_unlessFrozen (by simpa) hs))

theorem leaseLaw_judgeQueryTenant (t : Nat) (hs : leaseLaw s) : leaseLaw (judgeQueryTenant o t s) :=
  leaseLaw_ite (by simpa) (by simpa)

theorem leaseLaw_judgeResolve (v first count : Nat) (reads : Reads) (hs : leaseLaw s) :
    leaseLaw (judgeResolve o v first count reads s) :=
  leaseLaw_ite (by simpa) (leaseLaw_ite (by simpa) (by simpa using leaseLaw_resolveCells v _ hs))

theorem leaseLaw_noteNothing (v i : Nat) (reads : Reads) (hs : leaseLaw s) : leaseLaw (noteNothing o v i reads s) := by
  unfold noteNothing
  refine leaseLaw_ite (by simpa) ?_
  split
  · rename_i hr
    simpa using leaseLaw_of_readCells hr hs
  · rename_i hr
    have hb := leaseLaw_of_readCells hr hs
    split <;> simpa

theorem leaseLaw_judgeNoteWritten (v i : Nat) (written : Mask) (reads : Reads) (hs : leaseLaw s) :
    leaseLaw (judgeNoteWritten o v i written reads s) :=
  leaseLaw_unlessFrozen (leaseLaw_ite (leaseLaw_noteNothing o v i reads hs) (by simpa)) hs

theorem leaseLaw_judgeUnmap (v first count : Nat) (hs : leaseLaw s) : leaseLaw (judgeUnmap o v first count s) :=
  leaseLaw_ite (by simpa) (by simpa)

/-! ## Requests on grants -/

theorem leaseLaw_judgeReserve (v first count : Nat) (reads : Reads) (hs : leaseLaw s) :
    leaseLaw (judgeReserve o v first count reads s) := by
  unfold judgeReserve
  refine leaseLaw_ite (by simpa) (leaseLaw_ite (by simpa) (leaseLaw_ite (by simpa) (leaseLaw_ite (by simpa) ?_)))
  split
  · rename_i hr
    simpa using leaseLaw_of_readCells hr hs
  · rename_i hr
    have hb := leaseLaw_of_readCells hr hs
    split
    · simpa
    · exact (leaseLaw_answer _ _ _ _).mpr (leaseLaw_makeAllocation _ _ _ _ _ _ hb)

theorem leaseLaw_bindForm (n : Nat) (serial check : BitVec 16) (advance : Byte) (written : List Mask) (hs : leaseLaw s) :
    leaseLaw (bindForm o n serial check advance written s) := by
  have hbind (a : Bool) : leaseLaw (judgeBind o n serial check a written s) := by
    unfold judgeBind
    split
    · simpa
    · exact leaseLaw_ite (by simpa) (leaseLaw_ite (by simpa) (leaseLaw_ite (by simpa) (leaseLaw_ite (by simpa)
        (leaseLaw_ite (by simpa) (by simpa)))))
  unfold bindForm
  split
  · simpa
  · exact leaseLaw_ite (by simpa) (hbind _)

theorem leaseLaw_judgeAbandon (n : Nat) (serial : BitVec 16) (hs : leaseLaw s) : leaseLaw (judgeAbandon o n serial s) := by
  unfold judgeAbandon
  refine leaseLaw_ite (by simpa) ?_
  split
  · simpa
  · exact leaseLaw_ite (by simpa) (leaseLaw_ite (by simpa) (by simpa))

theorem leaseLaw_makeRelocation (v i n : Nat) (e : Entry) (x : Extent) (hs : leaseLaw s) :
    leaseLaw (makeRelocation o v i n e x s) := by
  unfold makeRelocation
  rw [leaseLaw_answer, leaseLaw_judgeLevel]
  exact hs

theorem leaseLaw_judgeRelocate (v i : Nat) (reads : Reads) (hs : leaseLaw s) : leaseLaw (judgeRelocate o v i reads s) := by
  unfold judgeRelocate
  refine leaseLaw_ite (by simpa) (leaseLaw_ite (by simpa) ?_)
  split
  · rename_i hr
    simpa using leaseLaw_of_readCells hr hs
  · rename_i hr
    have hb := leaseLaw_of_readCells hr hs
    split
    · simpa
    · refine leaseLaw_ite (by simpa) (leaseLaw_ite (by simpa) (leaseLaw_ite (by simpa) ?_))
      split
      · simpa
      · split
        · exact leaseLaw_makeRelocation _ _ _ _ _ _ hb
        · simpa
        · simpa

theorem leaseLaw_judgeCompleteRelocate (n : Nat) (serial check : BitVec 16) (hs : leaseLaw s) :
    leaseLaw (judgeCompleteRelocate o n serial check s) := by
  unfold judgeCompleteRelocate
  refine leaseLaw_ite (by simpa) ?_
  split
  · simpa
  · refine leaseLaw_ite (by simpa) (leaseLaw_ite (by simpa) (leaseLaw_ite (by simpa) (leaseLaw_ite (by simpa)
      (leaseLaw_ite (by simpa) ?_))))
    rw [leaseLaw_enqueue, leaseLaw_setGrant]
    exact hs

/-! ## Requests on the shelf, and Watch -/

theorem leaseLaw_judgeAddSpan (span pool : Byte) (length : Nat) (hs : leaseLaw s) :
    leaseLaw (judgeAddSpan o span pool length s) := by
  unfold judgeAddSpan
  split
  · exact leaseLaw_ite (by simpa) (leaseLaw_unlessFrozen (by simpa) hs)
  · simpa
  · simpa

theorem leaseLaw_judgeDrainSpan (span setting : Byte) (hs : leaseLaw s) : leaseLaw (judgeDrainSpan o span setting s) := by
  unfold judgeDrainSpan
  split
  · exact leaseLaw_unlessFrozen (by simpa) hs
  · simpa
  · simpa

theorem leaseLaw_judgeRemoveSpan (span : Byte) (hs : leaseLaw s) : leaseLaw (judgeRemoveSpan o span s) := by
  unfold judgeRemoveSpan
  split
  · exact leaseLaw_unlessFrozen (by simpa) hs
  · simpa

theorem leaseLaw_judgeSetPool (pool : Byte) (w c f : Nat) (hs : leaseLaw s) : leaseLaw (judgeSetPool o pool w c f s) := by
  unfold judgeSetPool
  split
  · simpa
  · exact leaseLaw_ite (by simpa) (leaseLaw_unlessFrozen (by simpa) hs)

theorem leaseLaw_judgeQueryPool (pool : Byte) (hs : leaseLaw s) : leaseLaw (judgeQueryPool o pool s) := by
  unfold judgeQueryPool
  split <;> simpa

theorem leaseLaw_judgeWatch (timeout : Nat) (items : List WatchItem) (hs : leaseLaw s) :
    leaseLaw (judgeWatch o timeout items s) := by
  have hitems (es : List WatchExpect) : leaseLaw (judgeItems o timeout es s) := by
    unfold judgeItems
    refine leaseLaw_ite (by simpa) ?_
    split
    · simpa
    · exact leaseLaw_ite (by simpa) hs
  unfold judgeWatch
  split
  · simpa
  · exact leaseLaw_ite (by simpa) (hitems _)

theorem leaseLaw_receiveMalformed (code : Byte) (body : List Byte) (hs : leaseLaw s) :
    leaseLaw (receiveMalformed o code body s) :=
  leaseLaw_ite (leaseLaw_receive code (fun _ _ => leaseLaw_ite (by simpa) (by simpa)) hs) hs

end

/-! ## Links and the time base -/

theorem leaseLaw_loseLink (p : Port) (hs : leaseLaw s) : leaseLaw (loseLink p s) := by
  unfold loseLink
  rw [leaseLaw_addNotice]
  exact leaseLaw_departAll p ((leaseLaw_congr (stripWork_keeps State.leases p (s.updatePort p HeadPort.lostLink))).mpr hs)

theorem leaseLaw_tickAll (hs : leaseLaw s) : leaseLaw (tickAll s) := fun v => by
  rw [tick_lease]
  exact lawful_ticked (hs v)

theorem leaseLaw_expireLiveness (hs : leaseLaw s) : leaseLaw (expireLiveness s) := by
  unfold expireLiveness
  split
  · exact leaseLaw_lapse _ hs
  · exact hs

theorem leaseLaw_expireGrant (hs : leaseLaw s) : leaseLaw (expireGrant s) := by
  unfold expireGrant
  split
  · simpa
  · exact hs

theorem leaseLaw_expireRecall (hs : leaseLaw s) : leaseLaw (expireRecall s) := by
  unfold expireRecall recallFrom
  split
  · rw [leaseLaw_addNotice]
    exact leaseLaw_loseLease _ false rfl (by simpa)
  · exact hs

theorem leaseLaw_expireQuiet (hs : leaseLaw s) : leaseLaw (expireQuiet s) := by
  unfold expireQuiet
  split
  · exact leaseLaw_foldl (s := { s with heads := mapAt (Head.warned _) s.heads, stall := .warned s.timing.grace _ })
      (fun _ _ => (leaseLaw_addNotice _ _).mpr) _ hs
  all_goals exact hs

theorem leaseLaw_expireWarned (hs : leaseLaw s) : leaseLaw (expireWarned s) := by
  unfold expireWarned
  split
  · exact leaseLaw_foldl (fun _ p hb => leaseLaw_ite (leaseLaw_lapse p hb) hb) _ hs
  all_goals exact hs

theorem leaseLaw_expireWatch (hs : leaseLaw s) : leaseLaw (expireWatch s) := by
  unfold expireWatch timeoutWatch
  split
  · rw [leaseLaw_answer]
    exact hs
  · exact hs

/-! ## Every command -/

theorem leaseLaw_exec (i : Instr) (hs : leaseLaw s) (h : exec i s = .next u) : leaseLaw u := by
  cases i with
  | join p t i => exact leaseLaw_request h (fun _ => leaseLaw_judgeJoin _ _) hs
  | renew p t i ack => exact leaseLaw_request h (fun _ => leaseLaw_judgeRenew _ _ _) hs
  | leave p t => exact leaseLaw_request h (fun _ hb => (leaseLaw_answer _ _ _ _).mpr (leaseLaw_leaveHead p hb)) hs
  | configure p t period l g d gr => exact leaseLaw_request h (fun _ => leaseLaw_judgeConfigure _ _ _ _ _ _) hs
  | queryPart p t => exact leaseLaw_request h (fun _ => (leaseLaw_answer _ _ _ _).mpr) hs
  | queryFaults p t => exact leaseLaw_request h (fun _ => (leaseLaw_answer _ _ _ _).mpr) hs
  | clearFault p t source => exact leaseLaw_request h (fun _ => leaseLaw_judgeClearFault _ _) hs
  | claim p t v wait demand =>
    exact leaseLaw_request h (fun _ hb => leaseLaw_onVolume _ (leaseLaw_claimFlags _ _ _ _ hb) hb) hs
  | release p t v => exact leaseLaw_request h (fun _ hb => leaseLaw_onVolume _ (leaseLaw_judgeRelease _ _ hb) hb) hs
  | createVolume p t v te pool size mode => exact leaseLaw_request h (fun _ => leaseLaw_judgeCreate _ _ _ _ _ _) hs
  | deleteVolume p t v =>
    exact leaseLaw_request h
      (fun _ hb => leaseLaw_onVolume _ (leaseLaw_unlessFrozen ((leaseLaw_enqueue _ _).mpr hb) hb) hb) hs
  | resizeVolume p t v size =>
    exact leaseLaw_request h (fun _ hb => leaseLaw_onVolume _ (leaseLaw_judgeResize _ _ _ hb) hb) hs
  | setVolumeMode p t v mode =>
    exact leaseLaw_request h (fun _ hb => leaseLaw_onVolume _ (leaseLaw_judgeMode _ _ _ hb) hb) hs
  | queryVolume p t v clear => exact leaseLaw_request h (fun _ => leaseLaw_judgeQueryVolume _ _ _) hs
  | setTenant p t te quota => exact leaseLaw_request h (fun _ => leaseLaw_judgeSetTenant _ _ _) hs
  | queryTenant p t te => exact leaseLaw_request h (fun _ => leaseLaw_judgeQueryTenant _ _) hs
  | resolve p t v first count reads =>
    exact leaseLaw_request h (fun _ hb => leaseLaw_onVolume _ (leaseLaw_judgeResolve _ _ _ _ _ hb) hb) hs
  | noteWritten p t v i written reads =>
    exact leaseLaw_request h (fun _ hb => leaseLaw_onVolume _ (leaseLaw_judgeNoteWritten _ _ _ _ _ hb) hb) hs
  | unmap p t v first count =>
    exact leaseLaw_request h
      (fun _ hb => leaseLaw_unlessFrozen (leaseLaw_onVolume _ (leaseLaw_judgeUnmap _ _ _ _ hb) hb) hb) hs
  | reserve p t v first count reads =>
    exact leaseLaw_request h
      (fun _ hb => leaseLaw_unlessFrozen (leaseLaw_onVolume _ (leaseLaw_judgeReserve _ _ _ _ _ hb) hb) hb) hs
  | bind p t g serial check advance written =>
    exact leaseLaw_request h (fun _ hb => leaseLaw_unlessFrozen (leaseLaw_bindForm _ _ _ _ _ _ hb) hb) hs
  | abandon p t g serial => exact leaseLaw_request h (fun _ => leaseLaw_judgeAbandon _ _ _) hs
  | relocate p t v i reads =>
    exact leaseLaw_request h
      (fun _ hb => leaseLaw_unlessFrozen (leaseLaw_onVolume _ (leaseLaw_judgeRelocate _ _ _ _ hb) hb) hb) hs
  | completeRelocate p t g serial check =>
    exact leaseLaw_request h (fun _ hb => leaseLaw_unlessFrozen (leaseLaw_judgeCompleteRelocate _ _ _ _ hb) hb) hs
  | addSpan p t span pool length => exact leaseLaw_request h (fun _ => leaseLaw_judgeAddSpan _ _ _ _) hs
  | drainSpan p t span setting => exact leaseLaw_request h (fun _ => leaseLaw_judgeDrainSpan _ _ _) hs
  | removeSpan p t span => exact leaseLaw_request h (fun _ => leaseLaw_judgeRemoveSpan _ _) hs
  | setPool p t pool w c f => exact leaseLaw_request h (fun _ => leaseLaw_judgeSetPool _ _ _ _ _) hs
  | queryPool p t pool => exact leaseLaw_request h (fun _ => leaseLaw_judgeQueryPool _ _) hs
  | watch p t timeout items => exact leaseLaw_request h (fun _ => leaseLaw_judgeWatch _ _ _) hs
  | unknownRequestKind p t code body => exact leaseLaw_event h (fun _ => leaseLaw_receiveMalformed _ _ _) hs
  | frameDamaged p frame => exact leaseLaw_event h (fun _ hb => leaseLaw_ite hb hb) hs
  | powerOn boot =>
    exact leaseLaw_event (k := fun s => { restart .power boot s with faults := .clear }) h
      (fun b _ => leaseLaw_restart .power boot b) hs
  | lineReset boot => exact leaseLaw_event h (fun b _ => leaseLaw_restart .line boot b) hs
  | linkUp p =>
    exact leaseLaw_event (k := fun s => if s.linkUp p then s else s.updatePort p HeadPort.trained) h
      (fun _ hb => leaseLaw_ite hb hb) hs
  | linkDown p =>
    exact leaseLaw_event (k := fun s => if s.linkUp p then loseLink p s else s) h
      (fun _ hb => leaseLaw_ite (leaseLaw_loseLink p hb) hb) hs
  | answerSent p =>
    exact leaseLaw_event (k := fun s => if s.linkUp p then s.updatePort p HeadPort.sent else s) h
      (fun _ hb => leaseLaw_ite hb hb) hs
  | noticeDelivered p =>
    exact leaseLaw_event (k := fun s => if s.linkUp p then s.updatePort p HeadPort.delivered else s) h
      (fun _ hb => leaseLaw_ite hb hb) hs
  | tick => exact leaseLaw_event h (fun _ => leaseLaw_tickAll) hs
  | livenessExpiry => exact leaseLaw_event h (fun _ => leaseLaw_expireLiveness) hs
  | grantExpiry => exact leaseLaw_event h (fun _ => leaseLaw_expireGrant) hs
  | recallExpiry => exact leaseLaw_event h (fun _ => leaseLaw_expireRecall) hs
  | stallExpiryQuiet => exact leaseLaw_event h (fun _ => leaseLaw_expireQuiet) hs
  | stallExpiryWarned => exact leaseLaw_event h (fun _ => leaseLaw_expireWarned) hs
  | watchTimeout => exact leaseLaw_event h (fun _ => leaseLaw_expireWatch) hs
  | validate q reads => exact leaseLaw_stepDue h (fun _ => leaseLaw_validateFront q reads) hs
  | logSlotTaken => exact leaseLaw_stepDue h (fun _ => leaseLaw_takeSlot.mpr) hs
  | logWriteAck slot => exact leaseLaw_event h (fun _ hb => leaseLaw_ite hb hb) hs
  | applyStart => exact leaseLaw_stepDue h (fun _ => leaseLaw_startApply) hs
  | effectWriteAck c => exact leaseLaw_event h (fun _ => leaseLaw_ackEffect c) hs
  | retireAck reads => exact leaseLaw_event h (fun _ => leaseLaw_ackRetire reads) hs
  | storeWriteFailed target => exact leaseLaw_event h (fun _ => leaseLaw_failWrite target) hs
  | recoveryReplayIntent reads => exact leaseLaw_event h (fun _ => leaseLaw_replayStep reads) hs
  | recoverySweep reads => exact leaseLaw_event h (fun _ => leaseLaw_sweepStep reads) hs
  | recoveryEnd =>
    exact leaseLaw_event h (fun _ hb => leaseLaw_ite (leaseLaw_finishRecovery (leaseLaw_sweepStep [] hb)) hb) hs
  | deletionAdmitted reads => exact leaseLaw_stepDue h (fun _ => leaseLaw_formDeletion reads) hs
  | effectReadUncorrectable => exact leaseLaw_event h (fun _ => leaseLaw_failEffectRead) hs

/-- Settles O6: every command keeps the law, record by record. The order of the tables is not needed. -/
theorem leaseLawKept : Obligations.LeaseLawKept := by
  intro s u _ hs h
  unfold step at h
  split at h
  · cases h
    exact hs
  · rename_i c rest _
    exact leaseLaw_exec (s := { s with pending := rest }) c hs h

end Sys2Proof.Machine
end

section
/-! PROOFS. Claim, and Release by a head that does not hold the lease (R74 to R78, R81, R82). -/

namespace Sys2Proof.Machine

open State

variable {s u b : State} {p q : Port} {t : Tag} {o : Origin} {v : Nat}

/-! ## Answers and watches on the way -/

theorem taken_answers (p q : Port) (t : Tag) (s : State) :
    ((taken p t s).ports.get q).answers = (s.ports.get q).answers := by
  unfold taken
  rw [putAt_get]
  split
  · subst_vars; rfl
  · rfl

/-- What the port had waiting alone decides what it gains. -/
theorem gains_of_answers {a : Answer} (hb : (b.ports.get p).answers = (s.ports.get p).answers) (h : gains p a b u) :
    gains p a s u := by
  unfold gains at h ⊢
  rwa [hb] at h

theorem gains_grows {a : Answer} (h : gains p a s b) (hg : portsGrow b u) : gains p a s u := by
  obtain ⟨x, hx⟩ := h
  obtain ⟨-, -, -, y, hy⟩ := hg p
  exact ⟨x ++ y, by rw [hy, hx, List.append_assoc, List.cons_append]⟩

theorem answer_gains (code : Byte) (outcome : AnswerOutcome) (body : AnswerBody) (h : s.linkUp o.port = true) :
    gains o.port ⟨o.tag, code, outcome, s.generation, body⟩ s (answer o code outcome body s) :=
  ⟨[], by rw [answer_ports h, told_answers]⟩

/-- Watches are judged in the state that follows: what stood before counts only by the list and the links. -/
theorem rejudged_of_watches (hw : b.watches = s.watches) (hl : b.linkUp = s.linkUp) (h : rejudged v b u) : rejudged v s u := by
  unfold rejudged at h ⊢
  rwa [hw, hl] at h

theorem taken_linkUp_eq (p : Port) (t : Tag) (s : State) : (taken p t s).linkUp = s.linkUp := funext fun _ => taken_linkUp _

theorem portsGrow_linkUp_eq (h : portsGrow s u) : u.linkUp = s.linkUp := funext (portsGrow_linkUp h)

/-- An operation on a lease leaves all but the leases, the watch list and the ports. -/
theorem eraseLease_touches (h : u.eraseLease = s.eraseLease) :
    u = { s with ports := u.ports, watches := u.watches, leases := u.leases } :=
  (congrArg (fun x : State => { x with ports := u.ports, watches := u.watches, leases := u.leases }) h :)

/-- What writes one lease record, and but for that reaches the ports alone. -/
theorem setLease_touches {l : Lease} (h : u.erasePorts = (s.setLease v l).erasePorts) :
    u = { s with ports := u.ports, leases := u.leases } := by
  rw [keeps_of_erasePorts State.leases h]
  exact eq_of_erasePorts h

/-! ## The flags of a Claim (R74) -/

theorem flagOf_eq {x : Byte} (h : x.toNat ≤ 1) : flagOf x = some (decide (x = 1#8)) := by
  unfold flagOf
  by_cases h0 : x = 0#8
  · subst h0; rfl
  · have h1 : x = 1#8 := by bv_omega
    subst h1; rfl

theorem claimFlags_refused {w d : Byte} (h : 1 < w.toNat ∨ 1 < d.toNat ∨ w = 0#8 ∧ d = 1#8) :
    claimFlags o v w d s = refuse o .claim .badForm s := by
  unfold claimFlags
  rcases h with h | h | ⟨rfl, rfl⟩
  · rw [flagOf_high h]
  · rw [flagOf_high h]
    cases flagOf w <;> rfl
  · rfl

theorem claimFlags_judged {w d : Byte} (hw : w.toNat ≤ 1) (hd : d.toNat ≤ w.toNat) :
    claimFlags o v w d s = judgeClaim o v (decide (w = 1#8)) (decide (d = 1#8)) s := by
  unfold claimFlags
  rw [flagOf_eq hw, flagOf_eq (hd.trans hw)]
  refine if_neg fun h => ?_
  obtain ⟨h1, h2⟩ := (Bool.and_eq_true _ _).mp h
  have h1 : d = 1#8 := of_decide_eq_true h1
  have h2 : w ≠ 1#8 := of_decide_eq_false (Bool.not_eq_true' _ ▸ h2)
  subst h1
  exact h2 (BitVec.eq_of_toNat_eq (Nat.le_antisymm hw hd))

/-! ## The judgement of a Claim (Table 4-3) -/

theorem judgeClaim_unheld (w d : Bool) (h : (s.lease v).hold.holder? = none) :
    judgeClaim o v w d s = takeLease o v (decide ((s.lease v).hold = .orphaned)) s := by
  unfold judgeClaim
  dsimp only
  rw [h]

theorem judgeClaim_holder (w d : Bool) (h : (s.lease v).hold.holder? = some o.port) :
    judgeClaim o v w d s = answerLeased o v false s := by
  unfold judgeClaim
  dsimp only
  rw [h]
  exact if_pos rfl

theorem judgeClaim_contended {h : Port} {w : Bool} (d : Bool) (hh : (s.lease v).hold.holder? = some h) (hp : h ≠ o.port)
    (hw : w = false ∨ ∃ x ∈ (s.lease v).waiters, x.port = o.port) : judgeClaim o v w d s =
      refuseWith o .claim .contended (.contended h (s.lease v).hold.isRecalling (s.lease v).waiters.length) s := by
  unfold judgeClaim
  dsimp only
  rw [hh]
  refine (if_neg hp).trans (if_pos ?_)
  rcases hw with rfl | ⟨x, hx, hxp⟩
  · exact Bool.or_true _
  · rw [List.any_eq_true.mpr ⟨x, hx, decide_eq_true hxp⟩, Bool.true_or]

theorem judgeClaim_waits {h : Port} (d : Bool) (hh : (s.lease v).hold.holder? = some h) (hp : h ≠ o.port)
    (hw : ∀ x ∈ (s.lease v).waiters, x.port ≠ o.port) : judgeClaim o v true d s = joinWaiters o v h d s := by
  have hany : (s.lease v).waiters.any (fun w => decide (w.port = o.port)) = false :=
    List.any_eq_false.mpr fun x hx => by rw [decide_eq_false (hw x hx)]; decide
  unfold judgeClaim
  dsimp only
  rw [hh]
  refine (if_neg hp).trans (if_neg ?_)
  rw [hany]
  decide

/-! ## A lease is taken (R75) -/

section
variable (o v)
variable (orphan : Bool) (s : State)

/-- The record of a lease that is taken, before anyone is told. -/
def claimed : State := s.setLease v ⟨.held o.port, (s.lease v).epoch + 1, []⟩

theorem takeLease_eq : takeLease o v orphan s =
    reportVolume v (answer o RequestKind.claim.code .granted (.leased v ((s.lease v).epoch + 1) false orphan) (claimed o v s)) := by
  unfold takeLease answerLeased
  rw [lease_setLease, if_pos rfl]
  rfl

theorem takeLease_lease (x : Nat) :
    (takeLease o v orphan s).lease x = if v = x then ⟨.held o.port, (s.lease v).epoch + 1, []⟩ else s.lease x := by
  rw [takeLease_eq, keeps_of_eraseReport State.lease (reportVolume_erase _ _),
    keeps_of_erasePorts State.lease (answer_erase _ _ _ _ _)]
  exact lease_setLease _ _ _ _

theorem takeLease_erase : (takeLease o v orphan s).eraseLease = s.eraseLease := by
  rw [takeLease_eq]
  exact (report_lease (reportVolume_erase _ _)).trans (ports_lease (s := claimed o v s) (answer_erase _ _ _ _ _))

theorem takeLease_grows : portsGrow s (takeLease o v orphan s) := by
  rw [takeLease_eq]
  exact portsGrow_after (portsGrow_trans (answer_grows _ _ _ _ _) (reportVolume_grows _ _)) (b := claimed o v s) rfl

theorem takeLease_gains (h : s.linkUp o.port = true) :
    gains o.port ⟨o.tag, 0x10, .granted, s.generation, .leased v ((s.lease v).epoch + 1) false orphan⟩ s
      (takeLease o v orphan s) := by
  rw [takeLease_eq]
  exact gains_grows (answer_gains (s := claimed o v s) _ _ _ h) (reportVolume_grows _ _)

theorem takeLease_rejudged : rejudged v s (takeLease o v orphan s) := by
  rw [takeLease_eq]
  refine rejudged_of_watches ?_ ?_ (reportVolume_rejudged v _)
  · exact keeps_of_erasePorts (s := claimed o v s) State.watches (answer_erase _ _ _ _ _)
  · exact portsGrow_linkUp_eq (answer_grows _ _ _ _ (claimed o v s))

end

/-! ## Claim -/

/-- A Claim that names a volume which R3 passes is judged by its flags. -/
theorem exec_claim {v : BitVec 16} (w d : Byte) (h : admits s p t) (hv : named s v.toNat) :
    exec (.claim p t v w d) s = .next (claimFlags ⟨p, t⟩ v.toNat w d (taken p t s)) :=
  (request_admits _ _ h).trans (congrArg _ (onVolume_named hv))

/-- Settles O40: a case of `judgeClaim` each; the taken lease by the laws of `takeLease`. -/
theorem claimAnsweredAtOnce : Obligations.ClaimAnsweredAtOnce := by
  intro p t v w d s ha hv
  have hup := admits_linkUp ha
  refine ⟨fun hbad => ?_, fun hw hd => ⟨fun hfree => ?_, fun hh => ?_, fun h hh hp hwait => ?_⟩⟩
  · rw [exec_claim w d ha hv, claimFlags_refused hbad, refuse_taken _ _ hup]
    rfl
  · have hnone : (s.lease v.toNat).hold.holder? = none := by
      rcases hfree with h | h <;> rw [h] <;> rfl
    rw [exec_claim w d ha hv, claimFlags_judged hw hd, judgeClaim_unheld (s := taken p t s) _ _ hnone]
    refine ⟨_, rfl, ?_, fun x hx => ?_, ?_, ?_, ?_, ?_⟩
    · exact (takeLease_lease _ _ _ _ _).trans (if_pos rfl)
    · exact (takeLease_lease _ _ _ _ _).trans (if_neg (Ne.symm hx))
    · exact gains_of_answers (taken_answers p p t s)
        (takeLease_gains ⟨p, t⟩ _ _ (taken p t s) ((taken_linkUp p).trans hup))
    · exact rejudged_of_watches (b := taken p t s) rfl (taken_linkUp_eq p t s) (takeLease_rejudged _ _ _ _)
    · exact takeLease_grows _ _ _ _
    · exact eraseLease_touches (s := s) (takeLease_erase ⟨p, t⟩ _ _ (taken p t s))
  · rw [exec_claim w d ha hv, claimFlags_judged hw hd, judgeClaim_holder (s := taken p t s) (o := ⟨p, t⟩) _ _ hh]
    exact congrArg _ (answer_taken _ _ _ hup)
  · have hcase : decide (w = 1#8) = false ∨ ∃ x ∈ (s.lease v.toNat).waiters, x.port = p :=
      hwait.imp_left fun h0 => by rw [h0]; rfl
    rw [exec_claim w d ha hv, claimFlags_judged hw hd,
      judgeClaim_contended (s := taken p t s) (o := ⟨p, t⟩) _ hh hp hcase]
    exact congrArg _ (answer_taken _ _ _ hup)

/-! ## A Claim that waits (R77, R78, R91) -/

theorem demanded_eq {h : Port} {x : Hold} (hh : x.holder? = some h) (d : Bool) (ticks : Nat) :
    x.demanded d ticks = if d = true ∧ x = .held h then .recalling h ticks else x := by
  cases x with
  | held q =>
    obtain rfl : q = h := Option.some.inj hh
    cases d <;> simp [Hold.demanded]
  | recalling q c => simp [Hold.demanded]
  | free => cases hh
  | orphaned => cases hh

/-- A notice that is no INVALIDATE reaches a JOINED head whose set has room. -/
theorem addNotice_mem {n : Notice} (hj : s.joined p = true) (hroom : (s.ports.get p).notices.length < Config.noticePlaces)
    (hn : n.invalidatesAt = none) : n ∈ ((addNotice p n s).ports.get p).notices := by
  rw [addNotice_self n hj]
  exact (addToSet_placed hroom (Or.inl hn)).placed

theorem taken_notices (p q : Port) (t : Tag) (s : State) :
    ((taken p t s).ports.get q).notices = (s.ports.get q).notices := (noNotice_taken p q t s).1

/-- Settles O41: the record by `joinWaiters_eq`, LEASE_WANTED by its place in a set that has room. -/
theorem claimWaits : Obligations.ClaimWaits := by
  intro p t v demand h hold s ha hv hh hp hw hhold
  have hd := demanded_eq hh demand s.timing.recallTicks
  rw [← hhold] at hd
  have hflags : claimFlags ⟨p, t⟩ v.toNat 1 (if demand then 1 else 0) (taken p t s) =
      joinWaiters ⟨p, t⟩ v.toNat h demand (taken p t s) := by
    rw [claimFlags_judged (by decide) (by cases demand <;> decide)]
    refine (judgeClaim_waits (s := taken p t s) (o := ⟨p, t⟩) _ hh hp hw).trans ?_
    cases demand <;> rfl
  rw [exec_claim _ _ ha hv, hflags, joinWaiters_eq]
  simp only [taken_lease, show (taken p t s).timing = s.timing from rfl, hd]
  have hlease (x : Nat) := (congrFun (keeps_of_erasePorts State.lease (addNotice_erase h (.leaseWanted v.toNat hold.isRecalling)
    ((taken p t s).setLease v.toNat ⟨hold, (s.lease v.toNat).epoch, (s.lease v.toNat).waiters ++ [⟨p, t, demand⟩]⟩))) x).trans
    (lease_setLease _ x _ _)
  refine ⟨_, rfl, ?_, fun x hx => ?_, fun hj hroom => ?_, fun q => ?_, fun q hq => ?_, ?_, ?_⟩
  · exact (hlease _).trans (if_pos rfl)
  · exact (hlease x).trans (if_neg (Ne.symm hx))
  · exact addNotice_mem hj (by rw [setLease_ports, taken_notices]; exact hroom) rfl
  · exact (addNotice_answers _ _ _ _).trans (taken_answers p q t s)
  · exact addNotice_other (Ne.symm hq) _ _
  · exact portsGrow_after (addNotice_grows _ _ _) rfl
  · exact setLease_touches (s := s) (addNotice_erase _ _ _)

/-! ## Release by a head that does not hold the lease (R81, R82) -/

theorem exec_release {v : BitVec 16} (h : admits s p t) (hv : named s v.toNat) :
    exec (.release p t v) s = .next (judgeRelease ⟨p, t⟩ v.toNat (taken p t s)) :=
  (request_admits _ _ h).trans (congrArg _ (onVolume_named hv))

theorem judgeRelease_stranger (hh : (s.lease v).heldBy o.port = false) (hw : ∀ w ∈ (s.lease v).waiters, w.port ≠ o.port) :
    judgeRelease o v s = refuse o .release .notHolder s := by
  have hf : (s.lease v).waiters.find? (fun w => decide (w.port = o.port)) = none :=
    List.find?_eq_none.mpr fun w hm => by rw [decide_eq_false (hw w hm)]; decide
  unfold judgeRelease
  dsimp only
  rw [hh, hf]
  rfl

/-- The waiter of a lawful record that stands at a port is the one found. -/
theorem find?_waiter {l : Lease} {w : Waiter} (hl : l.lawful) (hw : w ∈ l.waiters) :
    l.waiters.find? (fun x => decide (x.port = w.port)) = some w := by
  obtain ⟨hn, -, -, -⟩ := hl
  cases hf : l.waiters.find? (fun x => decide (x.port = w.port)) with
  | none => exact absurd (decide_eq_true rfl) (List.find?_eq_none.mp hf w hw)
  | some x =>
    have hx : x.port = w.port := of_decide_eq_true (List.find?_some hf :)
    rw [List.inj_on_of_nodup_map hn (List.mem_of_find?_eq_some hf) hw hx]

/-- The state in which a waiter has left the queue and its waiting Claim is answered. -/
def withdrawn (w : Waiter) (v : Nat) (s : State) : State :=
  refuse ⟨w.port, w.tag⟩ .claim .cancelled (departWaiter w.port v s)

theorem judgeRelease_waiter {w : Waiter} (hl : leaseLaw s) (hh : (s.lease v).heldBy w.port = false)
    (hw : w ∈ (s.lease v).waiters) : judgeRelease ⟨w.port, t⟩ v s = answerReleased ⟨w.port, t⟩ v (withdrawn w v s) := by
  unfold judgeRelease
  dsimp only
  rw [hh, find?_waiter (hl v) hw]
  rfl

/-- But for the ports, the departure of a waiter writes its record alone. -/
theorem departWaiter_writes (p : Port) (v : Nat) (s : State) :
    (departWaiter p v s).erasePorts = (s.setLease v ((s.lease v).without p)).erasePorts := by
  rcases departWaiter_eq p v s with h | ⟨q, -, -, h⟩
  · rw [h]
  · rw [h]
    exact addNotice_erase _ _ _

theorem withdrawn_writes (w : Waiter) (v : Nat) (s : State) :
    (withdrawn w v s).erasePorts = (s.setLease v ((s.lease v).without w.port)).erasePorts :=
  (refuse_erase _ _ _ _).trans (departWaiter_writes _ _ _)

theorem withdrawn_grows (w : Waiter) (v : Nat) (s : State) : portsGrow s (withdrawn w v s) :=
  portsGrow_trans (departWaiter_grows _ _ _) (answer_grows _ _ _ _ _)

theorem withdrawn_answers {w : Waiter} (hup : s.linkUp w.port = true) :
    ((withdrawn w v s).ports.get w.port).answers =
      (s.ports.get w.port).answers ++ [⟨w.tag, 0x10, .refused .cancelled, s.generation, .empty⟩] := by
  unfold withdrawn refuse
  rw [answer_ports (o := ⟨w.port, w.tag⟩) ((portsGrow_linkUp (departWaiter_grows _ _ _) _).trans hup), told_answers,
    departWaiter_answers, keeps_of_erasePorts State.generation (departWaiter_writes _ _ _)]
  rfl

/-- Settles O43: the queue without the waiter by `Lease.without`, its two answers in their order. -/
theorem releaseByOthers : Obligations.ReleaseByOthers := by
  intro p t v s ha hv _ hl hh
  have hup := admits_linkUp ha
  refine ⟨fun hw => ?_, fun w hw hp => ?_⟩
  · rw [exec_release ha hv, judgeRelease_stranger (s := taken p t s) (o := ⟨p, t⟩) hh hw, refuse_taken _ _ hup]
    rfl
  · subst hp
    rw [exec_release ha hv, judgeRelease_waiter (s := taken w.port t s) hl hh hw]
    obtain ⟨b, hb⟩ : ∃ b, b = withdrawn w v.toNat (taken w.port t s) := ⟨_, rfl⟩
    rw [← hb]
    have hbe : b.erasePorts = (s.setLease v.toNat ((s.lease v.toNat).without w.port)).erasePorts := by
      rw [hb]; exact withdrawn_writes _ _ _
    have hgrows : portsGrow (taken w.port t s) b := by rw [hb]; exact withdrawn_grows _ _ _
    have hbup : b.linkUp w.port = true := (portsGrow_linkUp hgrows _).trans ((taken_linkUp _).trans hup)
    have hans : (b.ports.get w.port).answers =
        (s.ports.get w.port).answers ++ [⟨w.tag, 0x10, .refused .cancelled, s.generation, .empty⟩] := by
      rw [hb, withdrawn_answers ((taken_linkUp _).trans hup), taken_answers]; rfl
    obtain ⟨u, hu⟩ : ∃ u, u = answerReleased ⟨w.port, t⟩ v.toNat b := ⟨_, rfl⟩
    have hae : u.erasePorts = b.erasePorts := by rw [hu]; exact answer_erase _ _ _ _ _
    have he := hae.trans hbe
    have hlease (x : Nat) := (congrFun (keeps_of_erasePorts State.lease he) x).trans (lease_setLease _ x _ _)
    have hself : u.lease v.toNat = (s.lease v.toNat).without w.port := (hlease _).trans (if_pos rfl)
    have hblease : b.lease v.toNat = u.lease v.toNat := (congrFun (keeps_of_erasePorts State.lease hae) _).symm
    refine ⟨u, by rw [hu], by rw [hself]; rfl, ?_, ?_, by rw [hself]; rfl, fun x hx => ?_, ?_, ?_, setLease_touches he⟩
    · rw [hself]; exact unlessMarked_holder? _ _
    · rw [hself, without_isRecalling (hl v.toNat)]; rfl
    · exact (hlease x).trans (if_neg (Ne.symm hx))
    · have hu' := hu
      rw [answerReleased, answer_ports (o := ⟨w.port, t⟩) hbup, hblease] at hu'
      rw [congrArg (fun x : State => (x.ports.get w.port).answers) hu', told_answers, hans,
        keeps_of_erasePorts State.generation hbe, List.append_assoc]
      rfl
    · rw [hu]; exact portsGrow_trans hgrows (answer_grows _ _ _ _ _)

end Sys2Proof.Machine
end

section
/-! PROOFS. The drop of several STAGED grants by one event: what it leaves in the tables, the grace list and the counts (R65, R66, R135),
and that it answers nothing. -/

namespace Sys2Proof.Machine

open State

variable {s u b : State} {q : Port} {o : Option Port} {n : Nat} {g : Grant} {k : PoolId} {l : Table Grant}
  {released : List Batch} {granted : List Nat}

/-! ## Notices answer nothing -/

theorem notifyJoined_answers (but : Option Port) (n : Notice) (q : Port) (s : State) :
    ((notifyJoined but n s).ports.get q).answers = (s.ports.get q).answers := by
  refine foldl_keeps (fun s : State => (s.ports.get q).answers) _ (fun b p => ?_) _ _
  split
  · rfl
  · exact addNotice_answers _ _ _ _

theorem judgeLevel_answers (k : PoolId) (q : Port) (s : State) :
    ((judgeLevel k s).ports.get q).answers = (s.ports.get q).answers := by
  unfold judgeLevel
  split
  · rfl
  · exact notifyJoined_answers _ _ _ _

theorem releaseOldest_answers (x : Batch) (rest : List Batch) (q : Port) (s : State) :
    ((releaseOldest x rest s).ports.get q).answers = (s.ports.get q).answers := by
  rw [releaseOldest_keeps State.ports]
  exact judgeLevel_answers _ _ _

theorem Releases.answers {l : List Batch} (h : Releases l s u) (q : Port) :
    (u.ports.get q).answers = (s.ports.get q).answers := by
  induction h with
  | stop s => rfl
  | oldest _ _ _ ih => exact ih.trans (releaseOldest_answers _ _ _ _)

theorem releaseTest_answers (q : Port) (s : State) : ((releaseTest s).ports.get q).answers = (s.ports.get q).answers := by
  obtain ⟨l, h⟩ := releaseLoop_releases s.grace.length s
  exact h.answers q

theorem announceTo_answers (o : Option Port) (v : Option Nat) (g : Gen) (p q : Port) (s : State) :
    ((announceTo o v g s p).ports.get q).answers = (s.ports.get q).answers := by
  unfold announceTo
  split
  · rfl
  · cases v with
    | none => exact addNotice_answers _ _ _ _
    | some x => exact (addNotice_answers _ _ _ _).trans (addNotice_answers _ _ _ _)

theorem formBatch_answers (k : PoolId) (x : List Extent) (o : Option Port) (v : Option Nat) (q : Port) (s : State) :
    ((formBatch k x o v s).ports.get q).answers = (s.ports.get q).answers := by
  obtain ⟨l, h⟩ := formBatch_releases k x o v s
  rw [h.answers q, batched, announceBatch_eq]
  exact foldl_keeps (fun s : State => (s.ports.get q).answers) _ (fun b p => announceTo_answers _ _ _ p q b) _ _

theorem dropGrant_answers (o : Option Port) (n : Nat) (q : Port) (s : State) :
    ((dropGrant o n s).ports.get q).answers = (s.ports.get q).answers := by
  cases h : s.grant? n with
  | none => rw [dropGrant_none o n s h]
  | some g => rw [dropGrant_some o n g s h, formBatch_answers, dropped_ports]

theorem dropGrants_answers (o : Option Port) (ns : List Nat) (q : Port) (s : State) :
    ((dropGrants o ns s).ports.get q).answers = (s.ports.get q).answers :=
  foldl_keeps (fun s : State => (s.ports.get q).answers) _ (fun b n => dropGrant_answers o n q b) _ _

/-! ## The counts of several grants -/

/-- The run count of an allocation grant. -/
def Grant.pends (g : Grant) : Nat := if g.kind = .allocate then g.count else 0

theorem extentsOf_filter_cons (f : Nat × Grant → Bool) (e : Nat × Grant) (l : Table Grant) :
    extentsOf ((e :: l).filter f) = (if f e then e.2.extents.length else 0) + extentsOf (l.filter f) := by
  unfold extentsOf
  cases h : f e <;> simp [h]

theorem pendingOf_filter_cons (f : Nat × Grant → Bool) (e : Nat × Grant) (l : Table Grant) :
    pendingOf ((e :: l).filter f) = (if f e then e.2.pends else 0) + pendingOf (l.filter f) := by
  unfold pendingOf Grant.pends
  by_cases hk : e.2.kind = .allocate <;> cases h : f e <;> simp [h, hk]

/-! ## The drop of one grant, read alike for either kind -/

theorem DropsBatch.reserved_at (h : DropsBatch n g k released granted s u) (j : PoolId) :
    (u.pools.get j).reserved = (s.pools.get j).reserved - (if k = j then g.extents.length else 0 : Nat) := by
  by_cases hj : k = j
  · subst hj
    rw [if_pos rfl]
    exact h.reserved
  · rw [if_neg hj, h.reserved_other j (Ne.symm hj)]
    exact (Int.sub_zero _).symm

theorem DropsBatch.volume_at (h : DropsBatch n g k released granted s u) (v : Nat) : u.volume v =
    unpaused granted v ((s.volume v).counted ((s.volume v).pending - if g.volume = v then g.pends else 0)) := by
  by_cases hv : g.volume = v
  · subst hv
    rw [if_pos rfl]
    unfold Grant.pends
    cases hk : g.kind with
    | allocate => exact (h.allocate hk).1
    | relocate => exact (h.relocate hk).1
  · rw [if_neg hv]
    exact h.volume v (Ne.symm hv)

theorem DropsBatch.tenant_at (h : DropsBatch n g k released granted s u) (x : Nat) : u.tenant x =
    { s.tenant x with pending := (s.tenant x).pending - if (s.volume g.volume).tenant = x then g.pends else 0 } := by
  by_cases hx : (s.volume g.volume).tenant = x
  · subst hx
    rw [if_pos rfl]
    unfold Grant.pends
    cases hk : g.kind with
    | allocate => exact (h.allocate hk).2
    | relocate => exact congrArg (fun y : Table Tenant => Table.getD .fresh y (s.volume g.volume).tenant) (h.relocate hk).2
  · rw [if_neg hx]
    exact h.tenant x (Ne.symm hx)

/-! ## The drop of several -/

/-- The batches that the drops of several grants form: one each, with the tags that follow `g`. -/
def batchesOf (s : State) (l : Table Grant) : List Batch :=
  l.zipIdx.map (fun e => ⟨s.generation + BitVec.ofNat 64 (e.2 + 1), (s.volume e.1.2.volume).pool, e.1.2.extents.map Prod.snd⟩)

/-- What the drops of several grants have done to the grace list, the counts and the deletions. -/
structure DropsAll (l : Table Grant) (granted : List Nat) (s u : State) : Prop where
  generation : u.generation = s.generation + BitVec.ofNat 64 l.length
  grace : ∃ released, s.grace ++ batchesOf s l = released ++ u.grace
  reserved : ∀ k, (u.pools.get k).reserved = (s.pools.get k).reserved -
    extentsOf (l.filter (fun e => decide ((s.volume e.2.volume).pool = k)))
  volume : ∀ v, u.volume v = unpaused granted v ((s.volume v).counted
    ((s.volume v).pending - pendingOf (l.filter (fun e => decide (e.2.volume = v)))))
  tenant : ∀ t, u.tenant t = { s.tenant t with
    pending := (s.tenant t).pending - pendingOf (l.filter (fun e => decide ((s.volume e.2.volume).tenant = t))) }
  serves : serves granted s u

theorem DropsAll.nil (s : State) : DropsAll [] [] s s where
  generation := by simp
  grace := ⟨[], by simp [batchesOf]⟩
  reserved k := by simp [extentsOf]
  volume v := rfl
  tenant t := rfl
  serves := serves_refl s

/-- The batches of a first grant and of those behind it, which are formed after its drop. -/
theorem batchesOf_cons {e : Nat × Grant} (hg : b.generation = s.generation + 1)
    (hp : ∀ v, (b.volume v).pool = (s.volume v).pool) (l : Table Grant) : batchesOf s (e :: l) =
      ⟨s.generation + 1, (s.volume e.2.volume).pool, e.2.extents.map Prod.snd⟩ :: batchesOf b l := by
  unfold batchesOf
  rw [List.zipIdx_cons', List.map_cons, List.map_map]
  refine congrArg₂ List.cons rfl (List.map_congr_left fun x _ => ?_)
  simp only [Function.comp, Prod.map, id, hp, hg]
  congr 1
  rw [BitVec.add_assoc]
  congr 1
  exact BitVec.eq_of_toNat_eq (by simp [Nat.add_comm])

theorem DropsAll.cons {e : Nat × Grant} {g₁ g₂ : List Nat}
    (h₁ : DropsBatch e.1 e.2 (s.volume e.2.volume).pool released g₁ s b) (h₂ : DropsAll l g₂ b u) :
    DropsAll (e :: l) (g₁ ++ g₂) s u := by
  have hpool (v : Nat) : (b.volume v).pool = (s.volume v).pool := by
    rw [h₁.volume_at]; unfold unpaused; split <;> rfl
  have htenant (v : Nat) : (b.volume v).tenant = (s.volume v).tenant := by
    rw [h₁.volume_at]; unfold unpaused; split <;> rfl
  have hpending (v : Nat) : (b.volume v).pending = (s.volume v).pending - if e.2.volume = v then e.2.pends else 0 := by
    rw [h₁.volume_at]; unfold unpaused; split <;> rfl
  refine ⟨?_, ?_, fun k => ?_, fun v => ?_, fun t => ?_, serves_trans h₁.serves h₂.serves⟩
  · rw [h₂.generation, h₁.generation, BitVec.add_assoc, List.length_cons]
    congr 1
    exact BitVec.eq_of_toNat_eq (by simp [Nat.add_comm])
  · obtain ⟨r, hr⟩ := h₂.grace
    refine ⟨released ++ r, ?_⟩
    rw [batchesOf_cons h₁.generation hpool, List.append_cons, h₁.grace, List.append_assoc, hr, List.append_assoc]
  · rw [h₂.reserved, h₁.reserved_at, extentsOf_filter_cons]
    simp only [hpool, decide_eq_true_eq]
    omega
  · rw [h₂.volume, hpending, h₁.volume_at, unpaused_counted, unpaused_unpaused, pendingOf_filter_cons, Nat.sub_sub]
    simp only [decide_eq_true_eq]
    rfl
  · rw [h₂.tenant, h₁.tenant_at, pendingOf_filter_cons]
    simp only [htenant, decide_eq_true_eq, Nat.sub_sub]

/-- Grants that are live, each listed once, are dropped one after another. -/
theorem dropGrants_all (o : Option Port) {l : Table Grant} (hn : (l.map Prod.fst).Nodup)
    (hl : ∀ e ∈ l, s.grant? e.1 = some e.2) : ∃ granted, DropsAll l granted s (dropGrants o (l.map Prod.fst) s) := by
  induction l generalizing s with
  | nil => exact ⟨[], .nil s⟩
  | cons e l ih =>
    obtain ⟨he, hn⟩ := List.nodup_cons.mp hn
    obtain ⟨r, g₁, h₁⟩ := dropGrant_batch o (hl e List.mem_cons_self) rfl
    obtain ⟨g₂, h₂⟩ := ih (s := dropGrant o e.1 s) hn (fun x hx => by
      have hne : e.1 ≠ x.1 := fun h => he (h ▸ List.mem_map_of_mem hx)
      unfold State.grant?
      rw [h₁.grants, Table.get?_erase_other _ _ _ hne]
      exact hl x (List.mem_cons_of_mem _ hx))
    exact ⟨g₁ ++ g₂, .cons h₁ h₂⟩

/-- The STAGED grants that meet a test are dropped (R66). -/
theorem dropGrants_drops (o : Option Port) (f : Grant → Bool) (hw : Table.wf s.grants = true) :
    ∃ granted, drops f granted s (dropGrants o (s.stagedGrants f) s) ∧
      serves granted s (dropGrants o (s.stagedGrants f) s) := by
  obtain ⟨granted, h⟩ := dropGrants_all (s := s) o (l := stagedBy f s)
    (Table.wf_nodup _ (Table.wf_filter s.grants _ hw))
    (fun e he => Table.get?_of_mem s.grants e.1 e.2 hw (List.mem_of_mem_filter he))
  exact ⟨granted, ⟨dropGrants_staged o f hw, h.generation, h.grace, h.reserved, h.volume, h.tenant⟩, h.serves⟩

/-- What neither drops a grant nor forms a batch plays no part in it. -/
theorem drops_congr {f : Grant → Bool} {t w : State} (h : drops f granted s u) (ht : t.eraseLease = s.eraseLease)
    (hw : w.eraseLease = u.eraseLease) : drops f granted t w := by
  unfold drops stagedBy at h ⊢
  rw [keeps_of_erase State.grants ht (fun _ => rfl), keeps_of_erase State.generation ht (fun _ => rfl),
    keeps_of_erase State.grace ht (fun _ => rfl), keeps_of_erase State.pools ht (fun _ => rfl),
    keeps_of_erase State.volume ht (fun _ => rfl), keeps_of_erase State.tenant ht (fun _ => rfl),
    keeps_of_erase State.grants hw (fun _ => rfl), keeps_of_erase State.generation hw (fun _ => rfl),
    keeps_of_erase State.grace hw (fun _ => rfl), keeps_of_erase State.pools hw (fun _ => rfl),
    keeps_of_erase State.volume hw (fun _ => rfl), keeps_of_erase State.tenant hw (fun _ => rfl)]
  exact h

theorem serves_of_eraseLease {t w : State} (h : serves granted s u) (ht : t.eraseLease = s.eraseLease)
    (hw : w.eraseLease = u.eraseLease) : serves granted t w :=
  serves_congr h (keeps_of_erase State.admissionWait ht (fun _ => rfl)) (keeps_of_erase State.deletionsDue ht (fun _ => rfl))
    (keeps_of_erase State.promises ht (fun _ => rfl)) (keeps_of_erase State.admissionWait hw (fun _ => rfl))
    (keeps_of_erase State.deletionsDue hw (fun _ => rfl)) (keeps_of_erase State.promises hw (fun _ => rfl))

end Sys2Proof.Machine
end

section
/-! PROOFS. The loss of a lease by its holder: its Release, and the expiry of a recall (R79, R80, R83). -/

namespace Sys2Proof.Machine

open State

variable {s u b : State} {p q : Port} {t : Tag} {v : Nat} {w : Waiter} {rest : List Waiter} {granted : List Nat}

/-! ## A lease passes to its first waiter (R79) -/

/-- The first waiter has the record and is answered, and is told of those that wait behind it. -/
def handed (v : Nat) (w : Waiter) (rest : List Waiter) (orphan : Bool) (s : State) : State :=
  let a := answer ⟨w.port, w.tag⟩ RequestKind.claim.code .granted (.leased v ((s.lease v).epoch + 1) (!rest.isEmpty) orphan)
    (s.setLease v ⟨w.holds rest s.timing.recallTicks, (s.lease v).epoch + 1, rest⟩)
  if rest.isEmpty then a else addNotice w.port (.leaseWanted v (rest.any Waiter.marked)) a

section
variable (v w rest)
variable (orphan : Bool) (s : State)

theorem passLease_eq : passLease v w rest orphan s = reportVolume v (handed v w rest orphan s) := rfl

theorem handed_writes : (handed v w rest orphan s).erasePorts =
    (s.setLease v ⟨w.holds rest s.timing.recallTicks, (s.lease v).epoch + 1, rest⟩).erasePorts := by
  unfold handed
  dsimp only
  split
  · exact answer_erase _ _ _ _ _
  · exact (addNotice_erase _ _ _).trans (answer_erase _ _ _ _ _)

theorem handed_grows : portsGrow s (handed v w rest orphan s) := by
  unfold handed
  dsimp only
  split
  · exact portsGrow_after (answer_grows _ _ _ _ _) rfl
  · exact portsGrow_after (portsGrow_trans (answer_grows _ _ _ _ _) (addNotice_grows _ _ _)) rfl

theorem handed_gains (h : s.linkUp w.port = true) : gains w.port
    ⟨w.tag, 0x10, .granted, s.generation, .leased v ((s.lease v).epoch + 1) (!rest.isEmpty) orphan⟩ s
    (handed v w rest orphan s) := by
  have ha := answer_gains (o := ⟨w.port, w.tag⟩) 0x10 .granted
    (.leased v ((s.lease v).epoch + 1) (!rest.isEmpty) orphan)
    (s := s.setLease v ⟨w.holds rest s.timing.recallTicks, (s.lease v).epoch + 1, rest⟩) h
  unfold handed
  dsimp only
  split
  · exact ha
  · exact gains_grows ha (addNotice_grows _ _ _)

theorem passLease_grows : portsGrow s (passLease v w rest orphan s) :=
  portsGrow_trans (handed_grows v w rest orphan s) (reportVolume_grows _ _)

theorem passLease_gains (h : s.linkUp w.port = true) : gains w.port
    ⟨w.tag, 0x10, .granted, s.generation, .leased v ((s.lease v).epoch + 1) (!rest.isEmpty) orphan⟩ s
    (passLease v w rest orphan s) :=
  gains_grows (handed_gains v w rest orphan s h) (reportVolume_grows _ _)

theorem passLease_rejudged : rejudged v s (passLease v w rest orphan s) :=
  rejudged_of_watches (s := s) ((keeps_of_erasePorts State.watches (handed_writes v w rest orphan s)).trans rfl)
    (portsGrow_linkUp_eq (handed_grows v w rest orphan s)) (reportVolume_rejudged v _)

end

/-! ## A holder loses a lease -/

theorem loseLease_passes (orphan : Bool) (empty : Hold) (h : (s.lease v).waiters = w :: rest) :
    loseLease v orphan empty s = passLease v w rest orphan s := by
  unfold loseLease
  rw [h]

theorem loseLease_empties (orphan : Bool) (empty : Hold) (h : (s.lease v).waiters = []) :
    loseLease v orphan empty s = reportVolume v (s.setLease v ⟨empty, (s.lease v).epoch, []⟩) := by
  unfold loseLease
  rw [h, show ({ s.lease v with hold := empty } : Lease) = ⟨empty, (s.lease v).epoch, (s.lease v).waiters⟩ from rfl, h]

/-- The record of a lease that its holder has lost: with the first waiter, or with this hold. -/
def Lease.lost (l : Lease) (empty : Hold) (ticks : Nat) : Lease :=
  match l.waiters with
  | [] => ⟨empty, l.epoch, []⟩
  | w :: rest => ⟨w.holds rest ticks, l.epoch + 1, rest⟩

theorem lost_empty {l : Lease} (h : l.waiters = []) (empty : Hold) (ticks : Nat) :
    l.lost empty ticks = ⟨empty, l.epoch, []⟩ := by
  unfold Lease.lost
  rw [h]

theorem lost_passed {l : Lease} (h : l.waiters = w :: rest) (empty : Hold) (ticks : Nat) :
    l.lost empty ticks = ⟨w.holds rest ticks, l.epoch + 1, rest⟩ := by
  unfold Lease.lost
  rw [h]

section
variable (v)
variable (orphan : Bool) (empty : Hold) (s : State)

theorem loseLease_leases : (loseLease v orphan empty s).leases =
    (s.setLease v ((s.lease v).lost empty s.timing.recallTicks)).leases := by
  cases h : (s.lease v).waiters with
  | nil => rw [loseLease_empties orphan empty h, keeps_of_eraseReport State.leases (reportVolume_erase _ _), lost_empty h]
  | cons w rest => rw [loseLease_passes orphan empty h, passLease_leases, lost_passed h]

theorem loseLease_lease (x : Nat) : (loseLease v orphan empty s).lease x =
    if v = x then (s.lease v).lost empty s.timing.recallTicks else s.lease x :=
  (congrArg (fun y : Table Lease => Table.getD Lease.fresh y x) (loseLease_leases v orphan empty s) :).trans
    (lease_setLease _ _ _ _)

theorem loseLease_grows : portsGrow s (loseLease v orphan empty s) := by
  cases h : (s.lease v).waiters with
  | nil =>
    rw [loseLease_empties orphan empty h]
    exact portsGrow_after (reportVolume_grows _ _) rfl
  | cons w rest =>
    rw [loseLease_passes orphan empty h]
    exact passLease_grows _ _ _ _ _

theorem loseLease_rejudged : rejudged v s (loseLease v orphan empty s) := by
  cases h : (s.lease v).waiters with
  | nil =>
    rw [loseLease_empties orphan empty h]
    exact rejudged_of_watches (b := s.setLease v _) rfl rfl (reportVolume_rejudged v _)
  | cons w rest =>
    rw [loseLease_passes orphan empty h]
    exact passLease_rejudged _ _ _ _ _

end

/-! ## A holder loses its STAGED grants on a volume, and the lease -/

/-- Everything but what the drop of grants and the operations on leases move. -/
def State.eraseLost (s : State) : State := s.eraseDrop.eraseLease

theorem lost_of_lease (h : u.eraseLease = s.eraseLease) : u.eraseLost = s.eraseLost :=
  (congrArg State.eraseDrop h : u.eraseLease.eraseDrop = s.eraseLease.eraseDrop)

theorem lost_of_drop (h : u.eraseDrop = s.eraseDrop) : u.eraseLost = s.eraseLost := congrArg State.eraseLease h

theorem eraseLost_touches (h : u.eraseLost = s.eraseLost) : u = { s with
    ports := u.ports, watches := u.watches, volumes := u.volumes, tenants := u.tenants, spans := u.spans,
    pools := u.pools, grants := u.grants, leases := u.leases, generation := u.generation, grace := u.grace,
    stall := u.stall, promises := u.promises, admissionWait := u.admissionWait, deletionsDue := u.deletionsDue } :=
  (congrArg (fun y : State => { y with
    ports := u.ports, watches := u.watches, volumes := u.volumes, tenants := u.tenants, spans := u.spans,
    pools := u.pools, grants := u.grants, leases := u.leases, generation := u.generation, grace := u.grace,
    stall := u.stall, promises := u.promises, admissionWait := u.admissionWait, deletionsDue := u.deletionsDue }) h :)

/-- What the loss of a lease has done between two states: the grants of the former holder on the volume are dropped, the lease is
FREE or has passed. -/
structure LosesLease (v : Nat) (h : Port) (granted : List Nat) (s u : State) : Prop where
  serves : serves granted s u
  rejudged : rejudged v s u
  drops : drops (fun g => decide (g.owner = h ∧ g.volume = v)) granted s u
  freed : (s.lease v).waiters = [] → u.lease v = ⟨.free, (s.lease v).epoch, []⟩
  passed : ∀ w rest, (s.lease v).waiters = w :: rest →
    u.lease v = ⟨w.holds rest s.timing.recallTicks, (s.lease v).epoch + 1, rest⟩ ∧
    (s.linkUp w.port = true → gains w.port
      ⟨w.tag, 0x10, .granted, u.generation, .leased v ((s.lease v).epoch + 1) (!rest.isEmpty) false⟩ s u)
  others : ∀ x, x ≠ v → u.lease x = s.lease x
  grows : portsGrow s u
  erased : u.eraseLost = s.eraseLost

theorem losesLease_of_drop (o : Option Port) (h : Port) (v : Nat) (hw : Table.wf s.grants = true) :
    ∃ granted, LosesLease v h granted s (loseLease v false .free (dropGrants o (stagedOn s h v) s)) := by
  obtain ⟨granted, hd, hs⟩ := dropGrants_drops o (fun g => decide (g.owner = h ∧ g.volume = v)) hw
  obtain ⟨d, hdd⟩ : ∃ d, d = dropGrants o (stagedOn s h v) s := ⟨_, rfl⟩
  have hgrows : portsGrow s d := hdd ▸ dropGrants_grows _ _ _
  have herase : d.eraseDrop = s.eraseDrop := hdd ▸ dropGrants_erase _ _ _
  have hlease : d.lease = s.lease := keeps_of_erase State.lease herase (fun _ => rfl)
  have htiming : d.timing = s.timing := keeps_of_erase State.timing herase (fun _ => rfl)
  have hans (q : Port) : (d.ports.get q).answers = (s.ports.get q).answers := hdd ▸ dropGrants_answers _ _ q _
  have hle := loseLease_erase v false .free d
  have hgen := keeps_of_erase State.generation hle (fun _ => rfl)
  rw [← hdd]
  refine ⟨granted, serves_of_eraseLease (hdd ▸ hs) rfl hle, ?_, drops_congr (hdd ▸ hd) rfl hle, fun hn => ?_,
    fun w rest hn => ⟨?_, fun hup => ?_⟩, fun x hx => ?_, ?_, (lost_of_lease hle).trans (lost_of_drop herase)⟩
  · exact rejudged_of_watches (keeps_of_erase State.watches herase (fun _ => rfl)) (portsGrow_linkUp_eq hgrows)
      (loseLease_rejudged v false .free d)
  · rw [loseLease_lease, if_pos rfl, hlease, lost_empty hn]
  · rw [loseLease_lease, if_pos rfl, hlease, lost_passed hn, htiming]
  · rw [← hlease] at hn ⊢
    rw [hgen, loseLease_passes false .free hn]
    exact gains_of_answers (hans w.port) (passLease_gains v w rest false d ((portsGrow_linkUp hgrows _).trans hup))
  · rw [loseLease_lease, if_neg (Ne.symm hx), hlease]
  · exact portsGrow_trans hgrows (loseLease_grows _ _ _ _)

/-! ## Release by the holder (R79, R80) -/

theorem judgeRelease_holder {o : Origin} (h : (s.lease v).heldBy o.port = true) : judgeRelease o v s =
    answerReleased o v (loseLease v false .free (dropGrants (some o.port) (stagedOn s o.port v) s)) := by
  unfold judgeRelease
  dsimp only
  exact if_pos h

/-- An event of answers after a judgement of watches leaves it standing. -/
theorem rejudged_answered (h : rejudged v s b) (he : u.erasePorts = b.erasePorts) (hg : portsGrow b u) : rejudged v s u := by
  obtain ⟨hw, ha⟩ := h
  unfold rejudged
  rw [keeps_of_erasePorts State.watches he, keeps_of_erasePorts (watchHit · v) he, keeps_of_erasePorts watchReport he,
    keeps_of_erasePorts State.generation he]
  exact ⟨hw, fun w hm hit hup => portsGrow_mem hg (ha w hm hit hup)⟩

theorem serves_before_taken (h : serves granted (taken p t s) u) : serves granted s u :=
  serves_congr h rfl rfl rfl rfl rfl rfl

/-- Settles O42: the loss of the lease from the state in which the Release is taken, and then its own answer. -/
theorem releaseByHolder : Obligations.ReleaseByHolder := by
  intro p t v s ha hv htab _ hh
  obtain ⟨-, -, -, -, hwf, -⟩ := htab
  obtain ⟨granted, h⟩ := losesLease_of_drop (s := taken p t s) (some p) p v.toNat hwf
  rw [exec_release ha hv, judgeRelease_holder (s := taken p t s) (o := ⟨p, t⟩) hh]
  dsimp only
  obtain ⟨b, hb⟩ : ∃ b, b = loseLease v.toNat false .free
    (dropGrants (some p) (stagedOn (taken p t s) p v.toNat) (taken p t s)) := ⟨_, rfl⟩
  rw [← hb] at h ⊢
  obtain ⟨u, hu⟩ : ∃ u, u = answerReleased ⟨p, t⟩ v.toNat b := ⟨_, rfl⟩
  have he : u.erasePorts = b.erasePorts := by rw [hu]; exact answer_erase _ _ _ _ _
  have hg : portsGrow b u := by rw [hu]; exact answer_grows _ _ _ _ _
  have hlease : u.lease = b.lease := keeps_of_erasePorts State.lease he
  have hgen : u.generation = b.generation := keeps_of_erasePorts State.generation he
  have hup : b.linkUp p = true := (portsGrow_linkUp h.grows p).trans ((taken_linkUp p).trans (admits_linkUp ha))
  refine ⟨u, granted, by rw [hu], ?_, ?_, drops_congr h.drops rfl (ports_lease he), fun hn => ?_, fun w rest hn => ⟨?_, fun hl => ?_⟩,
    fun x hx => ?_, ?_, portsGrow_trans h.grows hg, ?_⟩
  · exact serves_of_eraseLease h.serves rfl (ports_lease he)
  · exact rejudged_answered (rejudged_of_watches (b := taken p t s) rfl (taken_linkUp_eq p t s) h.rejudged) he hg
  · rw [hlease]; exact h.freed hn
  · rw [hlease]; exact (h.passed w rest hn).1
  · rw [hgen]
    exact gains_grows (gains_of_answers (taken_answers p w.port t s) ((h.passed w rest hn).2 ((taken_linkUp _).trans hl))) hg
  · rw [hlease]; exact h.others x hx
  · rw [hlease, hgen, hu]; exact answer_lastAnswer _ _ _ hup
  · exact eraseLost_touches ((lost_of_lease (ports_lease he)).trans h.erased)

/-! ## A recall runs out (R83) -/

theorem recalling_of_expired {x : Hold} (h : x.expired? = some q) : x = .recalling q 0 := by
  cases x with
  | recalling r c =>
    cases c with
    | zero => rw [Option.some.inj h]
    | succ c => cases h
  | free => cases h
  | held r => cases h
  | orphaned => cases h

/-- A record that is not the fresh one is listed. -/
theorem lease_mem (h : s.lease v ≠ .fresh) : (v, s.lease v) ∈ s.leases := by
  cases hg : Table.get? s.leases v with
  | some l =>
    have hl : s.lease v = l := congrArg (fun x => Option.getD x Lease.fresh) hg
    rw [hl]
    exact Table.mem_of_get? _ _ _ hg
  | none => exact absurd (congrArg (fun x => Option.getD x Lease.fresh) hg) h

/-- The recall that is carried out is the expired one of the lowest volume. -/
theorem expireRecall_lowest {h : Port} (hw : Table.wf s.leases = true) (hv : (s.lease v).hold = .recalling h 0)
    (hlow : ∀ x, x < v → ∀ q, (s.lease x).hold ≠ .recalling q 0) : expireRecall s = recallFrom v h s := by
  obtain ⟨before, after, hsplit⟩ := List.append_of_mem (lease_mem (s := s) (v := v) (fun hl => by rw [hl] at hv; cases hv))
  have hfind : s.leases.findSome? (fun e => e.2.hold.expired?.map (fun h => (e.1, h))) = some (v, h) := by
    refine List.findSome?_eq_some_iff.mpr ⟨before, (v, s.lease v), after, hsplit, ?_, fun e he => ?_⟩
    · rw [hv]; rfl
    · have hlt : e.1 < v := by
        have hp := Table.wf_pairwise _ hw
        rw [hsplit, List.map_append, List.pairwise_append] at hp
        obtain ⟨-, -, hlt⟩ := hp
        exact hlt _ (List.mem_map_of_mem he) v List.mem_cons_self
      have hl := lease_of_mem hw (e := e) (hsplit ▸ List.mem_append_left _ he)
      cases hx : e.2.hold.expired? with
      | none => rfl
      | some q => exact absurd (hl ▸ recalling_of_expired hx) (hlow e.1 hlt q)
  unfold expireRecall
  rw [hfind]

/-- Settles O51: the lowest expired recall, and the loss of its lease. -/
theorem recallExpiryPasses : Obligations.RecallExpiryPasses := by
  intro v h w rest s hs htab _ hv hw hlow
  obtain ⟨-, -, -, -, hwf, hleases, -⟩ := htab
  obtain ⟨granted, hl⟩ := losesLease_of_drop (s := s) none h v hwf
  obtain ⟨hlease, hgain⟩ := hl.passed w rest hw
  refine ⟨_, granted, ?_, hl.serves, hl.rejudged, hl.drops, hlease, hl.others, hgain, hl.grows, eraseLost_touches hl.erased⟩
  exact (event_settled expireRecall hs).trans (congrArg _ (expireRecall_lowest (wf_of_wfD hleases) hv hlow))

end Sys2Proof.Machine
end

section
/-! PROOFS. What a departure sends: how many notices each of its operations adds at a port, and that a head which is not JOINED is sent
none (R91, R102, R109, R174). -/

namespace Sys2Proof.Machine

open State

variable {p q : Port} {s u b : State} {v : Nat} {w : Waiter} {rest : List Waiter} {i j k : Nat}

/-! ## The notices that an operation adds -/

/-- The notices pending at a port and the batches of the grace list, each of which may add one more as it is released. -/
def State.load (s : State) (q : Port) : Nat := (s.ports.get q).notices.length + s.grace.length

/-- Between two states a port that is not JOINED is sent nothing, and one whose set has room for `k` notices more, and for those of
the batches that wait, has taken no more than that. -/
structure Tells (k : Nat) (q : Port) (s u : State) : Prop where
  joined : u.joined = s.joined
  absent : s.joined q = false → noNotice q s u
  load : s.load q + k ≤ 64 → u.load q ≤ s.load q + k

theorem noNotice_trans (h : noNotice q s b) (h' : noNotice q b u) : noNotice q s u :=
  ⟨h'.1.trans h.1, h'.2.trans h.2⟩

theorem noNotice_of_ports (h : u.ports = s.ports) : noNotice q s u := by
  unfold noNotice
  rw [h]
  exact ⟨rfl, rfl⟩

theorem Tells.silent (hj : u.joined = s.joined) (hn : noNotice q s u) (hg : u.grace = s.grace) : Tells 0 q s u where
  joined := hj
  absent _ := hn
  load _ := by
    unfold State.load
    rw [hn.1, hg]
    exact Nat.le_add_right _ _

theorem Tells.refl (q : Port) (s : State) : Tells 0 q s s := .silent rfl ⟨rfl, rfl⟩ rfl

theorem Tells.trans (h : Tells i q s b) (h' : Tells j q b u) : Tells (i + j) q s u where
  joined := h'.joined.trans h.joined
  absent hq := noNotice_trans (h.absent hq) (h'.absent (by rw [h.joined]; exact hq))
  load hr := by
    have h₁ := h.load (by omega)
    have h₂ := h'.load (by omega)
    omega

theorem Tells.mono (h : Tells i q s u) (hk : i ≤ k) : Tells k q s u where
  joined := h.joined
  absent := h.absent
  load hr := (h.load (by omega)).trans (by omega)

theorem Tells.foldl {α : Type} {f : State → α → State} (h : ∀ b a, Tells k q b (f b a)) (l : List α) (s : State) :
    Tells (k * l.length) q s (l.foldl f s) := by
  induction l generalizing s with
  | nil => exact .refl q s
  | cons a l ih => exact ((h s a).trans (ih _)).mono (by rw [List.length_cons, Nat.mul_add, Nat.mul_one, Nat.add_comm])

theorem Tells.foldl_silent {α : Type} {f : State → α → State} (h : ∀ b a, Tells 0 q b (f b a)) (l : List α) (s : State) :
    Tells 0 q s (l.foldl f s) := (Tells.foldl h l s).mono (Nat.le_of_eq (Nat.zero_mul _))

/-! ## Answers and notices -/

section
variable (q s)

theorem tells_answer (o : Origin) (code : Byte) (outcome : AnswerOutcome) (body : AnswerBody) :
    Tells 0 q s (answer o code outcome body s) :=
  .silent (keeps_of_erasePorts State.joined (answer_erase _ _ _ _ _)) (noNotice_answer _ _ _ _ _ _)
    (keeps_of_erasePorts State.grace (answer_erase _ _ _ _ _))

theorem tells_addNotice (p : Port) (n : Notice) (hn : n.invalidatesAt = none) : Tells 1 q s (addNotice p n s) := by
  have hg : (addNotice p n s).grace = s.grace := keeps_of_erasePorts State.grace (addNotice_erase p n s)
  by_cases hp : p = q
  · subst hp
    cases hj : s.joined p with
    | false => rw [addNotice_absent n hj]; exact (Tells.refl p s).mono (Nat.zero_le 1)
    | true =>
      refine ⟨addNotice_joined p n s, fun hf => absurd (hj.symm.trans hf) (by decide), fun hr => ?_⟩
      unfold State.load at hr ⊢
      have hl : ((s.ports.get p).pushNotice s.generation n).notices.length ≤ (s.ports.get p).notices.length + 1 :=
        (addToSet_placed (show (s.ports.get p).notices.length < 64 by omega) (Or.inl hn)).length
      rw [addNotice_self n hj, hg]
      omega
  · have hports : (addNotice p n s).ports.get q = s.ports.get q := addNotice_other hp n s
    exact (Tells.silent (addNotice_joined p n s) (by unfold noNotice; rw [hports]; exact ⟨rfl, rfl⟩) hg).mono (Nat.zero_le 1)

theorem tells_reportVolume (v : Nat) : Tells 0 q s (reportVolume v s) := by
  have h : Tells 0 q s { s with watches := s.watches.filter (fun w => !watchHit s v w) } := .silent rfl ⟨rfl, rfl⟩ rfl
  exact h.trans (.foldl_silent (fun b w => tells_answer q b _ _ _ _) _ _)

theorem tells_endWatches (p : Port) (r : Reason) : Tells 0 q s (endWatches p r s) := by
  have h : Tells 0 q s { s with watches := s.watches.filter (fun w => decide (w.port ≠ p)) } := .silent rfl ⟨rfl, rfl⟩ rfl
  exact h.trans (.foldl_silent (fun b w => tells_answer q b _ _ _ _) _ _)

theorem tells_endClaims (p : Port) (r : Reason) (c : List (Nat × Tag)) : Tells 0 q s (endClaims p r c s) :=
  .foldl_silent (fun b _ => tells_answer q b _ _ _ _) _ _

/-! ## Leases -/

theorem tells_setLease (v : Nat) (l : Lease) : Tells 0 q s (s.setLease v l) := .silent rfl ⟨rfl, rfl⟩ rfl

theorem tells_passLease (v : Nat) (w : Waiter) (rest : List Waiter) (orphan : Bool) :
    Tells 1 q s (passLease v w rest orphan s) := by
  have ha := (tells_setLease q s v ⟨w.holds rest s.timing.recallTicks, (s.lease v).epoch + 1, rest⟩).trans
    (tells_answer q _ ⟨w.port, w.tag⟩ RequestKind.claim.code .granted
      (.leased v ((s.lease v).epoch + 1) (!rest.isEmpty) orphan))
  rw [passLease_eq]
  unfold handed
  dsimp only
  split
  · exact (ha.trans (tells_reportVolume q _ v)).mono (Nat.zero_le 1)
  · exact (ha.trans (tells_addNotice q _ w.port (.leaseWanted v (rest.any Waiter.marked)) rfl)).trans (tells_reportVolume q _ v)

/-- A lease that someone waits for. -/
def Lease.waited (l : Lease) : Bool := !l.waiters.isEmpty

theorem tells_loseLease (v : Nat) (orphan : Bool) (empty : Hold) :
    Tells (s.lease v).waited.toNat q s (loseLease v orphan empty s) := by
  unfold Lease.waited
  cases h : (s.lease v).waiters with
  | nil =>
    rw [loseLease_empties orphan empty h]
    exact (tells_setLease q s v _).trans (tells_reportVolume q _ v)
  | cons w rest =>
    rw [loseLease_passes orphan empty h]
    exact tells_passLease q s v w rest orphan

theorem tells_departWaiter (p : Port) (v : Nat) : Tells 1 q s (departWaiter p v s) := by
  rcases departWaiter_eq p v s with h | ⟨r, -, -, h⟩
  · rw [h]; exact (tells_setLease q s v _).mono (Nat.zero_le 1)
  · rw [h, ← Nat.zero_add 1]
    exact (tells_setLease q s v _).trans (tells_addNotice q _ r _ rfl)

theorem tells_departAll (p : Port) : Tells (waitingClaims s p).length q s (departAll p s) :=
  (Tells.foldl (f := fun s (c : Nat × Tag) => departWaiter p c.1 s) (fun b c => tells_departWaiter q b p c.1) _ s).mono
    (Nat.le_of_eq (Nat.one_mul _))

end

/-! ## Batches -/

theorem Releases.tells {l : List Batch} (h : Releases l s u) (q : Port) : Tells 0 q s u where
  joined := keeps_of_erase State.joined h.erase (fun _ => rfl)
  absent hq := by unfold noNotice; rw [h.absent hq]; exact ⟨rfl, rfl⟩
  load hr := by
    have hg := congrArg List.length h.grace
    rw [List.length_append] at hg
    unfold State.load at hr ⊢
    cases hq : s.joined q with
    | false => rw [h.absent hq]; omega
    | true =>
      have := (h.levels hq (by omega)).length
      omega

theorem tells_releaseTest (q : Port) (s : State) : Tells 0 q s (releaseTest s) := by
  obtain ⟨l, h⟩ := releaseLoop_releases s.grace.length s
  exact h.tells q

theorem tells_batched (k : PoolId) (x : List Extent) (o : Option Port) (v : Option Nat) (q : Port) (s : State) :
    Tells 3 q s (batched k x o v s) where
  joined := batched_joined k x o v s
  absent hq := by unfold noNotice; rw [batched_apart (Or.inr hq)]; exact ⟨rfl, rfl⟩
  load hr := by
    unfold State.load at hr ⊢
    rw [batched_grace, List.length_append, List.length_singleton]
    by_cases hq : some q = o ∨ s.joined q = false
    · rw [batched_apart hq]; omega
    · obtain ⟨ho, hj⟩ := not_or.mp hq
      rw [batched_told (Bool.eq_true_of_not_eq_false hj) ho]
      have := announced_length (r := s.ports.get q) v (s.generation + 1) (by omega)
      omega

theorem tells_dropGrant (o : Option Port) (n : Nat) (q : Port) (s : State) : Tells 3 q s (dropGrant o n s) := by
  cases hg : s.grant? n with
  | none => rw [dropGrant_none o n s hg]; exact (Tells.refl q s).mono (Nat.zero_le 3)
  | some g =>
    obtain ⟨l, h⟩ := formBatch_releases (s.volume g.volume).pool (g.extents.map Prod.snd) o g.invalidates (dropped n g s)
    have hd : Tells 0 q s (dropped n g s) :=
      .silent (dropped_joined n g s) (noNotice_of_ports (dropped_ports n g s)) (dropped_grace n g s)
    rw [dropGrant_some o n g s hg]
    exact ((hd.trans (tells_batched _ _ _ _ q _)).trans (h.tells q)).mono (by decide)

theorem tells_dropGrants (o : Option Port) (ns : List Nat) (q : Port) (s : State) :
    Tells (3 * ns.length) q s (dropGrants o ns s) :=
  Tells.foldl (fun b n => tells_dropGrant o n q b) ns s

/-! ## A notice to every JOINED head but one (R173) -/

theorem notifyJoined_eq (but : Option Port) (n : Notice) (s : State) : notifyJoined but n s =
    (allPorts.filter (fun p => decide (some p ≠ but))).foldl (fun s p => addNotice p n s) s := by
  rw [List.foldl_filter]
  unfold notifyJoined
  congr 1
  funext s p
  by_cases h : some p = but <;> simp [h]

theorem notifyJoined_told {but : Option Port} {n : Notice} (hj : s.joined q = true) (hq : some q ≠ but) :
    (notifyJoined but n s).ports.get q = (s.ports.get q).pushNotice s.generation n := by
  have hn : allPorts.Nodup := by decide
  rw [notifyJoined_eq]
  exact foldl_addNotice_self n (hn.filter _) (List.mem_filter.mpr ⟨mem_allPorts q, decide_eq_true hq⟩) hj

theorem notifyJoined_apart {but : Option Port} {n : Notice} (h : some q = but ∨ s.joined q = false) :
    (notifyJoined but n s).ports.get q = s.ports.get q := by
  rw [notifyJoined_eq]
  rcases h with h | h
  · exact foldl_addNotice_other n (fun hm => of_decide_eq_true (List.mem_filter.mp hm).2 h)
  · exact foldl_addNotice_absent n _ h

end Sys2Proof.Machine
end

section
/-! PROOFS. What a departing head leaves once its STAGED grants are dropped: the leases that it held, the queues that it waited in, its
watches (R79, R85, R86, R101, R102, R170, R172). -/

namespace Sys2Proof.Machine

open State

variable {p q : Port} {s u b : State} {v : Nat} {w : Waiter} {rest : List Waiter} {l : List Nat} {orphan : Bool}
  {empty : Hold} {r : Reason}

/-! ## What a watch sees of a volume -/

/-- The state, the latch and the reported holder alone decide whether an item differs. -/
theorem watchHit_congr (hs : (u.volume v).state = (s.volume v).state) (hl : (u.volume v).latch = (s.volume v).latch)
    (hh : (u.lease v).hold.view = (s.lease v).hold.view) (w : Watch) : watchHit u v w = watchHit s v w := by
  unfold watchHit
  congr 1
  funext it
  by_cases hv : it.volume = v
  · subst hv
    unfold itemDiffers
    rw [hs, hl, hh]
  · rw [decide_eq_false hv, Bool.false_and, Bool.false_and]

theorem unlessMarked_view (h : Hold) (m : Bool) : (h.unlessMarked m).view = h.view := by
  cases h with
  | recalling p n => cases m <;> rfl
  | free => rfl
  | held p => rfl
  | orphaned => rfl

/-! ## The leases that a head holds -/

theorem mem_heldVolumes (hw : Table.wf s.leases = true) : v ∈ heldVolumes s p ↔ (s.lease v).heldBy p = true := by
  refine ⟨fun h => heldBy_iff.mpr (holder_of_heldVolumes hw h), fun h => ?_⟩
  have hm := lease_mem (s := s) (v := v) (fun hf => by rw [hf] at h; cases h)
  exact List.mem_map.mpr ⟨_, List.mem_filter.mpr ⟨hm, h⟩, rfl⟩

theorem heldVolumes_nodup (hw : Table.wf s.leases = true) (p : Port) : (heldVolumes s p).Nodup :=
  Table.wf_nodup _ (Table.wf_filter s.leases _ hw)

/-! ## Several leases are lost, one after another -/

/-- The leases of these volumes are lost by their holder. -/
def loseLeases (orphan : Bool) (empty : Hold) (l : List Nat) (s : State) : State :=
  l.foldl (fun s v => loseLease v orphan empty s) s

theorem loseLeases_cons (orphan : Bool) (empty : Hold) (v : Nat) (l : List Nat) (s : State) :
    loseLeases orphan empty (v :: l) s = loseLeases orphan empty l (loseLease v orphan empty s) := rfl

theorem loseLeases_erase (orphan : Bool) (empty : Hold) (l : List Nat) (s : State) :
    (loseLeases orphan empty l s).eraseLease = s.eraseLease := leases_after_drop _ _ _ _

theorem loseLeases_grows (orphan : Bool) (empty : Hold) (l : List Nat) (s : State) :
    portsGrow s (loseLeases orphan empty l s) := foldl_grows (fun b v => loseLease_grows v orphan empty b) _ _

theorem loseLeases_wfD (h : Table.wfD .fresh s.leases = true) :
    Table.wfD .fresh (loseLeases orphan empty l s).leases = true := by
  induction l generalizing s with
  | nil => exact h
  | cons x l ih =>
    refine ih (s := loseLease x orphan empty s) ?_
    rw [loseLease_leases, setLease_leases]
    exact Table.wfD_setD _ _ _ _ h

theorem loseLeases_lease_other (hv : v ∉ l) : (loseLeases orphan empty l s).lease v = s.lease v := by
  induction l generalizing s with
  | nil => rfl
  | cons x l ih =>
    obtain ⟨hx, hl⟩ := not_or.mp (mt List.mem_cons.mpr hv)
    rw [loseLeases_cons, ih hl, loseLease_lease, if_neg (Ne.symm hx)]

theorem loseLeases_lease (hn : l.Nodup) (hv : v ∈ l) :
    (loseLeases orphan empty l s).lease v = (s.lease v).lost empty s.timing.recallTicks := by
  induction l generalizing s with
  | nil => cases hv
  | cons x l ih =>
    obtain ⟨hx, hn⟩ := List.nodup_cons.mp hn
    rw [loseLeases_cons]
    rcases List.mem_cons.mp hv with rfl | hv
    · rw [loseLeases_lease_other hx, loseLease_lease, if_pos rfl]
    · have hne : x ≠ v := fun h => hx (h ▸ hv)
      rw [ih hn hv, loseLease_lease, if_neg hne, keeps_of_erase State.timing (loseLease_erase _ _ _ _) (fun _ => rfl)]

/-- The first waiter of each is answered GRANTED. -/
theorem loseLeases_granted (hn : l.Nodup) (hv : v ∈ l) (hw : (s.lease v).waiters = w :: rest) (hup : s.linkUp w.port = true) :
    ⟨w.tag, 0x10, .granted, s.generation, .leased v ((s.lease v).epoch + 1) (!rest.isEmpty) orphan⟩ ∈
      ((loseLeases orphan empty l s).ports.get w.port).answers := by
  induction l generalizing s with
  | nil => cases hv
  | cons x l ih =>
    obtain ⟨hx, hn⟩ := List.nodup_cons.mp hn
    rw [loseLeases_cons]
    rcases List.mem_cons.mp hv with rfl | hv
    · refine portsGrow_mem (loseLeases_grows _ _ _ _) ?_
      obtain ⟨_, h⟩ := passLease_gains v w rest orphan s hup
      rw [loseLease_passes orphan empty hw, h]
      exact List.mem_append_right _ List.mem_cons_self
    · have hne : x ≠ v := fun h => hx (h ▸ hv)
      have hl : (loseLease x orphan empty s).lease v = s.lease v := by rw [loseLease_lease, if_neg hne]
      have := ih (s := loseLease x orphan empty s) hn hv (by rw [hl]; exact hw)
        ((portsGrow_linkUp (loseLease_grows _ _ _ _) _).trans hup)
      rwa [hl, keeps_of_erase State.generation (loseLease_erase _ _ _ _) (fun _ => rfl)] at this

/-- Watches are judged at each loss; no later loss moves what an earlier one has judged. -/
theorem loseLeases_watches (hn : l.Nodup) (hu : u = loseLeases orphan empty l s) :
    u.watches = s.watches.filter (fun w => !l.any (fun v => watchHit u v w)) ∧
    ∀ w ∈ s.watches, s.linkUp w.port = true → l.any (fun v => watchHit u v w) = true →
      ∃ a ∈ (u.ports.get w.port).answers, a.tag = w.tag ∧ a.code = 0x60#8 ∧ a.outcome = .changed := by
  induction l generalizing s with
  | nil => exact ⟨by rw [hu]; exact (List.filter_eq_self.mpr fun _ _ => rfl).symm, fun _ _ _ h => absurd h Bool.false_ne_true⟩
  | cons x l ih =>
    obtain ⟨hx, hn⟩ := List.nodup_cons.mp hn
    obtain ⟨b, hb⟩ : ∃ b, b = loseLease x orphan empty s := ⟨_, rfl⟩
    rw [loseLeases_cons, ← hb] at hu
    obtain ⟨hwatch, hans⟩ := ih hn hu
    obtain ⟨hjw, hja⟩ : rejudged x s b := hb ▸ loseLease_rejudged x orphan empty s
    have hhit (w : Watch) : watchHit u x w = watchHit b x w := by
      have hvol : u.volume = b.volume := by
        rw [hu]; exact keeps_of_erase State.volume (loseLeases_erase _ _ _ _) (fun _ => rfl)
      exact watchHit_congr (by rw [hvol]) (by rw [hvol]) (by rw [hu, loseLeases_lease_other hx]) w
    have hgb : portsGrow s b := hb ▸ loseLease_grows _ _ _ _
    have hgu : portsGrow b u := hu ▸ loseLeases_grows _ _ _ _
    refine ⟨?_, fun w hw hup hany => ?_⟩
    · rw [hwatch, hjw, List.filter_filter]
      refine List.filter_congr fun w _ => ?_
      rw [List.any_cons, hhit, Bool.not_or, Bool.and_comm]
    · cases hx' : watchHit b x w with
      | true => exact ⟨_, portsGrow_mem hgu (hja w hw hx' hup), rfl, rfl, rfl⟩
      | false =>
        rw [List.any_cons, hhit, hx', Bool.false_or] at hany
        refine hans w ?_ ((portsGrow_linkUp hgb _).trans hup) hany
        rw [hjw]
        exact List.mem_filter.mpr ⟨hw, by rw [hx']; rfl⟩

/-- Each lease that someone waits for sends one notice at most. -/
theorem tells_loseLeases (hn : l.Nodup) (q : Port) (s : State) :
    Tells (l.filter (fun v => (s.lease v).waited)).length q s (loseLeases orphan empty l s) := by
  induction l generalizing s with
  | nil => exact .refl q s
  | cons x l ih =>
    obtain ⟨hx, hn⟩ := List.nodup_cons.mp hn
    have hrest : l.filter (fun v => ((loseLease x orphan empty s).lease v).waited) = l.filter (fun v => (s.lease v).waited) :=
      List.filter_congr fun v hv => by rw [loseLease_lease, if_neg (fun h : x = v => hx (h ▸ hv))]
    have h := (tells_loseLease q s x orphan empty).trans (ih hn (loseLease x orphan empty s))
    rw [hrest] at h
    rw [loseLeases_cons]
    refine h.mono ?_
    rw [List.filter_cons]
    cases (s.lease x).waited with
    | true => rw [if_pos rfl, List.length_cons, Nat.add_comm]; rfl
    | false => exact Nat.le_of_eq (Nat.zero_add _)

/-! ## Claims and watches that end -/

theorem mem_waitingClaims_of_waiter (hw : w ∈ (s.lease v).waiters) : (v, w.tag) ∈ waitingClaims s w.port := by
  have hm := lease_mem (s := s) (v := v) (fun hf => by rw [hf] at hw; cases hw)
  exact List.mem_flatMap.mpr ⟨_, hm, List.mem_map.mpr ⟨w, List.mem_filter.mpr ⟨hw, decide_eq_true rfl⟩, rfl⟩⟩

theorem endClaims_mem {c : List (Nat × Tag)} {t : Tag} (hc : (v, t) ∈ c) (hup : s.linkUp p = true) :
    ⟨t, 0x10, .refused r, s.generation, .empty⟩ ∈ ((endClaims p r c s).ports.get p).answers :=
  foldl_answers_mem (o := fun c : Nat × Tag => some ⟨p, c.2⟩) (b := ⟨p, t⟩) (code := fun _ => RequestKind.claim.code)
    (outcome := fun _ => .refused r) (body := fun _ _ => .empty) (fun _ _ _ _ => rfl) hc rfl hup

theorem endClaims_grows (p : Port) (r : Reason) (c : List (Nat × Tag)) (s : State) : portsGrow s (endClaims p r c s) :=
  foldl_grows (fun b _ => answer_grows _ _ _ _ b) _ _

theorem endWatches_grows (p : Port) (r : Reason) (s : State) : portsGrow s (endWatches p r s) :=
  portsGrow_trans (portsGrow_of_ports rfl) (foldl_grows (fun b _ => answer_grows _ _ _ _ b) _ _)

theorem endWatches_watches (p : Port) (r : Reason) (s : State) :
    (endWatches p r s).watches = s.watches.filter (fun w => decide (w.port ≠ p)) :=
  foldl_keeps State.watches _ (fun b _ => keeps_of_erasePorts _ (refuse_erase _ _ _ b)) _ _

theorem endWatches_mem {w : Watch} (hw : w ∈ s.watches) (hp : w.port = p) (hup : s.linkUp p = true) :
    ⟨w.tag, 0x60, .refused r, s.generation, .empty⟩ ∈ ((endWatches p r s).ports.get p).answers := by
  subst hp
  exact foldl_answers_mem (o := fun w : Watch => some ⟨w.port, w.tag⟩) (b := ⟨w.port, w.tag⟩)
    (code := fun _ => RequestKind.watch.code) (outcome := fun _ => .refused r) (body := fun _ _ => .empty)
    (fun _ _ _ _ => rfl) (List.mem_filter.mpr ⟨hw, decide_eq_true rfl⟩) rfl
    (s := { s with watches := s.watches.filter (fun x => decide (x.port ≠ w.port)) }) hup

/-! ## The queues that a head waits in -/

/-- In a queue without repetition a port stands once at most. -/
theorem length_waiters_at {l : Lease} (hl : l.lawful) (p : Port) :
    (l.waiters.filter (fun w => decide (w.port = p))).length ≤ (l.waiters.any (fun w => decide (w.port = p))).toNat := by
  obtain ⟨hn, -, -, -⟩ := hl
  cases hf : l.waiters.filter (fun w => decide (w.port = p)) with
  | nil => exact Nat.zero_le _
  | cons a t =>
    have hmem (x : Waiter) (hx : x ∈ a :: t) : x ∈ l.waiters ∧ x.port = p := by
      rw [← hf] at hx
      exact ⟨List.mem_of_mem_filter hx, of_decide_eq_true (List.mem_filter.mp hx).2⟩
    have hnd : ((a :: t).map Waiter.port).Nodup := hf ▸ hn.sublist (List.filter_sublist.map _)
    have ht : t = [] := by
      cases t with
      | nil => rfl
      | cons x t =>
        refine absurd ?_ (List.nodup_cons.mp hnd).1
        rw [(hmem a List.mem_cons_self).2, ← (hmem x (List.mem_cons_of_mem _ List.mem_cons_self)).2]
        exact List.mem_cons_self
    have hany : l.waiters.any (fun w => decide (w.port = p)) = true :=
      List.any_eq_true.mpr ⟨a, (hmem a List.mem_cons_self).1, decide_eq_true (hmem a List.mem_cons_self).2⟩
    rw [hany, ht]
    exact le_rfl

/-- The volumes in whose queue a head waits. -/
def waitedVolumes (s : State) (p : Port) : List Nat :=
  (s.leases.filter (fun e => e.2.waiters.any (fun w => decide (w.port = p)))).map Prod.fst

theorem mem_waitedVolumes (hw : Table.wf s.leases = true) :
    v ∈ waitedVolumes s p ↔ ∃ w ∈ (s.lease v).waiters, w.port = p := by
  constructor
  · intro h
    obtain ⟨e, he, rfl⟩ := List.mem_map.mp h
    obtain ⟨he, hany⟩ := List.mem_filter.mp he
    obtain ⟨w, hwm, hwp⟩ := List.any_eq_true.mp hany
    exact ⟨w, lease_of_mem hw he ▸ hwm, of_decide_eq_true hwp⟩
  · rintro ⟨w, hwm, hwp⟩
    have hm := lease_mem (s := s) (v := v) (fun hf => by rw [hf] at hwm; cases hwm)
    exact List.mem_map.mpr ⟨_, List.mem_filter.mpr ⟨hm, List.any_eq_true.mpr ⟨w, hwm, decide_eq_true hwp⟩⟩, rfl⟩

theorem length_waitingClaims (hw : Table.wf s.leases = true) (hl : leaseLaw s) (p : Port) :
    (waitingClaims s p).length ≤ (waitedVolumes s p).length := by
  have hlaw (e : Nat × Lease) (he : e ∈ s.leases) : e.2.lawful := lease_of_mem hw he ▸ hl e.1
  unfold waitingClaims waitedVolumes
  rw [List.length_map]
  generalize s.leases = t at hlaw ⊢
  induction t with
  | nil => exact le_rfl
  | cons e t ih =>
    have h₁ := length_waiters_at (hlaw e List.mem_cons_self) p
    have h₂ := ih fun x hx => hlaw x (List.mem_cons_of_mem _ hx)
    rw [List.flatMap_cons, List.length_append, List.length_map, List.filter_cons]
    cases hany : e.2.waiters.any (fun w => decide (w.port = p)) with
    | true => rw [hany] at h₁; rw [if_pos rfl, List.length_cons]; simp only [Bool.toNat_true] at h₁; omega
    | false => rw [hany] at h₁; simp only [Bool.toNat_false] at h₁; rw [if_neg (by decide)]; omega

end Sys2Proof.Machine
end

section
/-! PROOFS. A departure as one event, the lapse of a head, and the Join of a new incarnation over a JOINED head (R97, R101, R102). -/

namespace Sys2Proof.Machine

open State

variable {p q : Port} {s u b : State} {v : Nat} {w : Waiter} {rest : List Waiter} {l : Lease} {orphan : Bool}
  {empty left : Hold} {r : Reason} {ticks : Nat} {granted : List Nat} {m : Member}

/-! ## One lease record -/

theorem unheld_isRecalling {h : Hold} (he : h.holder? = none) : h.isRecalling = false := by
  cases h with
  | free => rfl
  | orphaned => rfl
  | held p => cases he
  | recalling p n => cases he

theorem unlessMarked_recalling {h : Hold} {m : Bool} (hr : (h.unlessMarked m).isRecalling = true) : h.unlessMarked m = h := by
  rw [unlessMarked_isRecalling, Bool.and_eq_true] at hr
  exact unlessMarked_same (hr.1.trans hr.2.symm)

theorem mem_of_mem_lost (hw : w ∈ (l.lost empty ticks).waiters) : w ∈ l.waiters := by
  cases h : l.waiters with
  | nil => rw [lost_empty h] at hw; cases hw
  | cons x rest => rw [lost_passed h] at hw; exact List.mem_cons_of_mem x hw

/-- The holder of a lawful record does not wait for it. -/
theorem holder_not_waiting (hl : l.lawful) (hh : l.heldBy p = true) (hw : w ∈ l.waiters) : w.port ≠ p := by
  obtain ⟨-, hne, -, -⟩ := hl
  exact fun h => hne w hw (h ▸ heldBy_iff.mp hh)

/-- Nothing of the former holder is left in a record that it has lost. -/
theorem lost_gone (hl : l.lawful) (hh : l.heldBy p = true) (he : empty.holder? = none) :
    (l.lost empty ticks).heldBy p = false ∧ ∀ w ∈ (l.lost empty ticks).waiters, w.port ≠ p := by
  refine ⟨decide_eq_false ?_, fun w hw => holder_not_waiting hl hh (mem_of_mem_lost hw)⟩
  cases h : l.waiters with
  | nil => rw [lost_empty h, he]; nofun
  | cons x rest =>
    rw [lost_passed h, holds_holder?]
    exact fun hx => holder_not_waiting hl hh (h ▸ List.mem_cons_self) (Option.some.inj hx)

/-- Nothing of a waiter is left in a record without it. -/
theorem without_gone (hh : l.heldBy p = false) : (l.without p).heldBy p = false ∧ ∀ w ∈ (l.without p).waiters, w.port ≠ p := by
  refine ⟨?_, fun w hw => of_decide_eq_true (List.mem_filter.mp hw).2⟩
  unfold Lease.heldBy Lease.without at *
  rwa [unlessMarked_holder?]

/-! ## A departure, once the STAGED grants are dropped -/

/-- The leases of a head are lost. -/
def unleased (p : Port) (orphan : Bool) (empty : Hold) (s : State) : State := loseLeases orphan empty (heldVolumes s p) s

/-- The leases of a head are lost, it has left every queue, and its Claims and watches have ended. -/
def departed (p : Port) (orphan : Bool) (empty : Hold) (r : Reason) (s : State) : State :=
  endWatches p r (endClaims p r (waitingClaims (unleased p orphan empty s) p) (departAll p (unleased p orphan empty s)))

/-- What follows the loss of the leases moves no record but by the departures from the queues. -/
theorem departed_report (p : Port) (orphan : Bool) (empty : Hold) (r : Reason) (s : State) :
    (departed p orphan empty r s).eraseReport = (departAll p (unleased p orphan empty s)).eraseReport :=
  (endWatches_erase _ _ _).trans (ports_report (endClaims_erase _ _ _ _))

theorem departed_erase (p : Port) (orphan : Bool) (empty : Hold) (r : Reason) (s : State) :
    (departed p orphan empty r s).eraseLease = s.eraseLease :=
  (report_lease (departed_report p orphan empty r s)).trans ((departAll_erase _ _).trans (loseLeases_erase _ _ _ _))

theorem departed_grows_unleased (p : Port) (orphan : Bool) (empty : Hold) (r : Reason) (s : State) :
    portsGrow (unleased p orphan empty s) (departed p orphan empty r s) :=
  portsGrow_trans (departAll_grows _ _) (portsGrow_trans (endClaims_grows _ _ _ _) (endWatches_grows _ _ _))

theorem departed_grows (p : Port) (orphan : Bool) (empty : Hold) (r : Reason) (s : State) :
    portsGrow s (departed p orphan empty r s) :=
  portsGrow_trans (loseLeases_grows _ _ _ _) (departed_grows_unleased _ _ _ _ _)

theorem leaseLaw_unleased (hl : leaseLaw s) (he : empty.holder? = none) : leaseLaw (unleased p orphan empty s) :=
  leaseLaw_loseLeases orphan (unheld_isRecalling he) _ hl

section
variable (hw : Table.wfD .fresh s.leases = true) (hl : leaseLaw s) (he : empty.holder? = none)
include hw

theorem unleased_lease_held (hh : (s.lease v).heldBy p = true) :
    (unleased p orphan empty s).lease v = (s.lease v).lost empty s.timing.recallTicks :=
  loseLeases_lease (heldVolumes_nodup (wf_of_wfD hw) p) ((mem_heldVolumes (wf_of_wfD hw)).mpr hh)

theorem unleased_lease_other (hh : (s.lease v).heldBy p = false) : (unleased p orphan empty s).lease v = s.lease v :=
  loseLeases_lease_other fun hm => Bool.false_ne_true (hh.symm.trans ((mem_heldVolumes (wf_of_wfD hw)).mp hm))

include hl

/-- The waiting Claims of a departed head have been answered. -/
theorem departed_claims (hm : w ∈ (s.lease v).waiters) (hp : w.port = p) (hup : s.linkUp p = true) :
    ⟨w.tag, 0x10, .refused r, (departed p orphan empty r s).generation, .empty⟩ ∈
      ((departed p orphan empty r s).ports.get p).answers := by
  subst hp
  have hh : (s.lease v).heldBy w.port = false :=
    Bool.eq_false_iff.mpr fun hh => holder_not_waiting (hl v) hh hm rfl
  have hclaim : (v, w.tag) ∈ waitingClaims (unleased w.port orphan empty s) w.port :=
    mem_waitingClaims_of_waiter (by rw [unleased_lease_other hw hh]; exact hm)
  have hlink := (portsGrow_linkUp (portsGrow_trans (loseLeases_grows orphan empty (heldVolumes s w.port) s)
    (departAll_grows w.port _)) w.port).trans hup
  have hgen : (departed w.port orphan empty r s).generation = (departAll w.port (unleased w.port orphan empty s)).generation :=
    keeps_of_eraseReport State.generation (departed_report _ _ _ _ _)
  rw [hgen]
  exact portsGrow_mem (endWatches_grows _ _ _) (endClaims_mem hclaim hlink)

include he

theorem departed_lease (v : Nat) :
    (departed p orphan empty r s).lease v = ((unleased p orphan empty s).lease v).without p := by
  rw [keeps_of_eraseReport State.lease (departed_report p orphan empty r s)]
  exact departAll_lease (wf_of_wfD (loseLeases_wfD hw)) (leaseLaw_unleased hl he) p v

theorem departed_lease_held (hh : (s.lease v).heldBy p = true) :
    (departed p orphan empty r s).lease v = (s.lease v).lost empty s.timing.recallTicks := by
  have hlaw := leaseLaw_unleased (p := p) (orphan := orphan) hl he v
  rw [unleased_lease_held hw hh] at hlaw
  rw [departed_lease hw hl he, unleased_lease_held hw hh]
  exact without_same hlaw (lost_gone (hl v) hh he).2

theorem departed_lease_other (hh : (s.lease v).heldBy p = false) :
    (departed p orphan empty r s).lease v = (s.lease v).without p := by
  rw [departed_lease hw hl he, unleased_lease_other hw hh]

/-- The leases of a departed head and the queues that it waited in. -/
theorem departed_leasesLeft : leasesLeft p empty orphan s (departed p orphan empty r s) := by
  refine ⟨fun v hh hn => ?_, fun v w rest hh hn => ⟨?_, fun hup => ?_⟩, fun v hh => ?_⟩
  · rw [departed_lease_held hw hl he hh, lost_empty hn]
  · rw [departed_lease_held hw hl he hh, lost_passed hn]
    rfl
  · rw [keeps_of_erase State.generation (departed_erase p orphan empty r s) (fun _ => rfl)]
    exact portsGrow_mem (departed_grows_unleased _ _ _ _ _) (loseLeases_granted (heldVolumes_nodup (wf_of_wfD hw) p)
      ((mem_heldVolumes (wf_of_wfD hw)).mpr hh) hn hup)
  · rw [departed_lease_other hw hl he hh]
    exact ⟨unlessMarked_holder? _ _, rfl, rfl, without_isRecalling (hl v) p, unlessMarked_recalling, without_same (hl v)⟩

/-- The departures from the queues change nothing that a watch sees. -/
theorem departed_watchHit (v : Nat) (w : Watch) :
    watchHit (departed p orphan empty r s) v w = watchHit (unleased p orphan empty s) v w := by
  have hvol : (departed p orphan empty r s).volume = (unleased p orphan empty s).volume :=
    (keeps_of_erase State.volume (departed_erase _ _ _ _ _) (fun _ => rfl)).trans
      (keeps_of_erase State.volume (loseLeases_erase _ _ _ _) (fun _ => rfl)).symm
  refine watchHit_congr (by rw [hvol]) (by rw [hvol]) ?_ w
  rw [departed_lease hw hl he]
  exact unlessMarked_view _ _

theorem departed_watchesLeft : watchesLeft p r s (departed p orphan empty r s) := by
  obtain ⟨hlist, hans⟩ := loseLeases_watches (heldVolumes_nodup (wf_of_wfD hw) p)
    (rfl : unleased p orphan empty s = loseLeases orphan empty (heldVolumes s p) s)
  have hgc : portsGrow (unleased p orphan empty s)
      (endClaims p r (waitingClaims (unleased p orphan empty s) p) (departAll p (unleased p orphan empty s))) :=
    portsGrow_trans (departAll_grows _ _) (endClaims_grows _ _ _ _)
  have hwatches : (endClaims p r (waitingClaims (unleased p orphan empty s) p)
      (departAll p (unleased p orphan empty s))).watches = (unleased p orphan empty s).watches :=
    (keeps_of_erasePorts State.watches (endClaims_erase _ _ _ _)).trans (departAll_watches _ _)
  unfold watchesLeft
  simp only [departed_watchHit hw hl he]
  refine ⟨?_, fun w hm hup => ⟨fun hany => ?_, fun hp hany => ?_⟩⟩
  · rw [departed, endWatches_watches, hwatches, hlist, List.filter_filter]
  · obtain ⟨a, ha, hpart⟩ := hans w hm hup hany
    exact ⟨a, portsGrow_mem (departed_grows_unleased _ _ _ _ _) ha, hpart⟩
  · have hmem : w ∈ (unleased p orphan empty s).watches := by
      rw [hlist]
      exact List.mem_filter.mpr ⟨hm, by rw [hany]; rfl⟩
    have hlink := (portsGrow_linkUp (portsGrow_trans (loseLeases_grows orphan empty (heldVolumes s p) s) hgc) w.port).trans hup
    have hgen := keeps_of_eraseReport State.generation (endWatches_erase p r
      (endClaims p r (waitingClaims (unleased p orphan empty s) p) (departAll p (unleased p orphan empty s))))
    rw [departed, hgen]
    exact endWatches_mem (hwatches ▸ hmem) hp (hp ▸ hlink)

/-- A departure sends one notice at most for each lease that someone waits for. -/
theorem tells_departed (q : Port) : Tells (s.leases.filter (fun e => !e.2.waiters.isEmpty)).length q s
    (departed p orphan empty r s) := by
  have hwf := wf_of_wfD hw
  have hwl : Table.wf (unleased p orphan empty s).leases = true := wf_of_wfD (loseLeases_wfD hw)
  have hlaw := leaseLaw_unleased (p := p) (orphan := orphan) hl he
  have hwaited {v : Nat} : v ∈ waitedVolumes (unleased p orphan empty s) p →
      (s.lease v).heldBy p = false ∧ ∃ w ∈ (s.lease v).waiters, w.port = p := fun hm => by
    obtain ⟨w, hwm, hwp⟩ := (mem_waitedVolumes hwl).mp hm
    cases hh : (s.lease v).heldBy p with
    | false => rw [unleased_lease_other hw hh] at hwm; exact ⟨rfl, w, hwm, hwp⟩
    | true => rw [unleased_lease_held hw hh] at hwm; exact absurd hwp ((lost_gone (hl v) hh he).2 w hwm)
  have hdisjoint : ((heldVolumes s p).filter (fun v => (s.lease v).waited) ++
      waitedVolumes (unleased p orphan empty s) p).Nodup := by
    refine List.nodup_append.mpr ⟨(heldVolumes_nodup hwf p).filter _, Table.wf_nodup _ (Table.wf_filter _ _ hwl), ?_⟩
    rintro v hv x hx rfl
    exact Bool.false_ne_true ((hwaited hx).1.symm.trans ((mem_heldVolumes hwf).mp (List.mem_of_mem_filter hv)))
  have hsub : (heldVolumes s p).filter (fun v => (s.lease v).waited) ++ waitedVolumes (unleased p orphan empty s) p ⊆
      (s.leases.filter (fun e => !e.2.waiters.isEmpty)).map Prod.fst := by
    have hlisted {v : Nat} (hv : (s.lease v).waited = true) : v ∈ (s.leases.filter (fun e => !e.2.waiters.isEmpty)).map Prod.fst :=
      List.mem_map.mpr ⟨_, List.mem_filter.mpr ⟨lease_mem (s := s) (v := v) (fun hf => by rw [hf] at hv; cases hv), hv⟩, rfl⟩
    intro v hv
    rcases List.mem_append.mp hv with hv | hv
    · exact hlisted (List.mem_filter.mp hv).2
    · obtain ⟨-, w, hwm, -⟩ := hwaited hv
      refine hlisted ?_
      unfold Lease.waited
      rw [List.isEmpty_eq_false_iff.mpr (List.ne_nil_of_mem hwm)]
      rfl
  have hlen := (List.subperm_of_subset hdisjoint hsub).length_le
  rw [List.length_append, List.length_map] at hlen
  have hclaims := length_waitingClaims hwl hlaw p
  exact (((tells_loseLeases (heldVolumes_nodup hwf p) q s).trans (tells_departAll q _ p)).trans
    ((tells_endClaims q _ p r _).trans (tells_endWatches q _ p r))).mono (by unfold unleased at *; omega)

end

/-! ## A departure -/

/-- A member's STAGED grants are dropped, and then it departs. -/
theorem departs_departed (p : Port) (orphan : Bool) (r : Reason) (hg : Table.wf s.grants = true)
    (hw : Table.wfD .fresh s.leases = true) (hl : leaseLaw s) (he : empty.holder? = none)
    (hu : u = departed p orphan empty r (dropGrants none (stagedOf s p) s)) :
    ∃ granted, serves granted s u ∧ departs p empty orphan r granted s u := by
  obtain ⟨granted, hd, hs⟩ := dropGrants_drops none (fun g => decide (g.owner = p)) hg
  obtain ⟨d, hdd⟩ : ∃ d, d = dropGrants none (stagedOf s p) s := ⟨_, rfl⟩
  have herase : d.eraseDrop = s.eraseDrop := hdd ▸ dropGrants_erase _ _ _
  have hgrows : portsGrow s d := hdd ▸ dropGrants_grows _ _ _
  have hlease : d.lease = s.lease := keeps_of_erase State.lease herase (fun _ => rfl)
  have hleases : d.leases = s.leases := keeps_of_erase State.leases herase (fun _ => rfl)
  have htiming : d.timing = s.timing := keeps_of_erase State.timing herase (fun _ => rfl)
  have hwatches : d.watches = s.watches := keeps_of_erase State.watches herase (fun _ => rfl)
  have hlink : d.linkUp = s.linkUp := portsGrow_linkUp_eq hgrows
  have hheld : heldVolumes d p = heldVolumes s p := keeps_of_erase (heldVolumes · p) herase (fun _ => rfl)
  have hw' : Table.wfD .fresh d.leases = true := hleases ▸ hw
  have hl' : leaseLaw d := (leaseLaw_congr hleases).mpr hl
  rw [← hdd] at hu
  have hue : u.eraseLease = d.eraseLease := hu ▸ departed_erase _ _ _ _ _
  have hdrops := drops_congr (hdd ▸ hd) rfl hue
  have hleft : leasesLeft p empty orphan s u := by
    have := departed_leasesLeft (p := p) (orphan := orphan) (r := r) hw' hl' he
    unfold leasesLeft at this ⊢
    rwa [hlease, hlink, htiming, ← hu] at this
  have hwl : watchesLeft p r s u := by
    have := departed_watchesLeft (p := p) (orphan := orphan) (r := r) hw' hl' he
    unfold watchesLeft at this ⊢
    rwa [hwatches, hlink, hheld, ← hu] at this
  refine ⟨granted, serves_of_eraseLease (hdd ▸ hs) rfl hue, ⟨fun v => ?_, fun e hm ⟨hst, ho⟩ => ?_, fun w hm => ?_⟩, hdrops, hleft,
    hwl, fun v w hm hp hup => ?_⟩
  · cases hh : (s.lease v).heldBy p with
    | true =>
      rw [hu, departed_lease_held hw' hl' he (by rw [hlease]; exact hh), hlease]
      exact lost_gone (hl v) hh he
    | false =>
      rw [hu, departed_lease_other hw' hl' he (by rw [hlease]; exact hh), hlease]
      exact without_gone hh
  · obtain ⟨hgrants, -⟩ := hdrops
    rw [hgrants] at hm
    have hkept : (!(e.2.isStaged && decide (e.2.owner = p))) = true := (List.mem_filter.mp hm).2
    rw [hst, decide_eq_true ho] at hkept
    cases hkept
  · obtain ⟨hlist, -⟩ := hwl
    rw [hlist] at hm
    exact of_decide_eq_true ((Bool.and_eq_true _ _).mp (List.mem_filter.mp hm).2).1
  · rw [hu]
    exact departed_claims hw' hl' (by rw [hlease]; exact hm) hp (by rw [hlink]; exact hup)

/-! ## Notices and releases that follow -/

/-- Between two states notices have been sent and the oldest batches released, with the deletions that these have served. -/
structure Settles (granted : List Nat) (s u : State) : Prop where
  served : served granted s u
  grace : ∃ released, s.grace = released ++ u.grace
  reserved : ∀ k, (u.pools.get k).reserved = (s.pools.get k).reserved
  generation : u.generation = s.generation
  erased : u.eraseBatch = s.eraseBatch
  grows : portsGrow s u

theorem settles_releaseTest (h : b.erasePorts = s.erasePorts) (hg : portsGrow s b) :
    ∃ granted, Settles granted s (releaseTest b) := by
  obtain ⟨l, hr⟩ := releaseLoop_releases b.grace.length b
  obtain ⟨granted, hs⟩ := hr.served
  refine ⟨[] ++ granted, served_trans (served_of_erasePorts h) hs, ⟨l, ?_⟩, fun k => ?_, ?_, ?_, ?_⟩
  · rw [← keeps_of_erasePorts State.grace h]; exact hr.grace
  · rw [← keeps_of_erasePorts State.pools h]; exact (hr.counts k).1
  · rw [← keeps_of_erasePorts State.generation h]; exact hr.generation
  · exact hr.erase.trans (ports_batch h)
  · exact portsGrow_trans hg (releaseTest_grows b)

section
variable {g₁ g₂ : List Nat} (h : Settles g₂ b u)
include h

theorem Settles.keeps {γ : Type} (f : State → γ) (hf : ∀ t : State, f t.eraseBatch = f t := by intro; rfl) : f u = f b :=
  keeps_of_erase f h.erased hf

theorem drops_settles {f : Grant → Bool} (hd : drops f g₁ s b) : drops f (g₁ ++ g₂) s u := by
  obtain ⟨hgrants, hgen, ⟨released, hr⟩, hres, hvol, hten⟩ := hd
  obtain ⟨more, hm⟩ := h.grace
  obtain ⟨-, hserved⟩ := h.served
  refine ⟨(h.keeps State.grants).trans hgrants, h.generation.trans hgen, ⟨released ++ more, ?_⟩,
    fun k => (h.reserved k).trans (hres k), fun v => ?_, fun t => ?_⟩
  · rw [hr, hm, List.append_assoc]
  · rw [hserved, hvol, unpaused_unpaused]
  · rw [h.keeps State.tenant]; exact hten t

theorem settles_watchHit (v : Nat) (w : Watch) : watchHit u v w = watchHit b v w := by
  obtain ⟨-, hserved⟩ := h.served
  have hlease : u.lease = b.lease := h.keeps State.lease
  refine watchHit_congr ?_ ?_ (by rw [hlease]) w
  · rw [hserved]; unfold unpaused; split <;> rfl
  · rw [hserved]; unfold unpaused; split <;> rfl

/-- A departure stands, whatever notices and releases follow it. -/
theorem departs_settles (hd : departs p left orphan r g₁ s b) : departs p left orphan r (g₁ ++ g₂) s u := by
  obtain ⟨⟨hgl, hgg, hgw⟩, hdrops, ⟨hfree, hpass, hstand⟩, ⟨hwl, hwa⟩, hclaims⟩ := hd
  have hlease : u.lease = b.lease := h.keeps State.lease
  have hgrants : u.grants = b.grants := h.keeps State.grants
  have hwatches : u.watches = b.watches := h.keeps State.watches
  refine ⟨⟨?_, ?_, ?_⟩, drops_settles h hdrops, ⟨?_, fun v w rest hh hn => ?_, ?_⟩, ⟨?_, fun w hm hup => ?_⟩,
    fun v w hm hp hup => ?_⟩
  · rw [hlease]; exact hgl
  · rw [hgrants]; exact hgg
  · rw [hwatches]; exact hgw
  · rw [hlease]; exact hfree
  · rw [hlease, h.generation]
    exact (hpass v w rest hh hn).imp_right fun hmem hup => portsGrow_mem h.grows (hmem hup)
  · rw [hlease]; exact hstand
  · simp only [hwatches, settles_watchHit h]; exact hwl
  · simp only [settles_watchHit h, h.generation]
    obtain ⟨hhit, hend⟩ := hwa w hm hup
    refine ⟨fun hany => ?_, fun hp hany => portsGrow_mem h.grows (hend hp hany)⟩
    obtain ⟨a, ha, hpart⟩ := hhit hany
    exact ⟨a, portsGrow_mem h.grows ha, hpart⟩
  · rw [h.generation]; exact portsGrow_mem h.grows (hclaims v w hm hp hup)

end

/-! ## The lapse of a head (R102) -/

/-- The state of a lapse before HEAD_LAPSED is sent. -/
def lapsing (p : Port) (m : Member) (s : State) : State :=
  departed p true .orphaned .notJoined (dropGrants none (stagedOf s p) (setHead p (.lapsed m.incarnation) s))

theorem lapse_joined (h : s.heads.get p = .joined m) :
    lapse p s = releaseTest (notifyJoined (some p) (.headLapsed p m.incarnation) (lapsing p m s)) := by
  unfold lapse
  rw [h]
  rfl

theorem setHead_joined_self (i : BitVec 32) : (setHead p (.lapsed i) s).joined p = false := by
  unfold State.joined setHead
  dsimp only
  rw [putAt_get_self]
  rfl

theorem setHead_joined_other (h : Head) (hq : q ≠ p) : (setHead p h s).joined q = s.joined q := by
  unfold State.joined setHead
  dsimp only
  rw [putAt_get_other _ _ _ _ (Ne.symm hq)]

/-- A notice that no level displaces reaches a JOINED head that has room, and stays among the levels of the releases that follow. -/
theorem notifyJoined_kept {but : Option Port} {n : Notice} (hj : s.joined q = true) (hq : some q ≠ but) (hroom : s.load q < 64)
    (hn : n.invalidatesAt = none) (hc : n.code ≠ 8) : n ∈ ((releaseTest (notifyJoined but n s)).ports.get q).notices := by
  obtain ⟨b, hb⟩ : ∃ b, b = notifyJoined but n s := ⟨_, rfl⟩
  have he : b.erasePorts = s.erasePorts := hb ▸ notifyJoined_erase _ _ _
  have hplaced : Placed (Notice.same n) n (s.ports.get q).notices (b.ports.get q).notices := by
    rw [hb, notifyJoined_told hj hq]
    unfold State.load at hroom
    exact addToSet_placed (show _ < 64 by omega) (Or.inl hn)
  obtain ⟨l, hr⟩ := releaseLoop_releases b.grace.length b
  have hlen := hplaced.length
  have hgrace := congrArg List.length hr.grace
  rw [keeps_of_erasePorts State.grace he, List.length_append] at hgrace
  unfold State.load at hroom
  rw [← hb]
  exact (hr.levels (q := q) (by rw [keeps_of_erasePorts State.joined he]; exact hj) (by omega)).kept n hplaced.placed hc

section
variable (hw : Table.wfD .fresh s.leases = true) (hl : leaseLaw s)
include hw hl

theorem tells_lapsing (p q : Port) (m : Member) :
    Tells (3 * (stagedOf s p).length + (s.leases.filter (fun e => !e.2.waiters.isEmpty)).length) q
      (setHead p (.lapsed m.incarnation) s) (lapsing p m s) := by
  have he := dropGrants_erase none (stagedOf s p) (setHead p (.lapsed m.incarnation) s)
  have hleases : (dropGrants none (stagedOf s p) (setHead p (.lapsed m.incarnation) s)).leases = s.leases :=
    (keeps_of_erase State.leases he (fun _ => rfl)).trans rfl
  have hd := tells_departed (p := p) (orphan := true) (empty := .orphaned) (r := .notJoined) (hleases ▸ hw)
    ((leaseLaw_congr hleases).mpr hl) rfl q
  rw [hleases] at hd
  exact (tells_dropGrants none (stagedOf s p) q _).trans hd

/-- HEAD_LAPSED reaches every other JOINED head that has room for all that the lapse adds, and stays among the levels that
follow. -/
theorem lapse_headLapsed (hm : s.heads.get p = .joined m) (hq : q ≠ p) (hj : s.joined q = true)
    (hroom : s.load q + (3 * (stagedOf s p).length + (s.leases.filter (fun e => !e.2.waiters.isEmpty)).length) < 64) :
    .headLapsed p m.incarnation ∈ ((lapse p s).ports.get q).notices := by
  have ht := tells_lapsing hw hl p q m
  have hload : (lapsing p m s).load q < 64 := (ht.load (Nat.le_of_lt hroom)).trans_lt hroom
  have hjoined : (lapsing p m s).joined q = true := by rw [ht.joined, setHead_joined_other _ hq]; exact hj
  rw [lapse_joined hm]
  exact notifyJoined_kept hjoined (fun h => hq (Option.some.inj h)) hload rfl (by simp [Notice.code])

theorem lapse_noNotice (hm : s.heads.get p = .joined m) (hq : q = p ∨ s.joined q = false) : noNotice q s (lapse p s) := by
  have hj : (setHead p (.lapsed m.incarnation) s).joined q = false := by
    by_cases h : q = p
    · rw [h]; exact setHead_joined_self _
    · rw [setHead_joined_other _ h]; exact hq.resolve_left h
  have ht := tells_lapsing hw hl p q m
  have hlj : (lapsing p m s).joined q = false := by rw [ht.joined]; exact hj
  have hn : noNotice q (lapsing p m s) (notifyJoined (some p) (.headLapsed p m.incarnation) (lapsing p m s)) := by
    unfold noNotice
    rw [notifyJoined_apart (Or.inr hlj)]
    exact ⟨rfl, rfl⟩
  rw [lapse_joined hm]
  refine noNotice_trans (noNotice_trans (ht.absent hj) hn) ((tells_releaseTest q _).absent ?_)
  rw [keeps_of_erasePorts State.joined (notifyJoined_erase _ _ _)]
  exact hlj

end

theorem eraseLapse_touches (h : u.eraseLapse = s.eraseLapse) : u = { s with
    heads := u.heads, fences := u.fences, ports := u.ports, watches := u.watches, volumes := u.volumes,
    tenants := u.tenants, spans := u.spans, pools := u.pools, grants := u.grants, leases := u.leases,
    generation := u.generation, grace := u.grace, stall := u.stall,
    promises := u.promises, admissionWait := u.admissionWait, deletionsDue := u.deletionsDue } :=
  (congrArg (fun y : State => { y with
    heads := u.heads, fences := u.fences, ports := u.ports, watches := u.watches, volumes := u.volumes,
    tenants := u.tenants, spans := u.spans, pools := u.pools, grants := u.grants, leases := u.leases,
    generation := u.generation, grace := u.grace, stall := u.stall,
    promises := u.promises, admissionWait := u.admissionWait, deletionsDue := u.deletionsDue }) h :)

/-- The lapse of a JOINED head. -/
theorem lapse_lapses (hm : s.heads.get p = .joined m) (hg : Table.wf s.grants = true) (hw : Table.wfD .fresh s.leases = true)
    (hl : leaseLaw s) : ∃ granted, lapses p m granted s (lapse p s) := by
  obtain ⟨g₁, hs₁, hd⟩ := departs_departed (s := setHead p (.lapsed m.incarnation) s) p true .notJoined hg hw hl
    (empty := .orphaned) rfl (u := lapsing p m s) rfl
  obtain ⟨g₂, hset⟩ := settles_releaseTest (notifyJoined_erase (some p) (.headLapsed p m.incarnation) (lapsing p m s))
    (notifyJoined_grows _ _ _)
  rw [← lapse_joined hm] at hset
  obtain ⟨hs₂, -⟩ := hset.served
  obtain ⟨hheads, hfences⟩ := lapse_heads p m s hm
  have hgrows : portsGrow s (lapse p s) := portsGrow_after (b := setHead p (.lapsed m.incarnation) s)
    (portsGrow_trans (portsGrow_trans (dropGrants_grows _ _ _) (departed_grows _ _ _ _ _)) hset.grows) rfl
  refine ⟨g₁ ++ g₂, serves_trans hs₁ hs₂, hheads, hfences, departs_settles hset hd, fun q hq hj hroom => ?_,
    fun q hq => lapse_noNotice hw hl hm hq, hgrows, ?_⟩
  · exact lapse_headLapsed hw hl hm hq hj (by unfold State.load; omega)
  · exact eraseLapse_touches (lapse_erase p s)

/-! ## Join over a JOINED head (R97) -/

/-- The head is JOINED with its new incarnation, its notice set is emptied, and its answer stands last (R96, R98). -/
theorem answerJoined_joinHead {t : Tag} (i : BitVec 32) (hup : s.linkUp p = true) :
    answerJoined ⟨p, t⟩ i (joinHead p i s) = { s with
      heads := putAt s.heads p (.joined ⟨i, s.generation, s.timing.live, false⟩)
      fences := putAt s.fences p .released
      ports := putAt s.ports p { s.ports.get p with
        notices := []
        lost := false
        answers := (s.ports.get p).answers ++ [⟨t, 0x01, .joined, s.generation,
          .joined p i s.bootCount s.resetCause s.mode s.generation s.timing s.timing.live⟩] } } := by
  have hlink : (joinHead p i s).linkUp p = true := by
    refine Eq.trans ?_ hup
    unfold joinHead State.linkUp
    rw [updatePort_ports, putAt_get_self]
    rfl
  unfold answerJoined
  rw [answer_ports (o := ⟨p, t⟩) hlink]
  unfold told joinHead
  rw [updatePort_ports, putAt_get_self, putAt_putAt]
  rfl

theorem judgeJoin_replaces {o : Origin} {i : BitVec 32} (hm : s.heads.get o.port = .joined m) (hi : m.incarnation ≠ i) :
    judgeJoin o i s = answerJoined o i (joinHead o.port i (lapse o.port s)) := by
  unfold judgeJoin
  rw [hm]
  exact if_neg hi

/-- Settles O28: the old incarnation lapses in full, and the new one joins and is answered. -/
theorem joinNewIncarnation : Obligations.JoinNewIncarnation := by
  intro p t i m s hh hmode htab hl hm hi
  obtain ⟨-, -, -, -, hg, hw, -⟩ := htab
  have hjoined : s.joined p = true := by unfold State.joined; rw [hm]; rfl
  obtain ⟨granted, h⟩ := lapse_lapses (s := taken p t s) hm hg hw hl
  have he : (lapse p (taken p t s)).eraseLapse = s.eraseLapse := lapse_erase p (taken p t s)
  have hjudge := judgeJoin_replaces (s := taken p t s) (o := ⟨p, t⟩) hm hi
  obtain ⟨u, hu⟩ : ∃ u, u = lapse p (taken p t s) := ⟨_, rfl⟩
  rw [← hu] at h he hjudge
  have ⟨_, _, _, _, _, _, hgrows, _⟩ := h
  have hup : u.linkUp p = true := by
    rw [portsGrow_linkUp hgrows, taken_linkUp]
    exact hh.2.1
  refine ⟨u, granted, h, (request_admits .join _ ⟨hh, hmode, hjoined⟩).trans (congrArg _ (hjudge.trans ?_))⟩
  rw [answerJoined_joinHead i hup, keeps_of_erase State.timing he (fun _ => rfl),
    keeps_of_erase State.bootCount he (fun _ => rfl), keeps_of_erase State.resetCause he (fun _ => rfl),
    keeps_of_erase State.mode he (fun _ => rfl)]

end Sys2Proof.Machine
end

section
/-! PROOFS. The refusals STARTING and NOT_JOINED (R95), and the queries of the part (R105, R166). -/

namespace Sys2Proof.Machine

open State

variable {s : State} {p : Port} {t : Tag} {c : Instr} {code : Byte} {kind : RequestKind} {k : State → State}

/-! ## The refusals of R95 -/

/-- A request frame arrives as one of its kind, whatever the state. -/
theorem exec_of_requestOf (h : requestOf c = some (p, t, code)) :
    ∃ kind k, (∀ s, exec c s = request p t kind k s) ∧ RequestKind.code kind = code := by
  cases c <;> cases h <;> exact ⟨_, _, fun _ => rfl, rfl⟩

theorem admitRequest_starting (hm : s.mode = .recovering) (hk : kind ≠ .queryPart) :
    admitRequest ⟨p, t⟩ kind k s = refuse ⟨p, t⟩ kind .starting s := by
  unfold admitRequest
  rw [if_pos ⟨hm, hk⟩]

theorem admitRequest_notJoined (hm : s.mode ≠ .recovering) (hj : s.joined p = false) (hk : kind.needsMember = true) :
    admitRequest ⟨p, t⟩ kind k s = refuse ⟨p, t⟩ kind .notJoined s := by
  unfold admitRequest
  rw [if_neg fun h => hm h.1, if_pos ⟨hk, by rw [hj]; rfl⟩]

/-- A request that asks for no member goes on to its own rule, QueryPart in every mode. -/
theorem admitRequest_open (hk : kind.needsMember = false) (hm : kind = .queryPart ∨ s.mode ≠ .recovering) :
    admitRequest ⟨p, t⟩ kind k s = k s := by
  unfold admitRequest
  rw [if_neg fun h => hm.elim h.2 (fun hm => hm h.1), if_neg fun h => by rw [hk] at h; exact Bool.false_ne_true h.1]

/-- All kinds but those of the codes 1, 5 and 6 ask for a member. -/
theorem needsMember_of_code (h1 : kind.code ≠ 0x01#8) (h5 : kind.code ≠ 0x05#8) (h6 : kind.code ≠ 0x06#8) :
    kind.needsMember = true := by
  cases kind with
  | join => exact absurd rfl h1
  | queryPart => exact absurd rfl h5
  | queryFaults => exact absurd rfl h6
  | _ => rfl

/-- Settles O24: a frame that is heard is judged in the state `taken`, where either refusal is its answer. -/
theorem startingAndNotJoined : Obligations.StartingAndNotJoined := by
  refine ⟨fun c p t code s hc hh hm h5 => ?_, fun c p t code s hc hh hm hj h1 h5 h6 => ?_⟩
  · obtain ⟨kind, k, hx, rfl⟩ := exec_of_requestOf hc
    rw [hx, request_hears kind k hh, admitRequest_starting (s := taken p t s) hm fun h => h5 (congrArg RequestKind.code h),
      refuse_taken kind .starting hh.2.1]
  · obtain ⟨kind, k, hx, rfl⟩ := exec_of_requestOf hc
    rw [hx, request_hears kind k hh, admitRequest_notJoined (s := taken p t s) hm hj (needsMember_of_code h1 h5 h6),
      refuse_taken kind .notJoined hh.2.1]

/-! ## The queries of the part -/

/-- What QueryPart reports does not see that a tag has been taken. -/
theorem partBody_taken : partBody (taken p t s) = partBody s := by
  unfold partBody
  simp only [taken_linkUp]
  rfl

/-- Settles O31: neither query asks for a member, and QueryPart is heard while RECOVERING too. -/
theorem queriesOfThePart : Obligations.QueriesOfThePart := by
  intro p t s hh
  refine ⟨?_, fun hm => ?_⟩
  · refine (request_hears .queryPart _ hh).trans (congrArg _ ?_)
    rw [admitRequest_open rfl (Or.inl rfl), partBody_taken]
    exact answer_taken _ _ _ hh.2.1
  · refine (request_hears .queryFaults _ hh).trans (congrArg _ ?_)
    rw [admitRequest_open (s := taken p t s) rfl (Or.inr hm)]
    exact answer_taken _ _ _ hh.2.1

end Sys2Proof.Machine
end

section
/-! PROOFS. Join of a head that is not JOINED, or is JOINED with its own incarnation (R96 to R98), and the liveness expiry (R100,
R102). -/

namespace Sys2Proof.Machine

open State

variable {s : State} {p : Port} {t : Tag} {i : BitVec 32} {m : Member}

/-! ## Join -/

/-- A Join that is heard outside RECOVERING is judged in the state `taken`. -/
theorem exec_join (h : hears s p t) (hm : s.mode ≠ .recovering) (i : BitVec 32) :
    exec (.join p t i) s = .next (judgeJoin ⟨p, t⟩ i (taken p t s)) := by
  refine (request_hears .join _ h).trans (congrArg _ ?_)
  exact admitRequest_open (s := taken p t s) rfl (Or.inr hm)

/-- A head that is ABSENT, or LAPSED with another incarnation, joins (R96). -/
theorem judgeJoin_joins (h : s.heads.get p = .absent ∨ ∃ old, s.heads.get p = .lapsed old ∧ old ≠ i) :
    judgeJoin ⟨p, t⟩ i s = answerJoined ⟨p, t⟩ i (joinHead p i s) := by
  unfold judgeJoin
  rcases h with h | ⟨old, h, hi⟩
  · rw [h]
  · rw [h]
    exact if_neg hi

theorem judgeJoin_stale (h : s.heads.get p = .lapsed i) :
    judgeJoin ⟨p, t⟩ i s = refuseWith ⟨p, t⟩ .join .staleIncarnation (.stale i s.bootCount s.generation) s := by
  unfold judgeJoin
  rw [h]
  exact if_pos rfl

/-- A JOINED head with its own incarnation has its countdown loaded again (R97). -/
theorem judgeJoin_again (h : s.heads.get p = .joined m) (hi : m.incarnation = i) :
    judgeJoin ⟨p, t⟩ i s = answerJoined ⟨p, t⟩ i (setHead p (.joined { m with liveness := s.timing.live }) s) := by
  unfold judgeJoin
  rw [h]
  exact if_pos hi

/-- An answer after a change of one head's entry is the change of that entry after the answer. -/
theorem answer_setHead (h : Head) (o : Origin) (code : Byte) (outcome : AnswerOutcome) (body : AnswerBody) (s : State) :
    answer o code outcome body (setHead p h s) = setHead p h (answer o code outcome body s) := by
  cases hup : s.linkUp o.port with
  | true => rw [answer_ports hup, answer_ports (s := setHead p h s) hup]; rfl
  | false => rw [answer_down hup, answer_down (s := setHead p h s) hup]

/-- Settles O27: in each case the judgement of the Join is one operation and its answer. -/
theorem joinMakesMember : Obligations.JoinMakesMember := by
  intro p t i s hh hmode
  refine ⟨fun h => ?_, fun m h hi => ?_, fun h => ?_⟩
  · rw [exec_join hh hmode, judgeJoin_joins (s := taken p t s) h,
      answerJoined_joinHead (s := taken p t s) i ((taken_linkUp p).trans hh.2.1)]
    unfold taken
    simp only [putAt_get_self, putAt_putAt]
  · rw [exec_join hh hmode, judgeJoin_again (s := taken p t s) h hi]
    unfold answerJoined
    rw [answer_setHead, answer_taken _ _ _ hh.2.1]
    rfl
  · rw [exec_join hh hmode, judgeJoin_stale (s := taken p t s) h]
    exact congrArg _ (answer_taken _ _ _ hh.2.1)

/-! ## The liveness expiry -/

/-- The search over the ports finds the lowest that passes. -/
theorem find?_allPorts {f : Port → Bool} (hp : f p = true) (hlow : ∀ q, q < p → f q = false) :
    allPorts.find? f = some p := by
  have hsplit : ∀ p : Port, allPorts = allPorts.filter (fun q => decide (q < p)) ++
      p :: allPorts.filter (fun q => decide (p < q)) := by decide
  rw [hsplit p, List.find?_append, List.find?_cons_of_pos hp, List.find?_eq_none.mpr, Option.none_or]
  intro q hq
  rw [hlow q (of_decide_eq_true (List.mem_filter.mp hq).2)]
  exact Bool.false_ne_true

theorem expired_joined (h : s.heads.get p = .joined m) : (s.heads.get p).expired = decide (m.liveness = 0) := by
  rw [h]
  rfl

theorem expired_false (h : ∀ x, s.heads.get p = .joined x → x.liveness ≠ 0) : (s.heads.get p).expired = false := by
  cases hp : s.heads.get p with
  | joined x => exact decide_eq_false (h x hp)
  | absent => rfl
  | lapsed i => rfl

/-- Settles O50: the lowest head whose countdown has run out lapses. -/
theorem livenessExpiryLapses : Obligations.LivenessExpiryLapses := by
  intro p m s hset htab hl hm hlive hlow
  obtain ⟨-, -, -, -, hg, hw, -⟩ := htab
  obtain ⟨granted, h⟩ := lapse_lapses hm hg hw hl
  refine ⟨lapse p s, granted, (event_settled expireLiveness hset).trans (congrArg _ ?_), h⟩
  unfold expireLiveness
  rw [find?_allPorts (f := fun q => (s.heads.get q).expired) ((expired_joined hm).trans (decide_eq_true hlive))
    fun q hq => expired_false (hlow q hq)]

end Sys2Proof.Machine
end

section
/-! PROOFS. Leave (R101): which notices a departure sends, and the departure as one event (R86, R174). -/

namespace Sys2Proof.Machine

open State

variable {p q : Port} {s u b : State} {t : Tag} {n x : Notice} {set : List Notice} {lost orphan : Bool} {g : Gen}
  {empty left : Hold} {r : Reason} {granted : List Nat}

/-! ## A set that takes a notice of another kind gains no HEAD_LAPSED -/

theorem mem_of_mem_dropFirst {α : Type} {f : α → Bool} {y : α} {l : List α} (h : y ∈ dropFirst f l) : y ∈ l := by
  induction l with
  | nil => exact h
  | cons a l ih =>
    unfold dropFirst at h
    split at h
    · exact List.mem_cons_of_mem a h
    · rcases List.mem_cons.mp h with rfl | h
      · exact List.mem_cons_self
      · exact List.mem_cons_of_mem a (ih h)

theorem displace_old (h : x ∈ (displace n set lost).1) : x ∈ set ∨ x = n := by
  unfold displace at h
  split at h
  · exact (List.mem_append.mp h).imp mem_of_mem_dropFirst List.mem_singleton.mp
  · split at h
    · exact (List.mem_append.mp h).imp mem_of_mem_dropFirst List.mem_singleton.mp
    · exact Or.inl h

theorem coalesce_old (h : x ∈ coalesce g set) : x ∈ set ∨ x = .invalidateAll g := by
  unfold coalesce at h
  split at h
  · exact (mem_of_mem_replaceFirst h).imp_left List.mem_of_mem_filter
  · exact mem_of_mem_replaceFirst (List.mem_of_mem_filter h)

/-- A full set gains the notice, or an INVALIDATE_ALL. -/
theorem addToFull_old (h : x ∈ (addToFull g n set lost).1) : x ∈ set ∨ x = n ∨ x = .invalidateAll g := by
  unfold addToFull at h
  split at h
  · split at h
    · exact (coalesce_old h).imp_right Or.inr
    · exact (displace_old h).imp_right Or.inr
  · split at h
    · dsimp only at h
      split at h
      · rcases List.mem_append.mp h with h | h
        · exact (coalesce_old h).imp_right Or.inr
        · exact Or.inr (Or.inl (List.mem_singleton.mp h))
      · rcases displace_old h with h | h
        · exact (coalesce_old h).imp_right Or.inr
        · exact Or.inr (Or.inl h)
    · exact (displace_old h).imp_right Or.inl

/-- What a set holds after a notice is added: what it held, that notice, or an INVALIDATE_ALL (R174, R175). -/
theorem addToSet_old (h : x ∈ (addToSet g n set lost).1) : x ∈ set ∨ x = n ∨ ∃ a, x = .invalidateAll a := by
  have happend (h : x ∈ set ++ [n]) : x ∈ set ∨ x = n ∨ ∃ a, x = .invalidateAll a :=
    (List.mem_append.mp h).imp_right fun h => Or.inl (List.mem_singleton.mp h)
  have hfull (h : x ∈ (addToFull g n set lost).1) : x ∈ set ∨ x = n ∨ ∃ a, x = .invalidateAll a :=
    (addToFull_old h).imp_right (Or.imp_right fun h => ⟨g, h⟩)
  unfold addToSet at h
  split at h
  · exact (mem_of_mem_replaceFirst h).imp_right Or.inl
  · split at h
    · split at h
      · exact (mem_of_mem_replaceFirst h).imp_right fun h => Or.inr ⟨_, h⟩
      · split at h
        · exact happend h
        · exact hfull h
    · split at h
      · exact happend h
      · exact hfull h

/-! ## Operations that send no HEAD_LAPSED -/

/-- Between two states no HEAD_LAPSED has joined a notice set. -/
def lapsesUntold (s u : State) : Prop :=
  ∀ q, ∀ x ∈ (u.ports.get q).notices, x.code = 7 → x ∈ (s.ports.get q).notices

theorem lapsesUntold_trans (h : lapsesUntold s b) (h' : lapsesUntold b u) : lapsesUntold s u :=
  fun q x hx hc => h q x (h' q x hx hc) hc

theorem lapsesUntold_of_noNotice (h : ∀ q, noNotice q s u) : lapsesUntold s u := fun q x hx _ => by
  obtain ⟨hn, -⟩ := h q
  rwa [hn] at hx

theorem lapsesUntold_of_ports (h : u.ports = s.ports) : lapsesUntold s u :=
  lapsesUntold_of_noNotice fun _ => noNotice_of_ports h

theorem lapsesUntold_foldl {α : Type} {f : State → α → State} (h : ∀ b a, lapsesUntold b (f b a)) (l : List α) (s : State) :
    lapsesUntold s (l.foldl f s) := by
  induction l generalizing s with
  | nil => exact lapsesUntold_of_ports rfl
  | cons a l ih => exact lapsesUntold_trans (h s a) (ih _)

section
variable (s)

theorem lapsesUntold_answer (o : Origin) (code : Byte) (outcome : AnswerOutcome) (body : AnswerBody) :
    lapsesUntold s (answer o code outcome body s) := lapsesUntold_of_noNotice fun q => noNotice_answer _ _ _ _ q s

theorem lapsesUntold_addNotice (p : Port) (hn : n.code ≠ 7) : lapsesUntold s (addNotice p n s) := fun q x hx hc => by
  by_cases hp : p = q
  · subst hp
    cases hj : s.joined p with
    | false => rwa [addNotice_absent n hj] at hx
    | true =>
      rw [addNotice_self n hj] at hx
      rcases addToSet_old hx with h | rfl | ⟨a, rfl⟩
      · exact h
      · exact absurd hc hn
      · cases hc
  · rwa [addNotice_other hp] at hx

theorem lapsesUntold_notifyJoined (but : Option Port) (hn : n.code ≠ 7) : lapsesUntold s (notifyJoined but n s) := by
  rw [notifyJoined_eq]
  exact lapsesUntold_foldl (fun b p => lapsesUntold_addNotice b p hn) _ s

theorem lapsesUntold_reportVolume (v : Nat) : lapsesUntold s (reportVolume v s) :=
  lapsesUntold_trans (lapsesUntold_of_ports (u := { s with watches := s.watches.filter (fun w => !watchHit s v w) }) rfl)
    (lapsesUntold_foldl (fun b _ => lapsesUntold_answer b _ _ _ _) _ _)

theorem lapsesUntold_endWatches (p : Port) (r : Reason) : lapsesUntold s (endWatches p r s) :=
  lapsesUntold_trans (lapsesUntold_of_ports (u := { s with watches := s.watches.filter (fun w => decide (w.port ≠ p)) }) rfl)
    (lapsesUntold_foldl (fun b _ => lapsesUntold_answer b _ _ _ _) _ _)

theorem lapsesUntold_endClaims (p : Port) (r : Reason) (c : List (Nat × Tag)) : lapsesUntold s (endClaims p r c s) :=
  lapsesUntold_foldl (fun b _ => lapsesUntold_answer b _ _ _ _) c s

theorem lapsesUntold_judgeLevel (k : PoolId) : lapsesUntold s (judgeLevel k s) := by
  unfold judgeLevel
  split
  · exact lapsesUntold_of_ports rfl
  · exact lapsesUntold_trans (lapsesUntold_of_ports (u := s.updatePool k _) rfl)
      (lapsesUntold_notifyJoined _ none (by simp [Notice.code]))

theorem lapsesUntold_releaseOldest (x : Batch) (rest : List Batch) : lapsesUntold s (releaseOldest x rest s) := by
  have h : lapsesUntold s (returnBatch x rest s) := lapsesUntold_judgeLevel
    (s := State.updatePool x.pool _ { s with grace := rest, spans := x.extents.foldl (fun sp e => returnExtent e sp) s.spans }) x.pool
  exact lapsesUntold_trans h (lapsesUntold_of_ports (releaseOldest_keeps State.ports x rest s))

theorem Releases.lapsesUntold {l : List Batch} (h : Releases l s u) : lapsesUntold s u := by
  induction h with
  | stop s => exact lapsesUntold_of_ports rfl
  | oldest _ _ _ ih => exact lapsesUntold_trans (lapsesUntold_releaseOldest _ _ _) ih

theorem lapsesUntold_releaseTest : lapsesUntold s (releaseTest s) := by
  obtain ⟨l, h⟩ := releaseLoop_releases s.grace.length s
  exact h.lapsesUntold

theorem lapsesUntold_announceTo (o : Option Port) (v : Option Nat) (g : Gen) (p : Port) :
    lapsesUntold s (announceTo o v g s p) := by
  have hgen (b : State) : lapsesUntold b (addNotice p (.generation g) b) :=
    lapsesUntold_addNotice b p (by simp [Notice.code])
  unfold announceTo
  split
  · exact lapsesUntold_of_ports rfl
  · cases v with
    | none => exact hgen s
    | some v => exact lapsesUntold_trans (lapsesUntold_addNotice s p (by simp [Notice.code])) (hgen _)

theorem lapsesUntold_dropGrant (o : Option Port) (n : Nat) : lapsesUntold s (dropGrant o n s) := by
  cases hg : s.grant? n with
  | none => rw [dropGrant_none o n s hg]; exact lapsesUntold_of_ports rfl
  | some g =>
    rw [dropGrant_some o n g s hg]
    obtain ⟨l, h⟩ := formBatch_releases (s.volume g.volume).pool (g.extents.map Prod.snd) o g.invalidates (dropped n g s)
    refine lapsesUntold_trans (lapsesUntold_of_ports (dropped_ports n g s)) (lapsesUntold_trans ?_ h.lapsesUntold)
    unfold batched
    rw [announceBatch_eq]
    exact lapsesUntold_foldl (fun b p => lapsesUntold_announceTo b _ _ _ p) _ { dropped n g s with
      generation := _, grace := _, stall := _ }

theorem lapsesUntold_loseLease (v : Nat) (orphan : Bool) (empty : Hold) : lapsesUntold s (loseLease v orphan empty s) := by
  have hset (l : Lease) : lapsesUntold s (s.setLease v l) := lapsesUntold_of_ports rfl
  cases hw : (s.lease v).waiters with
  | nil =>
    rw [loseLease_empties orphan empty hw]
    exact lapsesUntold_trans (hset _) (lapsesUntold_reportVolume _ v)
  | cons w rest =>
    rw [loseLease_passes orphan empty hw, passLease_eq]
    refine lapsesUntold_trans (lapsesUntold_trans (hset ⟨w.holds rest s.timing.recallTicks, (s.lease v).epoch + 1, rest⟩) ?_)
      (lapsesUntold_reportVolume _ v)
    unfold handed
    dsimp only
    split
    · exact lapsesUntold_answer _ _ _ _ _
    · exact lapsesUntold_trans (lapsesUntold_answer _ _ _ _ _) (lapsesUntold_addNotice _ _ (by simp [Notice.code]))

theorem lapsesUntold_departWaiter (p : Port) (v : Nat) : lapsesUntold s (departWaiter p v s) := by
  have hset : lapsesUntold s (s.setLease v ((s.lease v).without p)) := lapsesUntold_of_ports rfl
  rcases departWaiter_eq p v s with h | ⟨holder, -, -, h⟩
  · rw [h]; exact hset
  · rw [h]; exact lapsesUntold_trans hset (lapsesUntold_addNotice _ holder (by simp [Notice.code]))

/-- A departure sends no HEAD_LAPSED. -/
theorem lapsesUntold_departed (p : Port) (orphan : Bool) (empty : Hold) (r : Reason) :
    lapsesUntold s (departed p orphan empty r s) :=
  lapsesUntold_trans (lapsesUntold_foldl (fun b v => lapsesUntold_loseLease b v orphan empty) _ s)
    (lapsesUntold_trans (lapsesUntold_foldl (fun b (c : Nat × Tag) => lapsesUntold_departWaiter b p c.1) _ _)
      (lapsesUntold_trans (lapsesUntold_endClaims _ p r _) (lapsesUntold_endWatches _ p r)))

end

/-! ## The departure of a member that leaves -/

/-- The state of a Leave before the release condition is tested: the head is ABSENT and has departed. -/
def leaving (p : Port) (s : State) : State :=
  departed p false .free .cancelled (dropGrants none (stagedOf s p) (setHead p .absent s))

theorem leaveHead_eq (p : Port) (s : State) : leaveHead p s = releaseTest (leaving p s) := rfl

/-- A Leave moves, besides the head's entry and its fence line, what the drop of grants and the loss of leases move. -/
theorem leaveHead_lost (p : Port) (s : State) : (leaveHead p s).eraseLost = (setHead p .absent s).eraseLost := by
  rw [leaveHead_eq, lost_of_drop (batch_drop (releaseTest_erase _))]
  unfold leaving
  rw [lost_of_lease (departed_erase p false .free .cancelled _), lost_of_drop (dropGrants_erase _ _ _)]

theorem lost_lapse (s : State) : s.eraseLost.eraseLapse = s.eraseLapse := rfl

theorem taken_lapse (p : Port) (t : Tag) (s : State) : (taken p t s).eraseLapse = s.eraseLapse := rfl

theorem setHead_lapse (p : Port) (h : Head) (s : State) : (setHead p h s).eraseLapse = s.eraseLapse := rfl

theorem lapse_of_lost {h : Head} (hu : u.eraseLost = (setHead p h s).eraseLost) : u.eraseLapse = s.eraseLapse := by
  rw [← lost_lapse u, hu, lost_lapse, setHead_lapse]

theorem lapsesUntold_leaveHead (p : Port) (s : State) : lapsesUntold s (leaveHead p s) :=
  lapsesUntold_trans (lapsesUntold_of_ports (u := setHead p .absent s) rfl)
    (lapsesUntold_trans (lapsesUntold_foldl (fun b n => lapsesUntold_dropGrant b none n) _ _)
      (lapsesUntold_trans (lapsesUntold_departed _ p false .free .cancelled) (lapsesUntold_releaseTest _)))

theorem leaveHead_grows (p : Port) (s : State) : portsGrow s (leaveHead p s) :=
  portsGrow_after (b := setHead p .absent s) (portsGrow_trans (dropGrants_grows _ _ _)
    (portsGrow_trans (departed_grows p false .free .cancelled _) (releaseTest_grows _))) rfl

/-- The head that leaves, and one that is not JOINED, is sent nothing. -/
theorem leaveHead_noNotice (hw : Table.wfD .fresh s.leases = true) (hl : leaseLaw s) (hq : q = p ∨ s.joined q = false) :
    noNotice q s (leaveHead p s) := by
  have hj : (setHead p .absent s).joined q = false := by
    by_cases h : q = p
    · subst h
      unfold State.joined setHead
      dsimp only
      rw [putAt_get_self]
      rfl
    · rw [setHead_joined_other _ h]; exact hq.resolve_left h
  have hd := tells_dropGrants none (stagedOf s p) q (setHead p .absent s)
  have hleases : (dropGrants none (stagedOf s p) (setHead p .absent s)).leases = s.leases :=
    (keeps_of_erase State.leases (dropGrants_erase none (stagedOf s p) (setHead p .absent s)) (fun _ => rfl)).trans rfl
  have ht := hd.trans (tells_departed (p := p) (orphan := false) (empty := .free) (r := .cancelled) (hleases ▸ hw)
    ((leaseLaw_congr hleases).mpr hl) rfl q)
  exact (ht.trans (tells_releaseTest q _)).absent hj

/-- What follows a departure at the ports alone settles nothing more. -/
theorem settles_of_erasePorts (h : u.erasePorts = s.erasePorts) (hg : portsGrow s u) : Settles [] s u where
  served := served_of_erasePorts h
  grace := ⟨[], (keeps_of_erasePorts State.grace h).symm⟩
  reserved k := by rw [keeps_of_erasePorts State.pools h]
  generation := keeps_of_erasePorts State.generation h
  erased := ports_batch h
  grows := hg

/-- A departure from the state in which a request was taken and its head's entry has changed is one from the state before. -/
theorem departs_of_taken {h : Head} (hd : departs p left orphan r granted (setHead q h (taken p t s)) u) :
    departs p left orphan r granted s u := by
  have hlink : (setHead q h (taken p t s)).linkUp = s.linkUp := taken_linkUp_eq p t s
  unfold departs leasesLeft watchesLeft at hd
  rw [hlink] at hd
  exact hd

theorem exec_leave (ha : admits s p t) :
    exec (.leave p t) s = .next (answer ⟨p, t⟩ 0x03 .done .empty (leaveHead p (taken p t s))) :=
  request_admits .leave _ ha

/-- Settles O30: the member departs, the batches that its absence frees are released, and the Leave is answered. -/
theorem leaveEndsMembership : Obligations.LeaveEndsMembership := by
  intro p t s ha htab hl
  obtain ⟨-, -, -, -, hg, hw, -⟩ := htab
  obtain ⟨b, hb⟩ : ∃ b, b = leaveHead p (taken p t s) := ⟨_, rfl⟩
  obtain ⟨u, hu⟩ : ∃ u, u = answer ⟨p, t⟩ 0x03 .done .empty b := ⟨_, rfl⟩
  obtain ⟨g₁, hs₁, hd⟩ := departs_departed (s := setHead p .absent (taken p t s)) p false .cancelled hg hw hl
    (empty := .free) rfl (u := leaving p (taken p t s)) rfl
  obtain ⟨g₂, hset⟩ := settles_releaseTest (s := leaving p (taken p t s)) rfl (portsGrow_refl _)
  rw [← leaveHead_eq, ← hb] at hset
  have hu' : u.erasePorts = b.erasePorts := hu ▸ answer_erase _ _ _ _ _
  have hlost : u.eraseLost = (setHead p .absent (taken p t s)).eraseLost := by
    rw [lost_of_drop (ports_drop hu'), hb, leaveHead_lost]
  have hbg : portsGrow (taken p t s) b := hb ▸ leaveHead_grows p _
  have hlink : b.linkUp p = true := (portsGrow_linkUp hbg p).trans ((taken_linkUp p).trans (admits_linkUp ha))
  have hend := settles_of_erasePorts hu' (hu ▸ answer_grows _ _ _ _ _)
  obtain ⟨hs₂, -⟩ := hset.served
  refine ⟨u, g₁ ++ g₂ ++ [], ?_, ?_, keeps_of_erase State.heads hlost (fun _ => rfl),
    keeps_of_erase State.fences hlost (fun _ => rfl), departs_of_taken (departs_settles hend (departs_settles hset hd)),
    fun q hq => ?_, ?_, ?_, portsGrow_trans hbg hend.grows, ?_⟩
  · rw [hu, hb]
    exact exec_leave ha
  · exact serves_trans (serves_trans hs₁ hs₂) hend.served.1
  · refine noNotice_trans (noNotice_taken p q t s) (noNotice_trans (b := b) ?_ (hu ▸ noNotice_answer _ _ _ _ q b))
    rw [hb]
    exact leaveHead_noNotice (s := taken p t s) hw hl hq
  · refine lapsesUntold_trans (lapsesUntold_of_noNotice fun q => noNotice_taken p q t s) (lapsesUntold_trans (b := b) ?_ ?_)
    · exact hb ▸ lapsesUntold_leaveHead p _
    · exact hu ▸ lapsesUntold_answer b _ _ _ _
  · rw [keeps_of_erasePorts State.generation hu', hu]
    exact answer_lastAnswer _ _ _ hlink
  · exact eraseLapse_touches ((lapse_of_lost hlost).trans (taken_lapse p t s))

end Sys2Proof.Machine
end

section
/-! PROOFS. Renew (R99): its checks, the acknowledgement that it records, and the batches that this lets go (R112, R114, R122). -/

namespace Sys2Proof.Machine

open State

variable {p : Port} {s u b : State} {t : Tag} {i : BitVec 32} {a : Gen} {m : Member} {l : List Batch} {rest : List Batch}

/-! ## The release condition, tested to its end -/

/-- The test releases the oldest batches that are acknowledged, and stops at the first that is not. -/
theorem releaseLoop_grace (n : Nat) (hn : s.grace.length ≤ n) :
    (releaseLoop n s).grace = s.grace.dropWhile (fun b => acknowledged s b.tag) := by
  induction n generalizing s with
  | zero => rw [List.length_eq_zero_iff.mp (Nat.le_zero.mp hn)]; exact List.length_eq_zero_iff.mp (Nat.le_zero.mp hn)
  | succ n ih =>
    unfold releaseLoop
    split
    · rename_i hg
      rw [hg]
      rfl
    · rename_i x rest hg
      split
      · rename_i hx
        have hrest := releaseOldest_grace x rest s
        have hlen : rest.length ≤ n := by rw [hg, List.length_cons] at hn; omega
        have hack (c : Batch) : acknowledged (releaseOldest x rest s) c.tag = acknowledged s c.tag :=
          acknowledged_congr (keeps_of_erase State.heads (releaseOldest_erase x rest s) (fun _ => rfl))
        rw [ih (by rw [hrest]; exact hlen), hrest, hg, List.dropWhile_cons_of_pos (p := fun c : Batch => acknowledged s c.tag) hx]
        simp only [hack]
      · rename_i hx
        rw [hg, List.dropWhile_cons_of_neg (p := fun c : Batch => acknowledged s c.tag) hx]

theorem releaseTest_grace (s : State) :
    (releaseTest s).grace = s.grace.dropWhile (fun b => acknowledged (releaseTest s) b.tag) := by
  have hack (c : Batch) : acknowledged (releaseTest s) c.tag = acknowledged s c.tag :=
    acknowledged_congr (keeps_of_erase State.heads (releaseTest_erase s) (fun _ => rfl))
  simp only [hack]
  exact releaseLoop_grace s.grace.length le_rfl

/-- A release leaves no deletion paused while the admission count has room (R112 step 5, R114). -/
theorem releaseOldest_full (x : Batch) (rest : List Batch) (s : State) :
    (releaseOldest x rest s).admissionWait = [] ∨ 3072 ≤ (releaseOldest x rest s).admission := by
  obtain ⟨granted, ⟨hwait, -, hpromises⟩, hlen, -⟩ := releaseOldest_serves x rest s
  refine or_iff_not_imp_left.mpr fun hne => ?_
  have hpos := List.length_pos_of_ne_nil hne
  rw [hwait, List.length_append] at hlen
  unfold State.admission
  rw [releaseOldest_grace, hpromises]
  omega

theorem Releases.full (h : Releases l s u) (hl : l ≠ []) : u.admissionWait = [] ∨ 3072 ≤ u.admission := by
  induction h with
  | stop s => exact absurd rfl hl
  | @oldest x rest l s u hg ha h ih =>
    cases h with
    | stop => exact releaseOldest_full x rest s
    | oldest hg' ha' h' => exact ih (List.cons_ne_nil _ _)

/-! ## The member record -/

theorem renewed_same (h : a.toNat ≤ m.ack.toNat) : renewed m a s = { m with liveness := s.timing.live } := by
  unfold renewed
  rw [if_neg (Nat.not_lt.mpr h)]

theorem renewed_higher (h : m.ack.toNat < a.toNat) :
    renewed m a s = ⟨m.incarnation, a, s.timing.live, dueAfter m.due a s.stall⟩ := by
  unfold renewed
  rw [if_pos h]

theorem dueAfter_unwarned {due : Bool} {stall : Stall} (h : ∀ c tag, stall ≠ .warned c tag) : dueAfter due a stall = due := by
  cases stall with
  | warned c tag => exact absurd rfl (h c tag)
  | quiet c => rfl
  | stopped => rfl

/-! ## The judgement -/

theorem exec_renew (h : admits s p t) (i : BitVec 32) (a : Gen) :
    exec (.renew p t i a) s = .next (judgeRenew ⟨p, t⟩ i a (taken p t s)) := request_admits .renew _ h

section
variable (hm : s.heads.get p = .joined m)
include hm

theorem judgeRenew_stale (hi : m.incarnation ≠ i) :
    judgeRenew ⟨p, t⟩ i a s = refuse ⟨p, t⟩ .renew .staleIncarnation s := by
  unfold judgeRenew
  rw [hm]
  exact if_pos hi

theorem judgeRenew_range (hi : m.incarnation = i) (hg : s.generation.toNat < a.toNat) :
    judgeRenew ⟨p, t⟩ i a s = refuse ⟨p, t⟩ .renew .range s := by
  unfold judgeRenew
  rw [hm]
  exact (if_neg (not_not.mpr hi)).trans (if_pos hg)

/-- An acknowledgement that is not higher loads the countdown. -/
theorem judgeRenew_same (hi : m.incarnation = i) (hg : a.toNat ≤ s.generation.toNat) (ha : a.toNat ≤ m.ack.toNat) :
    judgeRenew ⟨p, t⟩ i a s = answer ⟨p, t⟩ 0x02 .done
      (.renewed m.ack s.timing.live m.due (s.grace.head?.map Batch.tag) s.generation)
      (setHead p (.joined { m with liveness := s.timing.live }) s) := by
  unfold judgeRenew
  rw [hm]
  refine (if_neg (not_not.mpr hi)).trans ((if_neg (Nat.not_lt.mpr hg)).trans ?_)
  rw [renewed_same ha]
  dsimp only
  rw [if_neg (Nat.not_lt.mpr ha)]
  rfl

/-- A higher acknowledgement is recorded, and the release condition tested. -/
theorem judgeRenew_higher (hi : m.incarnation = i) (hg : a.toNat ≤ s.generation.toNat) (ha : m.ack.toNat < a.toNat)
    (hb : b = releaseTest (setHead p (.joined ⟨i, a, s.timing.live, dueAfter m.due a s.stall⟩) s)) :
    judgeRenew ⟨p, t⟩ i a s = answer ⟨p, t⟩ 0x02 .done
      (.renewed a s.timing.live (dueAfter m.due a s.stall) (b.grace.head?.map Batch.tag) b.generation) b := by
  unfold judgeRenew
  rw [hm]
  refine (if_neg (not_not.mpr hi)).trans ((if_neg (Nat.not_lt.mpr hg)).trans ?_)
  rw [renewed_higher ha, hi]
  dsimp only
  rw [if_pos ha, ← hb]
  rfl

end

/-- What a release of batches behind a change of one head's entry leaves as it was. -/
theorem renewed_touches {h : Head} (he : u.eraseBatch = (setHead p h s).eraseBatch) (hg : u.generation = s.generation) :
    u = { s with
      heads := u.heads, fences := u.fences, ports := u.ports, spans := u.spans, pools := u.pools, grace := u.grace,
      stall := u.stall, promises := u.promises, admissionWait := u.admissionWait, deletionsDue := u.deletionsDue,
      volumes := u.volumes } := by
  have htouches : u = { s with
      heads := u.heads, fences := u.fences, ports := u.ports, spans := u.spans, pools := u.pools, grace := u.grace,
      stall := u.stall, promises := u.promises, admissionWait := u.admissionWait, deletionsDue := u.deletionsDue,
      volumes := u.volumes, generation := u.generation } :=
    (congrArg (fun y : State => { y with
      heads := u.heads, fences := u.fences, ports := u.ports, spans := u.spans, pools := u.pools, grace := u.grace,
      stall := u.stall, promises := u.promises, admissionWait := u.admissionWait, deletionsDue := u.deletionsDue,
      volumes := u.volumes, generation := u.generation }) he :)
  rwa [hg] at htouches

/-- Settles O29: the three Renews that release nothing are one answer each; a higher acknowledgement is recorded before the release
condition is tested. -/
theorem renewAcknowledges : Obligations.RenewAcknowledges := by
  intro p t i a m s ha hm
  have hup := admits_linkUp ha
  refine ⟨fun hi => ?_, fun hi hg => ?_, fun hi hg hle => ?_, fun hi hg hlt => ?_⟩
  · rw [exec_renew ha, judgeRenew_stale (s := taken p t s) hm hi]
    exact congrArg _ (refuse_taken .renew .staleIncarnation hup)
  · rw [exec_renew ha, judgeRenew_range (s := taken p t s) hm hi hg]
    exact congrArg _ (refuse_taken .renew .range hup)
  · rw [exec_renew ha, judgeRenew_same (s := taken p t s) hm hi hg hle, answer_setHead, answer_taken _ _ _ hup]
    rfl
  · obtain ⟨e, he⟩ : ∃ e, e = setHead p (.joined ⟨i, a, s.timing.live, dueAfter m.due a s.stall⟩) (taken p t s) := ⟨_, rfl⟩
    obtain ⟨b, hb⟩ : ∃ b, b = releaseTest e := ⟨_, rfl⟩
    obtain ⟨l, hr⟩ := releaseLoop_releases e.grace.length e
    rw [show releaseLoop e.grace.length e = b from hb.symm] at hr
    obtain ⟨granted, hs⟩ := hr.served
    have hexec := (exec_renew ha i a).trans
      (congrArg _ (judgeRenew_higher (s := taken p t s) (t := t) hm hi hg hlt (hb.trans (congrArg _ he))))
    obtain ⟨u, hu⟩ : ∃ u, u = answer ⟨p, t⟩ 0x02 .done (.renewed a (taken p t s).timing.live
      (dueAfter m.due a (taken p t s).stall) (b.grace.head?.map Batch.tag) b.generation) b := ⟨_, rfl⟩
    have hub : u.erasePorts = b.erasePorts := hu ▸ answer_erase _ _ _ _ _
    have hbe : u.eraseBatch = e.eraseBatch := (ports_batch hub).trans hr.erase
    have hgrace : u.grace = b.grace := keeps_of_erasePorts State.grace hub
    have hgen : b.generation = s.generation := hr.generation.trans (by rw [he]; rfl)
    have hgrows : portsGrow (taken p t s) b :=
      portsGrow_after (b := e) (hb ▸ releaseTest_grows e) (by rw [he]; rfl)
    have hserved : served (granted ++ []) s u := served_trans (by rw [he] at hs; exact hs) (served_of_erasePorts hub)
    have hsame : e.grace = s.grace := by rw [he]; rfl
    refine ⟨u, dueAfter m.due a s.stall, granted ++ [], hexec.trans (congrArg _ hu.symm), fun c tag h => by rw [h]; rfl,
      dueAfter_unwarned, ?_, ?_, ?_, ?_, hserved.1, hserved.2, fun hne => ?_, portsGrow_trans hgrows ?_, ?_⟩
    · rw [keeps_of_erase State.heads hbe (fun _ => rfl), he]
      rfl
    · rw [keeps_of_erase State.fences hbe (fun _ => rfl), he]
      rfl
    · have hack (c : Batch) : acknowledged u c.tag = acknowledged b c.tag :=
        acknowledged_congr (keeps_of_erasePorts State.heads hub)
      simp only [hack]
      rw [hgrace, hb, releaseTest_grace, hsame]
    · rw [hgrace, ← hgen, hu]
      exact answer_lastAnswer _ _ _ ((portsGrow_linkUp hgrows p).trans ((taken_linkUp p).trans hup))
    · rw [keeps_of_erasePorts State.admissionWait hub, keeps_of_erasePorts State.admission hub]
      refine hr.full fun hnil => hne ?_
      rw [hgrace, ← hsame, hr.grace, hnil, List.nil_append]
    · exact hu ▸ answer_grows _ _ _ _ _
    · exact renewed_touches (s := taken p t s) (by rw [hbe, he])
        ((keeps_of_erasePorts State.generation hub).trans hgen)

end Sys2Proof.Machine
end

section
/-! PROOFS. The law of the generations (R99, R110, R112) at the end of the range of G: a state whose bound leaves out a batch that the
step forms. -/

namespace Sys2Proof.Machine

open State

/-! ## A request that the bound does not count -/

/-- The last value of G. -/
def lastGeneration : Gen := BitVec.allOnes 64

/-- A member that has acknowledged the last value of G. -/
def upToDate : Member := ⟨0, lastGeneration, 0, false⟩

/-- A CompleteRelocate whose forming batch holds an extent. -/
def strayRequest : Request := .completeRelocate 0 0 ⟨0, [⟨0, 0⟩]⟩

/-- The part is SERVING at the last value of G, head 0 has acknowledged it, and a CompleteRelocate stands in the shelf change queue,
whose waiting requests `batchBound` does not count. A write-back is under way, and its failure is the next event. -/
def lastServing : State :=
  { State.cold MapStore.factory with
    mode := .serving
    heads := putAt (Vector.replicate 4 .absent) 0 (.joined upToDate)
    generation := lastGeneration
    shelf := ⟨none, [⟨strayRequest, none⟩]⟩
    writeBacks := [.config]
    pending := [.storeWriteFailed (.writeBack .config)] }

/-- The state after the failure. The due steps form the intent of the request; the freeze settles its forming batch, which takes the
tag that follows the last value of G. -/
def wrapped : State := failWriteBack .config (finishDue { lastServing with pending := [] })

theorem step_lastServing : step lastServing = .next wrapped := rfl

theorem lastServing_head (q : Port) (m : Member) (h : lastServing.heads.get q = .joined m) : m = upToDate := by
  have hall : ∀ q : Port, lastServing.heads.get q = if q = 0 then .joined upToDate else .absent := by decide
  rw [hall] at h
  split at h
  · exact (Head.joined.inj h).symm
  · cases h

theorem tablesLaw_lastServing : tablesLaw lastServing :=
  ⟨rfl, rfl, rfl, nofun, rfl, rfl, rfl, rfl, rfl, rfl, nofun, rfl⟩

theorem generationLaw_lastServing : generationLaw lastServing :=
  ⟨nofun, .nil, nofun, fun q m h => by rw [lastServing_head q m h]; exact le_rfl⟩

/-- No batch is counted, so that G is within the bound. -/
theorem lastServing_bound : lastServing.generation.toNat + batchBound lastServing < 2 ^ 64 := by decide

theorem wrapped_generation : wrapped.generation = 0 := by decide +kernel

theorem wrapped_head : wrapped.heads.get 0 = .joined upToDate := by decide +kernel

/-- Refutes O9: its second half bounds G by `batchBound`, which leaves out the requests of the shelf change queue. A CompleteRelocate that
stands there, as it does in no run, forms its intent as a due step of the event, and the freeze that the event brings forms its
batch: G wraps to 0, below what head 0 has acknowledged. -/
theorem not_noReleaseBeforeAcknowledgement : ¬ Obligations.NoReleaseBeforeAcknowledgement := by
  intro h
  obtain ⟨-, hkept⟩ := h lastServing wrapped step_lastServing
  obtain ⟨-, -, -, hack⟩ := hkept tablesLaw_lastServing generationLaw_lastServing lastServing_bound
  have hle := hack 0 upToDate wrapped_head
  rw [wrapped_generation] at hle
  exact absurd hle (by decide)

end Sys2Proof.Machine
end

section
/-! PROOFS. The head table, the fence lines and the commands that wait, under the shared operations and the path of a
durable change: none of them moves any of the three. -/

namespace Sys2Proof.Machine

open State

variable {s u : State}

/-! ## The roster -/

/-- What the operations of the membership and the resets alone move, the head table and the fence lines, and the commands that
wait. -/
def State.roster (s : State) : Vector Head 4 × Vector Fence 4 × List Instr := (s.heads, s.fences, s.pending)

/-- What reads none of the fields that an erasure drops is kept, the roster too. -/
theorem roster_of_erase {e : State → State} (h : e u = e s) (he : ∀ t : State, (e t).roster = t.roster := by intro; rfl) :
    u.roster = s.roster := keeps_of_erase State.roster h he

theorem roster_ite {c : Prop} [Decidable c] {a b : State} (ha : a.roster = s.roster) (hb : b.roster = s.roster) :
    (if c then a else b).roster = s.roster := by
  split
  · exact ha
  · exact hb

theorem roster_foldl {α : Type} {f : State → α → State} (hf : ∀ b a, (f b a).roster = b.roster) (l : List α) (s : State) :
    (l.foldl f s).roster = s.roster := foldl_keeps State.roster f hf l s

/-! ## Shared operations -/

section
variable (o : Origin) (code : Byte) (outcome : AnswerOutcome) (body : AnswerBody) (kind : RequestKind) (r : Reason)
  (p : Port) (n : Notice) (v : Nat) (q : QueueId) (o? : Option Origin) (but : Option Port) (s : State)

@[simp] theorem roster_answer : (answer o code outcome body s).roster = s.roster := roster_of_erase (answer_erase _ _ _ _ _)

@[simp] theorem roster_answer? : (answer? o? code outcome body s).roster = s.roster :=
  roster_of_erase (answer?_erase _ _ _ _ _)

@[simp] theorem roster_refuse : (refuse o kind r s).roster = s.roster := roster_answer _ _ _ _ _

@[simp] theorem roster_refuseWith : (refuseWith o kind r body s).roster = s.roster := roster_answer _ _ _ _ _

@[simp] theorem roster_refuseItem : (refuseItem o? kind r body s).roster = s.roster := roster_answer? _ _ _ _ _

@[simp] theorem roster_addNotice : (addNotice p n s).roster = s.roster := roster_of_erase (addNotice_erase _ _ _)

@[simp] theorem roster_notifyJoined : (notifyJoined but n s).roster = s.roster := roster_of_erase (notifyJoined_erase _ _ _)

@[simp] theorem roster_reportVolume : (reportVolume v s).roster = s.roster := roster_of_erase (reportVolume_erase _ _)

@[simp] theorem roster_setLatch (b : Bool) : (setLatch v b s).roster = s.roster := setLatch_keeps State.roster v b s

@[simp] theorem roster_setQueue (c : ChangeQueue) : (s.setQueue q c).roster = s.roster := by cases q <;> rfl

@[simp] theorem roster_endFlight : (endFlight q s).roster = s.roster := roster_setQueue _ _ _

@[simp] theorem roster_enqueue (x : Request) : (enqueue x o s).roster = s.roster := roster_setQueue _ _ _

@[simp] theorem roster_formIntent (flight : Flight) (i : Intent) : (formIntent flight i s).roster = s.roster :=
  formIntent_keeps State.roster flight i s

@[simp] theorem roster_continueDeletion : (continueDeletion v s).roster = s.roster := continueDeletion_keeps State.roster v s

@[simp] theorem roster_setVolume (x : Volume) : (s.setVolume v x).roster = s.roster := rfl

@[simp] theorem roster_setGrant (g : Grant) : (s.setGrant v g).roster = s.roster := rfl

@[simp] theorem roster_freeGrant : (s.freeGrant v).roster = s.roster := rfl

@[simp] theorem roster_setLease (l : Lease) : (s.setLease v l).roster = s.roster := rfl

@[simp] theorem roster_lowerPending (m : Nat) : (lowerPending v m s).roster = s.roster := lowerPending_keeps State.roster v m s

@[simp] theorem roster_raiseMapped : (raiseMapped v s).roster = s.roster := raiseMapped_keeps State.roster v s

@[simp] theorem roster_lowerMapped : (lowerMapped v s).roster = s.roster := lowerMapped_keeps State.roster v s

@[simp] theorem roster_judgeLevel (k : PoolId) : (judgeLevel k s).roster = s.roster := judgeLevel_keeps State.roster k s

@[simp] theorem roster_releaseTest : (releaseTest s).roster = s.roster := roster_of_erase (releaseTest_erase s)

@[simp] theorem roster_formPromised (f : Forming) : (formPromised f but v s).roster = s.roster :=
  roster_of_erase (formPromised_erase f but v s)

@[simp] theorem roster_dropGrant (g : Nat) : (dropGrant but g s).roster = s.roster := roster_of_erase (dropGrant_erase but g s)

@[simp] theorem roster_dropGrants (l : List Nat) : (dropGrants but l s).roster = s.roster :=
  roster_of_erase (dropGrants_erase but l s)

@[simp] theorem roster_loseLease (orphan : Bool) (empty : Hold) : (loseLease v orphan empty s).roster = s.roster :=
  roster_of_erase (loseLease_erase v orphan empty s)

@[simp] theorem roster_departWaiter : (departWaiter p v s).roster = s.roster := roster_of_erase (departWaiter_erase p v s)

@[simp] theorem roster_departAll : (departAll p s).roster = s.roster := roster_of_erase (departAll_erase p s)

/-! ## Faults and reads (R159, R160, R162) -/

@[simp] theorem roster_storeFault (src : FaultSource) (fault : FaultKind) (area : StoreArea) :
    (storeFault src fault area s).roster = s.roster := by
  unfold storeFault
  refine roster_ite rfl ?_
  split
  · exact (freeze_keeps State.roster _ _).trans rfl
  · rfl
  · rfl

@[simp] theorem roster_correctedRead (a : StoreArea) : (correctedRead a s).roster = s.roster :=
  roster_storeFault s (areaSource a) .corrected a

@[simp] theorem roster_poisonedRead (i : Nat) : (poisonedRead v i s).roster = s.roster :=
  (roster_storeFault { s with poison := insertPair v i s.poison } .mapStore .uncorrectable (.entry v i)).trans rfl

@[simp] theorem roster_readCells (l : List (Nat × ReadFault)) : (readCells v l s).1.roster = s.roster := by
  induction l generalizing s with
  | nil => rfl
  | cons e l ih =>
    obtain ⟨i, f⟩ := e
    cases f with
    | corrected => exact (ih _).trans (roster_correctedRead _ _)
    | uncorrectable => exact roster_poisonedRead v s i

@[simp] theorem roster_resolveCells (l : List (Nat × ReadFault)) : (resolveCells v l s).roster = s.roster := by
  induction l generalizing s with
  | nil => rfl
  | cons e l ih =>
    obtain ⟨i, f⟩ := e
    cases f with
    | corrected => exact (ih _).trans (roster_correctedRead _ _)
    | uncorrectable => exact (ih _).trans (roster_poisonedRead v s i)

end

/-- The state behind a request's reads. -/
theorem roster_of_readCells {v : Nat} {l : List (Nat × ReadFault)} {b : Bool} (h : readCells v l s = (u, b)) :
    u.roster = s.roster := by
  have := roster_readCells v s l
  rwa [h] at this

/-! ## Validation (R142, Table 8-1) -/

section
variable (v : Nat) (o : Option Origin) (reads : Reads) (s : State)

@[simp] theorem roster_formDeletion : (formDeletion reads s).roster = s.roster := by
  unfold formDeletion
  split
  · rfl
  · refine roster_ite ((roster_formIntent _ _ _).trans rfl) ?_
    unfold formRemoval
    dsimp only
    split
    · rename_i hr
      exact roster_of_readCells hr
    · rename_i u hr
      rw [roster_formIntent]
      exact (roster_of_readCells hr : u.roster = s.roster)

theorem roster_validateCreate (t : Nat) (pool : PoolId) (size : Nat) (mode : VolState) :
    (validateCreate v t pool size mode o s).roster = s.roster := by
  unfold validateCreate
  split <;> simp

theorem roster_validateDelete : (validateDelete v o s).roster = s.roster := by
  unfold validateDelete
  refine roster_ite (by simp) (roster_ite (by simp) ?_)
  dsimp only
  rw [roster_reportVolume, roster_formIntent, roster_of_erase (refuseBehind_erase _ _), roster_setQueue]
  rfl

theorem roster_validateResize (size : Nat) : (validateResize v size o reads s).roster = s.roster := by
  unfold validateResize
  refine roster_ite (by simp) (roster_ite (by simp) (roster_ite (by simp) ?_))
  split
  · rename_i hr
    simpa using roster_of_readCells hr
  · rename_i hr
    have hb := roster_of_readCells hr
    exact roster_ite (by simpa) (by simpa)

theorem roster_validateNote (i : Nat) (written : Mask) : (validateNote v i written o reads s).roster = s.roster := by
  unfold validateNote
  refine roster_ite (by simp) (roster_ite (by simp) (roster_ite (by simp) ?_))
  split
  · rename_i hr
    simpa using roster_of_readCells hr
  · rename_i hr
    have hb := roster_of_readCells hr
    split
    · simpa
    · exact roster_ite (by simpa) (by simpa)

theorem roster_cancelInto (n : Nat) (r : State × List Extent) : (cancelInto n r).1.roster = r.1.roster := by
  unfold cancelInto
  split <;> rfl

theorem roster_formUnmap (held cancelled : List Nat) : (formUnmap v held cancelled o s).roster = s.roster := by
  unfold formUnmap
  dsimp only
  rw [roster_formIntent, foldl_keeps (fun r : State × List Extent => r.1.roster) (fun r n => cancelInto n r)
    (fun r n => roster_cancelInto n r)]
  rfl

theorem roster_validateUnmap (first count : Nat) : (validateUnmap v first count o reads s).roster = s.roster := by
  unfold validateUnmap
  refine roster_ite (by simp) (roster_ite (by simp) (roster_ite (by simp) ?_))
  split
  · rename_i hr
    simpa using roster_of_readCells hr
  · rename_i hr
    have hb := roster_of_readCells hr
    split
    · simpa
    · exact roster_ite (by simpa) (roster_ite (by simpa) ((roster_formUnmap _ _ _ _ _).trans hb))

theorem roster_validateRequest (r : Request) : (validateRequest r o reads s).roster = s.roster := by
  cases r with
  | createVolume v t pool size mode => exact roster_validateCreate v o s t pool size mode
  | deleteVolume v => exact roster_validateDelete v o s
  | resizeVolume v size => exact roster_validateResize v o reads s size
  | setVolumeMode v mode => exact roster_ite (by simp) (roster_ite (by simp) (by simp))
  | noteWritten v i written => exact roster_validateNote v o reads s i written
  | unmap v first count => exact roster_validateUnmap v o reads s first count
  | addSpan n pool length => exact roster_ite (by simp) (roster_ite (by simp) (by simp))
  | drainSpan n on => exact roster_ite (by simp) (roster_ite (by simp) (by simp))
  | removeSpan n => exact roster_ite (by simp) (by simp)
  | _ => exact roster_formIntent _ _ _

theorem roster_validateFront (q : QueueId) : (validateFront q reads s).roster = s.roster := by
  unfold validateFront
  dsimp only
  split
  · exact (roster_validateRequest _ _ _ _).trans (roster_setQueue _ _ _)
  · rfl
  · rfl

end

/-! ## Steps that are due (log 4) -/

theorem roster_takeSlot (s : State) : (takeSlot s).roster = s.roster := (congrArg State.roster (takeSlot_touches s) :)

theorem roster_startApply (s : State) : (startApply s).roster = s.roster := by
  unfold startApply
  split
  · rfl
  · exact roster_ite rfl rfl

theorem roster_takeDue (d : Due) (s : State) : (takeDue d s).roster = s.roster := by
  cases d with
  | slot => exact roster_takeSlot s
  | removal => exact roster_formDeletion [] s
  | ending => exact roster_formDeletion [] s
  | front q => exact roster_validateFront [] s q
  | apply => exact roster_startApply s

theorem roster_takeDues (stop : Due → Bool) (n : Nat) (s : State) : (takeDues stop n s).roster = s.roster := by
  induction n generalizing s with
  | zero => rfl
  | succ n ih =>
    unfold takeDues
    split
    · rfl
    · exact roster_ite rfl ((ih _).trans (roster_takeDue _ s))

/-! ## Effects (R148, Table 8-4) -/

theorem roster_leaveGrant (g : Option Nat) (i : Nat) (s : State) : (leaveGrant g i s).roster = s.roster := by
  unfold leaveGrant
  split
  · rfl
  · split <;> rfl

section
variable (kind : IntentKind) (v i : Nat) (s : State)

theorem roster_applyEntry (x : Extent) (m : Mask) : (applyEntry kind v i x m s).roster = s.roster := by
  have hg := roster_leaveGrant kind.grant? i (s.putEntry v i ⟨x, m⟩)
  unfold applyEntry
  rw [roster_setLatch]
  refine roster_ite ?_ ((roster_raiseMapped _ _).trans ?_)
  all_goals exact (roster_lowerPending _ _ _).trans hg

theorem roster_applyPlacement (x : Extent) : (applyPlacement kind v i x s).1.roster = s.roster := by
  unfold applyPlacement
  split
  · rfl
  · rename_i e _
    exact (roster_setLatch _ _ _).trans (roster_leaveGrant kind.grant? i (s.putEntry v i { e with placement := x }))

theorem roster_applyMask (m : Mask) : (applyMask v i m s).roster = s.roster := by
  unfold applyMask
  split
  · rfl
  · exact roster_ite rfl (roster_setLatch _ _ _)

theorem roster_applyRemove : (applyRemove v i s).1.roster = s.roster := by
  unfold applyRemove
  split
  · exact roster_setLatch _ _ _
  · exact (roster_setLatch _ _ _).trans (roster_lowerMapped _ _)

theorem roster_applySpan (n : SpanId) (st : SpanState) (p : PoolId) (len : Nat) : (applySpan n st p len s).roster = s.roster := by
  unfold applySpan
  dsimp only
  split
  · exact roster_judgeLevel _ p
  · exact roster_judgeLevel _ p
  · exact roster_judgeLevel _ p
  all_goals rfl

theorem roster_applyMode (st : VolState) (t : Nat) (p : PoolId) (size : Nat) :
    (applyMode v st t p size s).roster = s.roster := by
  unfold applyMode
  exact roster_ite (roster_dropGrants _ _ _) rfl

theorem roster_applyEffect (e : Effect) : (applyEffect kind e s).1.roster = s.roster := by
  cases e with
  | setEntry v i x m => exact roster_applyEntry kind v i s x m
  | setPlacement v i x => exact roster_applyPlacement kind v i s x
  | setMask v i m => exact roster_applyMask v i s m
  | removeEntry v i => exact roster_applyRemove v i s
  | setVolume v st t p size =>
    cases kind with
    | volumeCreate => exact applyCreate_keeps State.roster v st t p size s
    | volumeMode mode => exact roster_applyMode v s st t p size
    | deleteEnd => exact applyEnd_keeps State.roster v s
    | _ => rfl
  | setTenant t q => rfl
  | setSpan n st p len => exact roster_applySpan s n st p len
  | setPool p settings => exact roster_judgeLevel _ p
  | setConfig t => rfl

end

/-! ## Actions at DONE (Table 8-5) -/

section
variable (v n : Nat) (i : Intent) (reads : Reads) (s : State)

theorem roster_doneMark : (doneMark v s).roster = s.roster := by
  have hw (l : List Waiter) (b : State) := roster_foldl (f := fun s (w : Waiter) => refuse ⟨w.port, w.tag⟩ .claim .noVolume s)
    (fun _ _ => roster_refuse _ _ _ _) l b
  unfold doneMark
  simp only [roster_continueDeletion, roster_reportVolume]
  split
  · rw [roster_addNotice, hw, roster_setLease, roster_dropGrants]
  · rw [hw, roster_setLease, roster_dropGrants]

theorem roster_doneBatch (f : Option Forming) : (doneBatch v f s).roster = s.roster := by
  unfold doneBatch
  cases f <;> simp

theorem roster_doneEnd : (doneEnd v s).roster = s.roster := by
  unfold doneEnd
  dsimp only
  split <;> simp

theorem roster_doneTrim (removed cancelled : Nat) : (doneTrim v removed cancelled i s).roster = s.roster := by
  unfold doneTrim
  rw [roster_answer?]
  split <;> simp

theorem roster_makeAllocation (p : Port) (first count : Nat)
    (check : BitVec 16 → BitVec 32 → List Extent → BitVec 16) :
    (makeAllocation n p v first count check s).roster = s.roster :=
  (makeAllocation_keeps n p v first count check s State.roster).trans (allocated_keeps n p v first count check s State.roster)

theorem roster_followOn (p : Port) (g : Grant) : (followOn p g reads s).1.roster = s.roster := by
  unfold followOn
  dsimp only
  split_ifs
  · rfl
  · rfl
  · rfl
  · rfl
  · split
    · rename_i hr
      exact roster_of_readCells hr
    · rename_i hr
      have hb := roster_of_readCells hr
      split
      · exact hb
      · dsimp only
        rw [roster_makeAllocation, hb]

theorem roster_doneBind (advance : Bool) : (doneBind n advance i reads s).roster = s.roster := by
  unfold doneBind followOnOf
  split
  · rfl
  · rw [roster_answer?]
    split
    · rfl
    · split
      · exact (roster_followOn _ _ _ _).trans rfl
      · rfl

theorem roster_doneMove : (doneMove v n i s).roster = s.roster := by
  unfold doneMove
  split
  · dsimp only
    split <;> simp
  · rfl
  · rfl

theorem roster_doneActions : (doneActions i reads s).roster = s.roster := by
  obtain ⟨kind, queue, o, requester, effects, forming⟩ := i
  have he (q : QueueId) : (endFlight q s).roster = s.roster := roster_endFlight q s
  have ha (q : QueueId) (code : Byte) (outcome : AnswerOutcome) (body : AnswerBody) :
      (answer? o code outcome body (endFlight q s)).roster = s.roster := (roster_answer? _ _ _ _ _).trans (he q)
  cases kind with
  | volumeCreate => exact ha queue _ _ _
  | volumeResize before after => exact ha queue _ _ _
  | volumeMode mode => exact ha queue _ _ _
  | tenant t => exact ha queue _ _ _
  | pool p => exact ha queue _ _ _
  | config t => exact (roster_answer? _ _ _ _ _).trans (he queue)
  | span request n p => cases request <;> exact ha queue _ _ _
  | bind n advance => exact (roster_doneBind _ _ _ _ _).trans (he queue)
  | deleteMark =>
    cases queue with
    | volume v => exact roster_doneMark v s
    | shelf => exact he .shelf
  | deleteBatch =>
    cases queue with
    | volume v => exact roster_doneBatch v s forming
    | shelf => exact he .shelf
  | deleteEnd =>
    cases queue with
    | volume v => exact roster_doneEnd v s
    | shelf => exact he .shelf
  | note x =>
    cases queue with
    | volume v => exact ha _ _ _ _
    | shelf => exact he .shelf
  | trim cancelled =>
    cases queue with
    | volume v => exact (roster_doneTrim _ _ _ _ _).trans (he _)
    | shelf => exact he .shelf
  | move n =>
    cases queue with
    | volume v => exact (roster_doneMove _ _ _ _).trans (he _)
    | shelf => exact he .shelf

end

/-! ## Acknowledgements and failed writes (R147 to R149, R160) -/

theorem roster_changeFront (f : LogIntent → LogIntent) (s : State) : (changeFront f s).roster = s.roster := by
  unfold changeFront
  split <;> rfl

theorem roster_effectCorrected (c : Bool) (e : Effect) (s : State) : (effectCorrected c e s).roster = s.roster := by
  unfold effectCorrected
  split
  · exact roster_correctedRead _ _
  · rfl
  · rfl

theorem roster_ackEffect (c : Bool) (s : State) : (ackEffect c s).roster = s.roster := by
  unfold ackEffect
  split
  · rfl
  · rename_i l e _
    have hc : (effectCorrected c e { s with store := s.store.write e }).roster = s.roster := roster_effectCorrected _ _ _
    exact roster_ite ((roster_changeFront _ _).trans ((roster_applyEffect _ _ _).trans hc)) ((roster_changeFront _ _).trans hc)

theorem roster_failEffectRead (s : State) : (failEffectRead s).roster = s.roster := by
  unfold failEffectRead
  split
  · rfl
  · split
    · rfl
    · exact (roster_poisonedRead _ _ _).trans (roster_changeFront _ _)

theorem roster_ackRetire (reads : Reads) (s : State) : (ackRetire reads s).roster = s.roster := by
  unfold ackRetire
  split
  · rfl
  · rename_i l _
    exact roster_ite ((roster_doneActions _ _ _).trans (freeSlot_keeps State.roster l s)) ((roster_changeFront _ _).trans rfl)

theorem roster_failEffect (c : Bool) (s : State) : (failEffect c s).roster = s.roster := by
  unfold failEffect
  split
  · rfl
  · exact (roster_storeFault _ _ _ _).trans ((roster_effectCorrected _ _ _).trans (roster_changeFront _ _))

theorem roster_failRetire (s : State) : (failRetire s).roster = s.roster := by
  unfold failRetire
  split
  · rfl
  · exact (roster_storeFault _ _ _ _).trans (roster_changeFront _ _)

end Sys2Proof.Machine
end

section
/-! PROOFS. The head table, the fence lines and the commands that wait, under recovery and under the requests, and the laws that
follow for every command. -/

namespace Sys2Proof.Machine

open State

variable {s u : State}

/-! ## Replay (R154, R157) -/

section
variable (reads : Reads) (s : State)

theorem roster_areaFault (a : StoreArea) (f : ReadFault) : (areaFault a f s).roster = s.roster := by
  cases f with
  | corrected => exact roster_correctedRead s a
  | uncorrectable => exact roster_storeFault _ _ _ _

theorem roster_slotFaults : (slotFaults reads s).roster = s.roster := roster_foldl (fun b _ => roster_areaFault b _ _) _ s

theorem roster_logged : (logged reads s).roster = s.roster := by
  have hk (t : State) : (readLog.keep reads t).roster = t.roster := roster_ite (roster_slotFaults _ _) (roster_slotFaults _ _)
  refine roster_ite ?_ rfl
  unfold readLog
  split
  · exact (roster_slotFaults _ _).trans (roster_areaFault s _ _)
  · exact (hk _).trans (roster_areaFault s _ _)
  · exact (hk _).trans rfl

theorem roster_replayRead (e : Effect) : (replayRead reads e s).1.roster = s.roster := by
  unfold replayRead
  split
  · rfl
  · split
    · rfl
    · exact roster_correctedRead s _
    · exact roster_poisonedRead _ s _

end

/-- The state behind the read of an effect in replay. -/
theorem roster_of_replayRead {reads : Reads} {e : Effect} {b : Bool} (h : replayRead reads e s = (u, b)) :
    u.roster = s.roster := by
  have := roster_replayRead reads s e
  rwa [h] at this

section
variable (reads : Reads) (s : State)

theorem roster_replayEffects (l : List Effect) (lost : Bool) : (replayEffects reads l (s, lost)).1.roster = s.roster := by
  induction l generalizing s lost with
  | nil => rfl
  | cons e l ih =>
    unfold replayEffects
    split
    · rename_i t h
      have ht : { t with store := t.store.write e }.roster = s.roster := (roster_of_replayRead h : t.roster = s.roster)
      exact (ih _ lost).trans ht
    · rename_i t h
      exact (ih t true).trans (roster_of_replayRead h)

theorem roster_replayItem (i : ReplayItem) : (replayItem reads i s).roster = s.roster := by
  unfold replayItem
  split
  · rename_i image _ _
    have hr := roster_replayEffects reads s image.effects false
    exact roster_ite hr (roster_ite hr hr)
  · rfl
  · rfl

theorem roster_replayAll (l : List ReplayItem) : (replayAll reads l s).roster = s.roster :=
  roster_foldl (fun b i => roster_replayItem reads b i) l s

theorem roster_endReplay : (endReplay s).roster = s.roster := (congrArg State.roster (endReplay_touches s) :)

theorem roster_replayStep : (replayStep reads s).roster = s.roster := by
  have hl := roster_logged reads s
  have hr : (replayOne reads (logged reads s)).roster = s.roster := (roster_replayAll reads _ _).trans hl
  exact roster_ite ((roster_endReplay _).trans (roster_ite hr hl)) rfl

/-! ## The sweep and the end (R155, R156) -/

theorem roster_sweepCell (v i : Nat) (cell : Option Entry) (f : Option ReadFault) :
    (sweepCell v i cell f s).roster = s.roster := by
  have ht (t : State) : (sweepCell.take v i cell t).roster = t.roster := by
    unfold sweepCell.take countEntry
    split
    · rfl
    · exact roster_ite (roster_poisonedRead v t i) (roster_raiseMapped v _)
  unfold sweepCell
  split
  · exact roster_poisonedRead v s i
  · exact (ht _).trans (roster_correctedRead s _)
  · exact ht s

theorem roster_sweepMaps (view : MapStore) : (sweepMaps view reads s).roster = s.roster :=
  roster_foldl (fun b _ => roster_foldl (fun b _ => roster_sweepCell b _ _ _ _) _ b) _ s

theorem roster_sweepTables : (sweepTables reads s).roster = s.roster := by
  have hf : ((tableReports reads).foldl (fun s e => areaFault e.1 e.2 s) s).roster = s.roster :=
    roster_foldl (f := fun s (e : StoreArea × ReadFault) => areaFault e.1 e.2 s) (fun b e => roster_areaFault b e.1 e.2) _ s
  have hm := (roster_sweepMaps reads (loadTables (tableView reads s.store) _) (tableView reads s.store)).trans hf
  unfold sweepTables
  exact hm

theorem roster_sweepStep : (sweepStep reads s).roster = s.roster := by
  have hl := roster_logged reads s
  have hr : (replayRest (logged reads s)).roster = s.roster := roster_ite hl ((roster_replayAll [] _ _).trans hl)
  exact roster_ite ((roster_sweepTables reads _).trans ((roster_endReplay _).trans hr)) rfl

theorem roster_finishRecovery : (finishRecovery s).roster = s.roster := by
  cases hf : s.recovery.firstFault with
  | none =>
    rw [finishRecovery_serving hf]
    exact resumeAll_keeps State.roster _ _
  | some c =>
    rw [finishRecovery_frozen hf]
    rfl

theorem roster_endStep : (endStep s).roster = s.roster :=
  roster_ite ((roster_finishRecovery _).trans (roster_sweepStep [] s)) rfl

/-! ## Failed writes (R157, R160) -/

theorem roster_failReplayEffect (n : Nat) : (failReplayEffect n reads s).roster = s.roster := by
  unfold failReplayEffect
  refine roster_ite ?_ rfl
  split
  · split
    · split
      · rename_i hr
        exact (roster_storeFault _ _ _ _).trans
          ((roster_of_replayRead hr).trans ((roster_replayEffects reads _ _ false).trans (roster_logged reads s)))
      · rfl
    · rfl
  · rfl

theorem roster_failReplayRetirement : (failReplayRetirement reads s).roster = s.roster := by
  unfold failReplayRetirement
  refine roster_ite ?_ rfl
  split
  · rename_i image _
    have hr := (roster_replayEffects reads _ image.effects false).trans (roster_logged reads s)
    split
    · rename_i hb
      rw [hb] at hr
      exact (roster_storeFault _ _ _ _).trans hr
    · rfl
  · rfl
  · rfl

theorem roster_failWrite (target : WriteTarget) : (failWrite target s).roster = s.roster := by
  cases target with
  | logImage slot => exact roster_ite (roster_storeFault _ _ _ _) rfl
  | effect c => exact roster_failEffect c s
  | retirement => exact roster_failRetire s
  | bootCount => exact roster_ite (roster_storeFault _ _ _ _) rfl
  | writeBack a => exact roster_ite (roster_storeFault _ _ _ _) rfl
  | replayEffect k reads => exact roster_failReplayEffect reads s k
  | replayRetirement reads => exact roster_failReplayRetirement reads s

end

/-! ## Requests on leases -/

section
variable (o : Origin) {kind : RequestKind} {k : State → State}

theorem roster_onVolume (v : Nat) (hk : (k s).roster = s.roster) : (onVolume o kind v k s).roster = s.roster := by
  unfold onVolume
  split
  · simp
  · exact hk

theorem roster_unlessFrozen (hk : (k s).roster = s.roster) : (unlessFrozen o kind k s).roster = s.roster :=
  roster_ite (by simp) hk

variable (s : State) (v : Nat)

theorem roster_takeLease (orphan : Bool) : (takeLease o v orphan s).roster = s.roster := by
  unfold takeLease answerLeased
  rw [roster_reportVolume, roster_answer, roster_setLease]

theorem roster_judgeClaim (wait demand : Bool) : (judgeClaim o v wait demand s).roster = s.roster := by
  unfold judgeClaim
  dsimp only
  split
  · exact roster_takeLease o s v _
  · refine roster_ite (roster_answer _ _ _ _ _) (roster_ite (roster_refuseWith _ _ _ _ _) ?_)
    rw [joinWaiters_eq, roster_addNotice, roster_setLease]

theorem roster_claimFlags (wait demand : Byte) : (claimFlags o v wait demand s).roster = s.roster := by
  unfold claimFlags
  split
  · exact roster_ite (by simp) (roster_judgeClaim o s v _ _)
  · simp
  · simp

theorem roster_judgeRelease : (judgeRelease o v s).roster = s.roster := by
  unfold judgeRelease answerReleased
  dsimp only
  refine roster_ite (by simp) ?_
  split <;> simp

/-! ## Requests of the part -/

theorem roster_judgeConfigure (period : Byte) (l g d gr : Nat) : (judgeConfigure o period l g d gr s).roster = s.roster := by
  unfold judgeConfigure
  refine roster_ite (by simp) ?_
  split
  · simp
  · exact roster_ite (by simp) (by simp)

theorem roster_judgeClearFault (source : Byte) : (judgeClearFault o source s).roster = s.roster := by
  unfold judgeClearFault
  split
  · simp
  · exact (roster_answer _ _ _ _ _).trans rfl

/-! ## Requests on volumes and tenants -/

theorem roster_judgeCreate (t : Nat) (pool : Byte) (size : Nat) (mode : Byte) :
    (judgeCreate o v t pool size mode s).roster = s.roster := by
  unfold judgeCreate
  refine roster_ite (by simp) (roster_ite (by simp) ?_)
  split
  · exact roster_ite (by simp) (roster_ite (by simp) (roster_unlessFrozen o (by simp)))
  · simp
  · simp

theorem roster_judgeResize (size : Nat) : (judgeResize o v size s).roster = s.roster :=
  roster_ite (by simp) (roster_unlessFrozen o (by simp))

theorem roster_judgeMode (mode : Byte) : (judgeMode o v mode s).roster = s.roster := by
  unfold judgeMode
  split
  · simp
  · exact roster_unlessFrozen o (by simp)

theorem roster_judgeQueryVolume (clear : Byte) : (judgeQueryVolume o v clear s).roster = s.roster := by
  unfold judgeQueryVolume
  refine roster_ite (by simp) (roster_ite (by simp) ?_)
  split
  · simp
  · exact roster_ite (by simp) (by simp)

theorem roster_judgeSetTenant (t : Nat) (quota : BitVec 32) : (judgeSetTenant o t quota s).roster = s.roster :=
  roster_ite (by simp) (roster_ite (by simp) (roster_unlessFrozen o (by simp)))

theorem roster_judgeQueryTenant (t : Nat) : (judgeQueryTenant o t s).roster = s.roster :=
  roster_ite (by simp) (by simp)

theorem roster_judgeResolve (first count : Nat) (reads : Reads) : (judgeResolve o v first count reads s).roster = s.roster :=
  roster_ite (by simp) (roster_ite (by simp) (by simp))

theorem roster_noteNothing (i : Nat) (reads : Reads) : (noteNothing o v i reads s).roster = s.roster := by
  unfold noteNothing
  refine roster_ite (by simp) ?_
  split
  · rename_i hr
    simpa using roster_of_readCells hr
  · rename_i hr
    have hb := roster_of_readCells hr
    split <;> simpa

theorem roster_judgeNoteWritten (i : Nat) (written : Mask) (reads : Reads) :
    (judgeNoteWritten o v i written reads s).roster = s.roster :=
  roster_unlessFrozen o (roster_ite (roster_noteNothing o s v i reads) (by simp))

theorem roster_judgeUnmap (first count : Nat) : (judgeUnmap o v first count s).roster = s.roster :=
  roster_ite (by simp) (by simp)

/-! ## Requests on grants -/

theorem roster_judgeReserve (first count : Nat) (reads : Reads) : (judgeReserve o v first count reads s).roster = s.roster := by
  unfold judgeReserve
  refine roster_ite (by simp) (roster_ite (by simp) (roster_ite (by simp) (roster_ite (by simp) ?_)))
  split
  · rename_i hr
    simpa using roster_of_readCells hr
  · rename_i hr
    have hb := roster_of_readCells hr
    split
    · simpa
    · rw [roster_answer, roster_makeAllocation, hb]

theorem roster_bindForm (n : Nat) (serial check : BitVec 16) (advance : Byte) (written : List Mask) :
    (bindForm o n serial check advance written s).roster = s.roster := by
  have hbind (a : Bool) : (judgeBind o n serial check a written s).roster = s.roster := by
    unfold judgeBind
    split
    · simp
    · exact roster_ite (by simp) (roster_ite (by simp) (roster_ite (by simp) (roster_ite (by simp)
        (roster_ite (by simp) (by simp)))))
  unfold bindForm
  split
  · simp
  · exact roster_ite (by simp) (hbind _)

theorem roster_judgeAbandon (n : Nat) (serial : BitVec 16) : (judgeAbandon o n serial s).roster = s.roster := by
  unfold judgeAbandon
  refine roster_ite (by simp) ?_
  split
  · simp
  · exact roster_ite (by simp) (roster_ite (by simp) (by simp))

theorem roster_makeRelocation (i n : Nat) (e : Entry) (x : Extent) : (makeRelocation o v i n e x s).roster = s.roster := by
  unfold makeRelocation
  rw [roster_answer, roster_judgeLevel]
  rfl

theorem roster_judgeRelocate (i : Nat) (reads : Reads) : (judgeRelocate o v i reads s).roster = s.roster := by
  unfold judgeRelocate
  refine roster_ite (by simp) (roster_ite (by simp) ?_)
  split
  · rename_i hr
    simpa using roster_of_readCells hr
  · rename_i hr
    have hb := roster_of_readCells hr
    split
    · simpa
    · refine roster_ite (by simpa) (roster_ite (by simpa) (roster_ite (by simpa) ?_))
      split
      · exact (roster_refuse _ _ _ _).trans hb
      · split
        · rw [roster_makeRelocation, hb]
        · exact (roster_refuseWith _ _ _ _ _).trans hb
        · exact (roster_refuseWith _ _ _ _ _).trans hb

theorem roster_judgeCompleteRelocate (n : Nat) (serial check : BitVec 16) :
    (judgeCompleteRelocate o n serial check s).roster = s.roster := by
  unfold judgeCompleteRelocate
  refine roster_ite (by simp) ?_
  split
  · simp
  · refine roster_ite (by simp) (roster_ite (by simp) (roster_ite (by simp) (roster_ite (by simp)
      (roster_ite (by simp) ?_))))
    rw [roster_enqueue, roster_setGrant]
    rfl

/-! ## Requests on the shelf, and Watch -/

theorem roster_judgeAddSpan (span pool : Byte) (length : Nat) : (judgeAddSpan o span pool length s).roster = s.roster := by
  unfold judgeAddSpan
  split
  · exact roster_ite (by simp) (roster_unlessFrozen o (by simp))
  · simp
  · simp

theorem roster_judgeDrainSpan (span setting : Byte) : (judgeDrainSpan o span setting s).roster = s.roster := by
  unfold judgeDrainSpan
  split
  · exact roster_unlessFrozen o (by simp)
  · simp
  · simp

theorem roster_judgeRemoveSpan (span : Byte) : (judgeRemoveSpan o span s).roster = s.roster := by
  unfold judgeRemoveSpan
  split
  · exact roster_unlessFrozen o (by simp)
  · simp

theorem roster_judgeSetPool (pool : Byte) (w c f : Nat) : (judgeSetPool o pool w c f s).roster = s.roster := by
  unfold judgeSetPool
  split
  · simp
  · exact roster_ite (by simp) (roster_unlessFrozen o (by simp))

theorem roster_judgeQueryPool (pool : Byte) : (judgeQueryPool o pool s).roster = s.roster := by
  unfold judgeQueryPool
  split <;> simp

theorem roster_judgeWatch (timeout : Nat) (items : List WatchItem) : (judgeWatch o timeout items s).roster = s.roster := by
  have hitems (es : List WatchExpect) : (judgeItems o timeout es s).roster = s.roster := by
    unfold judgeItems
    refine roster_ite (by simp) ?_
    split
    · simp
    · exact roster_ite (by simp) rfl
  unfold judgeWatch
  split
  · simp
  · exact roster_ite (by simp) (hitems _)

theorem roster_receiveMalformed (code : Byte) (body : List Byte) : (receiveMalformed o code body s).roster = s.roster := by
  have hr (b : State) : (refuseForm o code b).roster = b.roster := roster_ite (by simp) (by simp)
  exact roster_ite (roster_ite rfl (roster_ite rfl ((hr _).trans rfl))) rfl

end

/-! ## Links and the time base -/

section
variable (s : State)

theorem roster_loseLink (p : Port) : (loseLink p s).roster = s.roster := by
  unfold loseLink
  rw [roster_addNotice]
  exact (roster_departAll p (stripWork p (s.updatePort p HeadPort.lostLink))).trans (stripWork_keeps State.roster p _)

theorem roster_expireGrant : (expireGrant s).roster = s.roster := by
  unfold expireGrant
  split
  · simp
  · rfl

theorem roster_expireRecall : (expireRecall s).roster = s.roster := by
  unfold expireRecall recallFrom
  split
  · simp
  · rfl

theorem roster_expireWatch : (expireWatch s).roster = s.roster := by
  unfold expireWatch timeoutWatch
  split
  · rw [roster_answer]
    rfl
  · rfl

end

/-! ## The membership -/

/-- What every command keeps: the commands that wait, and the law of the fence lines. -/
structure Steady (s u : State) : Prop where
  pending : u.pending = s.pending
  fences : fenceLaw s → fenceLaw u

theorem Steady.of_roster (h : u.roster = s.roster) : Steady s u where
  pending := (congrArg (fun r => r.2.2) h :)
  fences hs p := by
    have hh : u.heads = s.heads := (congrArg (fun r => r.1) h :)
    have hf : u.fences = s.fences := (congrArg (fun r => r.2.1) h :)
    unfold State.joined
    rw [hh, hf]
    exact hs p

theorem Steady.trans {b : State} (h : Steady s b) (h' : Steady b u) : Steady s u :=
  ⟨h'.pending.trans h.pending, fun hs => h'.fences (h.fences hs)⟩

theorem Steady.refl (s : State) : Steady s s := .of_roster rfl

theorem Steady.ite {c : Prop} [Decidable c] {a b : State} (ha : Steady s a) (hb : Steady s b) :
    Steady s (if c then a else b) := by
  split
  · exact ha
  · exact hb

theorem Steady.foldl {α : Type} {f : State → α → State} (h : ∀ b a, Steady b (f b a)) (l : List α) (s : State) :
    Steady s (l.foldl f s) := by
  induction l generalizing s with
  | nil => exact .refl s
  | cons a l ih => exact (h s a).trans (ih _)

/-- A head's entry and its fence line are written together (R94). -/
theorem steady_setHead (p : Port) (h : Head) (s : State) : Steady s (setHead p h s) where
  pending := rfl
  fences hs q := by
    unfold State.joined setHead
    dsimp only
    rw [putAt_get, putAt_get]
    split
    · cases h.isJoined <;> decide
    · exact hs q

/-- Of the head table only the entries move, and none of them to or from JOINED. -/
theorem steady_mapHeads {f : Head → Head} (hf : ∀ h, (f h).isJoined = h.isJoined) (hh : u.heads = mapAt f s.heads)
    (hl : u.fences = s.fences) (hp : u.pending = s.pending) : Steady s u where
  pending := hp
  fences hs p := by
    unfold State.joined
    rw [hl, hh, mapAt_get, hf]
    exact hs p

theorem steady_joinHead (p : Port) (i : BitVec 32) (s : State) : Steady s (joinHead p i s) :=
  (steady_setHead p _ s).trans (.of_roster rfl)

theorem roster_departed (p : Port) (orphan : Bool) (empty : Hold) (r : Reason) (s : State) :
    (departed p orphan empty r s).roster = s.roster := roster_of_erase (departed_erase p orphan empty r s)

theorem steady_lapse (p : Port) (s : State) : Steady s (lapse p s) := by
  cases hm : s.heads.get p with
  | joined m =>
    rw [lapse_joined hm]
    refine (steady_setHead p (.lapsed m.incarnation) s).trans (.of_roster ?_)
    rw [roster_releaseTest, roster_notifyJoined]
    exact (roster_departed _ _ _ _ _).trans (roster_dropGrants _ _ _)
  | absent =>
    unfold lapse
    rw [hm]
    exact .refl s
  | lapsed i =>
    unfold lapse
    rw [hm]
    exact .refl s

theorem steady_leaveHead (p : Port) (s : State) : Steady s (leaveHead p s) :=
  (steady_setHead p .absent s).trans (.of_roster (roster_of_erase (leaveHead_lost p s)))

theorem steady_judgeJoin (o : Origin) (i : BitVec 32) (s : State) : Steady s (judgeJoin o i s) := by
  have ha (b : State) : Steady b (answerJoined o i b) := .of_roster (roster_answer _ _ _ _ _)
  unfold judgeJoin
  split
  · exact (steady_joinHead _ _ s).trans (ha _)
  · exact .ite (.of_roster (by simp)) ((steady_joinHead _ _ s).trans (ha _))
  · exact .ite ((steady_setHead _ _ s).trans (ha _)) (((steady_lapse _ s).trans (steady_joinHead _ _ _)).trans (ha _))

theorem steady_judgeRenew (o : Origin) (i : BitVec 32) (ack : Gen) (s : State) : Steady s (judgeRenew o i ack s) := by
  unfold judgeRenew
  split
  · refine .ite (.of_roster (by simp)) (.ite (.of_roster (by simp)) ?_)
    rename_i m _
    refine (steady_setHead o.port (.joined (renewed m ack s)) s).trans (.of_roster ?_)
    rw [roster_answer]
    exact roster_ite (roster_releaseTest _) rfl
  · exact .of_roster (by simp)
  · exact .of_roster (by simp)

theorem steady_restart (cause : ResetCause) (boot : Option ReadFault) (s : State) : Steady s (restart cause boot s) := by
  have hb (b : State) : (bootFault boot b).roster = b.roster := by
    unfold bootFault
    split
    · exact roster_storeFault b _ _ _
    · exact roster_correctedRead b _
    · rfl
  refine Steady.trans ⟨?_, fun _ p => ?_⟩ (.of_roster (hb _))
  · rfl
  · unfold State.joined State.cold
    dsimp only
    rw [replicate_get, replicate_get]
    decide

theorem steady_tickAll (s : State) : Steady s (tickAll s) :=
  steady_mapHeads (f := Head.ticked) (fun h => by cases h <;> rfl) rfl rfl rfl

theorem steady_expireLiveness (s : State) : Steady s (expireLiveness s) := by
  unfold expireLiveness
  split
  · exact steady_lapse _ s
  · exact .refl s

theorem steady_expireQuiet (s : State) : Steady s (expireQuiet s) := by
  have hw (tag : Gen) : Steady s { s with heads := mapAt (Head.warned tag) s.heads, stall := .warned s.timing.grace tag } :=
    steady_mapHeads (f := Head.warned tag) (fun h => by cases h <;> rfl) rfl rfl rfl
  unfold expireQuiet
  split
  · exact (hw _).trans (.foldl (fun _ _ => .of_roster (roster_addNotice _ _ _)) _ _)
  all_goals exact .refl s

theorem steady_expireWarned (s : State) : Steady s (expireWarned s) := by
  unfold expireWarned
  split
  · exact .foldl (fun b p => .ite (steady_lapse p b) (.refl b)) _ s
  all_goals exact .refl s

/-! ## Every command -/

/-- A command ends in a next state, and keeps what every command keeps. -/
def Answers (r : Host.Outcome State Fault Refusal) (s : State) : Prop := ∃ u, r = .next u ∧ Steady s u

section
variable {k : State → State}

theorem steady_takeDues (stop : Due → Bool) (n : Nat) (s : State) : Steady s (takeDues stop n s) :=
  .of_roster (roster_takeDues stop n s)

theorem answers_request {p : Port} {t : Tag} {kind : RequestKind} (hk : ∀ b, Steady b (k b)) :
    Answers (request p t kind k s) s := by
  have ha (b : State) : Steady b (admitRequest ⟨p, t⟩ kind k b) :=
    .ite (.of_roster (by simp)) (.ite (.of_roster (by simp)) (hk b))
  have hr (b : State) : Steady b (receive ⟨p, t⟩ kind.code (admitRequest ⟨p, t⟩ kind k) b) :=
    .ite (.refl b) (.ite (.of_roster rfl) (Steady.trans (b := setBusy ⟨p, t⟩ true b) (.of_roster rfl) (ha _)))
  exact ⟨_, rfl, (steady_takeDues _ _ s).trans (hr _)⟩

theorem answers_event (hk : ∀ b, Steady b (k b)) : Answers (event k s) s :=
  ⟨_, rfl, (steady_takeDues _ _ s).trans (hk _)⟩

theorem answers_stepDue {d : Due} (hk : ∀ b, Steady b (k b)) : Answers (stepDue d k s) s := by
  have hf := steady_takeDues (fun e => decide (e = d)) (dueBound s) s
  exact ⟨_, rfl, .ite (hf.trans (hk _)) hf⟩

/-- A request whose rule leaves the roster. -/
theorem answers_request_roster {p : Port} {t : Tag} {kind : RequestKind} (hk : ∀ b, (k b).roster = b.roster) :
    Answers (request p t kind k s) s := answers_request (fun b => .of_roster (hk b))

/-- An event whose effect leaves the roster. -/
theorem answers_event_roster (hk : ∀ b, (k b).roster = b.roster) : Answers (event k s) s :=
  answers_event (fun b => .of_roster (hk b))

/-- A due step as a command of its own, which leaves the roster. -/
theorem answers_stepDue_roster {d : Due} (hk : ∀ b, (k b).roster = b.roster) : Answers (stepDue d k s) s :=
  answers_stepDue (fun b => .of_roster (hk b))

end

theorem answers_exec (c : Instr) (s : State) : Answers (exec c s) s := by
  cases c with
  | join p t i => exact answers_request (steady_judgeJoin _ i)
  | renew p t i ack => exact answers_request (steady_judgeRenew _ i ack)
  | leave p t => exact answers_request (fun b => (steady_leaveHead p b).trans (.of_roster (roster_answer _ _ _ _ _)))
  | configure p t period l g d gr => exact answers_request_roster (fun b => roster_judgeConfigure _ b _ _ _ _ _)
  | queryPart p t => exact answers_request_roster (fun _ => roster_answer _ _ _ _ _)
  | queryFaults p t => exact answers_request_roster (fun _ => roster_answer _ _ _ _ _)
  | clearFault p t source => exact answers_request_roster (fun b => roster_judgeClearFault _ b _)
  | claim p t v wait demand =>
    exact answers_request_roster (fun b => roster_onVolume _ _ (roster_claimFlags _ b _ _ _))
  | release p t v => exact answers_request_roster (fun b => roster_onVolume _ _ (roster_judgeRelease _ b _))
  | createVolume p t v te pool size mode => exact answers_request_roster (fun b => roster_judgeCreate _ b _ _ _ _ _)
  | deleteVolume p t v =>
    exact answers_request_roster (fun b => roster_onVolume _ _ (roster_unlessFrozen _ (roster_enqueue _ _ _)))
  | resizeVolume p t v size => exact answers_request_roster (fun b => roster_onVolume _ _ (roster_judgeResize _ b _ _))
  | setVolumeMode p t v mode => exact answers_request_roster (fun b => roster_onVolume _ _ (roster_judgeMode _ b _ _))
  | queryVolume p t v clear => exact answers_request_roster (fun b => roster_judgeQueryVolume _ b _ _)
  | setTenant p t te quota => exact answers_request_roster (fun b => roster_judgeSetTenant _ b _ _)
  | queryTenant p t te => exact answers_request_roster (fun b => roster_judgeQueryTenant _ b _)
  | resolve p t v first count reads =>
    exact answers_request_roster (fun b => roster_onVolume _ _ (roster_judgeResolve _ b _ _ _ _))
  | noteWritten p t v i written reads =>
    exact answers_request_roster (fun b => roster_onVolume _ _ (roster_judgeNoteWritten _ b _ _ _ _))
  | unmap p t v first count =>
    exact answers_request_roster (fun b => roster_unlessFrozen _ (roster_onVolume _ _ (roster_judgeUnmap _ b _ _ _)))
  | reserve p t v first count reads =>
    exact answers_request_roster (fun b => roster_unlessFrozen _ (roster_onVolume _ _ (roster_judgeReserve _ b _ _ _ _)))
  | bind p t g serial check advance written =>
    exact answers_request_roster (fun b => roster_unlessFrozen _ (roster_bindForm _ b _ _ _ _ _))
  | abandon p t g serial => exact answers_request_roster (fun b => roster_judgeAbandon _ b _ _)
  | relocate p t v i reads =>
    exact answers_request_roster (fun b => roster_unlessFrozen _ (roster_onVolume _ _ (roster_judgeRelocate _ b _ _ _)))
  | completeRelocate p t g serial check =>
    exact answers_request_roster (fun b => roster_unlessFrozen _ (roster_judgeCompleteRelocate _ b _ _ _))
  | addSpan p t span pool length => exact answers_request_roster (fun b => roster_judgeAddSpan _ b _ _ _)
  | drainSpan p t span setting => exact answers_request_roster (fun b => roster_judgeDrainSpan _ b _ _)
  | removeSpan p t span => exact answers_request_roster (fun b => roster_judgeRemoveSpan _ b _)
  | setPool p t pool w c f => exact answers_request_roster (fun b => roster_judgeSetPool _ b _ _ _ _)
  | queryPool p t pool => exact answers_request_roster (fun b => roster_judgeQueryPool _ b _)
  | watch p t timeout items => exact answers_request_roster (fun b => roster_judgeWatch _ b _ _)
  | unknownRequestKind p t code body => exact answers_event_roster (fun b => roster_receiveMalformed _ b _ _)
  | frameDamaged p frame => exact answers_event_roster (fun _ => roster_ite rfl rfl)
  | powerOn boot =>
    exact answers_event (k := fun s => { restart .power boot s with faults := .clear })
      (fun b => (steady_restart .power boot b).trans (.of_roster rfl))
  | lineReset boot => exact answers_event (steady_restart .line boot)
  | linkUp p =>
    exact answers_event_roster (k := fun s => if s.linkUp p then s else s.updatePort p HeadPort.trained)
      (fun _ => roster_ite rfl rfl)
  | linkDown p =>
    exact answers_event_roster (k := fun s => if s.linkUp p then loseLink p s else s)
      (fun b => roster_ite (roster_loseLink b p) rfl)
  | answerSent p =>
    exact answers_event_roster (k := fun s => if s.linkUp p then s.updatePort p HeadPort.sent else s)
      (fun _ => roster_ite rfl rfl)
  | noticeDelivered p =>
    exact answers_event_roster (k := fun s => if s.linkUp p then s.updatePort p HeadPort.delivered else s)
      (fun _ => roster_ite rfl rfl)
  | tick => exact answers_event steady_tickAll
  | livenessExpiry => exact answers_event steady_expireLiveness
  | grantExpiry => exact answers_event_roster roster_expireGrant
  | recallExpiry => exact answers_event_roster roster_expireRecall
  | stallExpiryQuiet => exact answers_event steady_expireQuiet
  | stallExpiryWarned => exact answers_event steady_expireWarned
  | watchTimeout => exact answers_event_roster roster_expireWatch
  | validate q reads => exact answers_stepDue_roster (fun b => roster_validateFront reads b q)
  | logSlotTaken => exact answers_stepDue_roster roster_takeSlot
  | logWriteAck slot => exact answers_event_roster (fun _ => roster_ite rfl rfl)
  | applyStart => exact answers_stepDue_roster roster_startApply
  | effectWriteAck c => exact answers_event_roster (roster_ackEffect c)
  | retireAck reads => exact answers_event_roster (roster_ackRetire reads)
  | storeWriteFailed target => exact answers_event_roster (fun b => roster_failWrite b target)
  | recoveryReplayIntent reads => exact answers_event_roster (roster_replayStep reads)
  | recoverySweep reads => exact answers_event_roster (roster_sweepStep reads)
  | recoveryEnd => exact answers_event_roster roster_endStep
  | deletionAdmitted reads => exact answers_stepDue_roster (roster_formDeletion reads)
  | effectReadUncorrectable => exact answers_event_roster roster_failEffectRead

/-- Settles O2: every handler answers with a next state, and none of them writes the queue of the commands that wait. -/
theorem everyCommandAnswersNext : Obligations.EveryCommandAnswersNext := by
  intro c s
  obtain ⟨u, hu, hk⟩ := answers_exec c s
  exact ⟨u, hu, hk.pending⟩

/-- Settles O3: only the operations of the membership and the resets write the fence lines, each with the entry of its head. -/
theorem fenceLawKept : Obligations.FenceLawKept := by
  intro s u hs h
  unfold step at h
  split at h
  · cases h
    exact hs
  · rename_i c rest _
    obtain ⟨b, hb, hk⟩ := answers_exec c { s with pending := rest }
    cases hb.symm.trans h
    exact hk.fences hs

end Sys2Proof.Machine
end
